-- ==== Sys2Proof/Word.lean ====
section
/-!
DEFINITION. The words the links of the WD-432 carry, and saturating counting.
-/
namespace Sys2Proof

/-- An 8-bit byte of a line port or drop bus frame. -/
abbrev Byte := BitVec 8

/-- A 16-bit word: a Body Tag, a PSN, an Option Word, a stamp or a check. -/
abbrev Word := BitVec 16

/-- A count that stays at its limit once there: `n` more on `a`, staying at `limit`. -/
def satAdd (limit a n : Nat) : Nat := min limit (a + n)

end Sys2Proof
end

