-- ==== Sys2Proof/Syntax.lean ====
section
/-!
DEFINITION. The commands of the WD-432: one constructor of `Instr` for each row of the opcode table, with the
fields its frame, reply or event carries, as they arrive and before any check.
-/
namespace Sys2Proof

/-- The level of a presence input (R66). -/
inductive Level where
  | low
  | high
  deriving DecidableEq, Repr, Inhabited

/-- The sense of a station (R67): which level means a body is present. -/
inductive Sense where
  | highPresent
  | lowPresent
  deriving DecidableEq, Repr, Inhabited

/-- The disposition of a style (R21). -/
inductive Disposition where
  | unknown
  | weld
  | pass
  | reject
  deriving DecidableEq, Repr, Inhabited

/-- The arrival source of a station (R68). -/
inductive Source where
  | line
  | frame
  | both
  deriving DecidableEq, Repr, Inhabited

/-- The unknown policy of the layout (R18). -/
inductive Policy where
  | hold
  | pass
  deriving DecidableEq, Repr, Inhabited

/-- The rounding mode of the layout (R104). -/
inductive Rounding where
  | nearestEven
  | halfUp
  | down
  | up
  deriving DecidableEq, Repr, Inhabited

/-- The pacing mode of a drop bus (R168). -/
inductive Pacing where
  | auto
  | paced
  deriving DecidableEq, Repr, Inhabited

/-- The roles a port's straps give it (R176). -/
structure Roles where
  zone : Bool
  sequence : Bool
  library : Bool
  deriving DecidableEq, Repr, Inhabited

/-- The twelve role straps, three for each line port (R176). -/
structure Straps where
  lp0 : Roles
  lp1 : Roles
  lp2 : Roles
  lp3 : Roles
  deriving DecidableEq, Repr, Inhabited

/-- What every request frame brings besides its fields: the line port it came on, its request id, and whether its
payload length is the one the request's fields and counts give (R177; for a request without payload, 0). -/
structure Hdr where
  port : Fin 4
  id : Byte
  lengthOk : Bool
  deriving DecidableEq, Repr, Inhabited

/-- One entry of a SEQ APPEND payload (R191). -/
structure SeqEntry where
  tag : Word
  model : Byte
  trim : Byte
  option : Word
  deriving DecidableEq, Repr, Inhabited

/-- A point record as PROG DATA carries it, with its flag byte as received (R191). -/
structure RawPoint where
  pointId : Word
  pose : Word
  schedule : Byte
  flags : Byte
  deriving DecidableEq, Repr, Inhabited

/-- A dispatch entry as SET WRITE carries it: the two fields of the flag byte are its Enabled and Last bits
(R29, R191). -/
structure RawEntry where
  robot : Nat
  enabled : Bool
  last : Bool
  program : Nat
  value : Word
  mask : Word
  trim : Int
  deriving DecidableEq, Repr, Inhabited

/-- The fields of the DEFINE form of SCHED WRITE (R95); `group` is absent for "none". -/
structure SchedFields where
  base : Nat
  imin : Nat
  imax : Nat
  group : Option Nat
  squeeze : Nat
  weldTime : Nat
  hold : Nat
  deriving DecidableEq, Repr, Inhabited

/-- One step of a stepper curve (R98). -/
structure CurveStep where
  threshold : Nat
  increment : Nat
  deriving DecidableEq, Repr, Inhabited

/-- The LINE record of a LAYOUT WRITE; a coded field is absent when its code names none of the values (R184). -/
structure RawLine where
  stations : Nat
  m : Nat
  n : Nat
  ringLength : Nat
  lowMark : Nat
  lead : Nat
  policy : Option Policy
  depth : Nat
  checkAttempts : Nat
  rounding : Option Rounding
  replyTimeout : Nat
  retryLimit : Nat
  pollInterval : Nat
  probeInterval : Nat
  deriving DecidableEq, Repr, Inhabited

/-- A STATION record of a LAYOUT WRITE. -/
structure RawStation where
  zone : Nat
  source : Option Source
  budget : Nat
  filter : Nat
  sense : Option Sense
  confirm : Nat
  deriving DecidableEq, Repr, Inhabited

/-- The four record fields of a robot that is written present (R184). -/
structure RawRobot where
  bus : Nat
  drop : Nat
  station : Nat
  slots : Nat
  deriving DecidableEq, Repr, Inhabited

/-- A ROBOT record of a LAYOUT WRITE, by its field Present: no, yes with the four record fields, or a code that is
neither (R184). -/
inductive RawPlace where
  | absent
  | present (r : RawRobot)
  | unlisted
  deriving DecidableEq, Repr, Inhabited

/-- A BUS record of a LAYOUT WRITE. -/
structure RawBus where
  pacing : Option Pacing
  interval : Nat
  deriving DecidableEq, Repr, Inhabited

/-- One record of a LAYOUT WRITE (R184). `other` is a record whose kind code names none of the five kinds. -/
inductive RawRecord where
  | line (r : RawLine)
  | station (index : Nat) (r : RawStation)
  | robot (index : Nat) (r : RawPlace)
  | bus (index : Nat) (r : RawBus)
  | port (index : Nat) (threshold : Nat)
  | other (kind index : Nat)
  deriving DecidableEq, Repr, Inhabited

/-- Why a line frame is a frame error at once (R171, R172); the 5 ms gap has a command of its own. -/
inductive FrameErrorCause where
  | badCheck
  | oversize
  | shortBreak
  deriving DecidableEq, Repr, Inhabited

/-- The STATUS record of a drop bus reply, as received (R192). -/
structure StatusRecord where
  state : Nat
  echo : Nat
  tag : Word
  welds : Nat
  weldFaults : Nat
  dress : Nat
  faultNumber : Nat
  deriving DecidableEq, Repr, Inhabited

/-- One record of a SLOT REPORT (R192): program FFFFh marks an empty slot. -/
structure SlotRecord where
  program : Word
  stamp : Word
  deriving DecidableEq, Repr, Inhabited

/-- The commands: requests on the four line ports, events of the line ports, presence lines and timers, the
internal events of the Admission Unit, the Staging Unit, selection and the bus arbiters, and the replies of the
drop buses. One constructor for each row of the opcode table, in its order. -/
inductive Instr where
  | powerOn (straps : Straps) (levels : BitVec 16)
  | resetAssert
  | resetRelease (straps : Straps) (levels : BitVec 16)
  | status (h : Hdr)
  | queryBody (h : Hdr) (tag : Word)
  | queryStation (h : Hdr) (station : Nat)
  | queryRobot (h : Hdr) (robot : Nat)
  | queryProgram (h : Hdr) (program : Nat) (range : Option (Nat × Nat))
  | queryStyle (h : Hdr) (style : Nat)
  | querySet (h : Hdr) (setNo : Nat)
  | readAttention (h : Hdr)
  | setAttentionMask (h : Hdr) (mask : Byte)
  | unknownRequestKind (h : Hdr) (kind : Byte)
  | seqAppend (h : Hdr) (entries : List SeqEntry)
  | seqSkip (h : Hdr)
  | seqLoopOn (h : Hdr) (listed : Bool)
  | seqLoopOff (h : Hdr) (listed : Bool)
  | arrive (h : Hdr) (station : Nat) (tag : Word)
  | depart (h : Hdr) (station : Nat)
  | pull (h : Hdr) (tag : Word) (reason : Byte)
  | reinsert (h : Hdr) (tag : Word) (station : Nat)
  | scrap (h : Hdr) (tag : Word)
  | hold (h : Hdr) (station : Nat)
  | release (h : Hdr) (station : Nat)
  | clearStation (h : Hdr) (station : Nat)
  | robotEnable (h : Hdr) (robot : Nat)
  | robotDisable (h : Hdr) (robot : Nat)
  | dressRequest (h : Hdr) (robot : Nat)
  | setSense (h : Hdr) (station : Nat) (sense : Option Sense)
  | progOpen (h : Hdr) (program count : Nat) (check : Word)
  | progData (h : Hdr) (program first : Nat) (points : List RawPoint)
  | progClose (h : Hdr) (program : Nat)
  | progDelete (h : Hdr) (program : Nat)
  | schedWriteDefine (h : Hdr) (schedule : Nat) (fields : SchedFields)
  | schedWriteClear (h : Hdr) (schedule : Nat) (listed : Bool)
  | stepperWrite (h : Hdr) (curve : Nat) (steps : List CurveStep)
  | setWrite (h : Hdr) (setNo : Nat) (entries : List RawEntry)
  | setDelete (h : Hdr) (setNo : Nat)
  | styleWrite (h : Hdr) (style : Nat) (disposition : Option Disposition) (setNo : Nat)
  | styleWriteEffectivePsn (h : Hdr) (style : Nat) (disposition : Option Disposition) (setNo : Nat) (psn : Word)
  | styleCancel (h : Hdr) (style : Nat)
  | layoutWrite (h : Hdr) (records : List RawRecord)
  | start (h : Hdr)
  | stop (h : Hdr)
  | trackReset (h : Hdr)
  | frameError (port : Fin 4) (cause : FrameErrorCause)
  | interByteGap (port : Fin 4)
  | lineSilence (port : Fin 4)
  | portReset (port : Fin 4)
  | goodFrameDiscarded (port : Fin 4)
  | acceptedChange (line : Nat) (level : Level)
  | confirmWindowExpiry (station : Nat)
  | departureEchoExpiry (station : Nat)
  | overrun (station : Nat)
  | admissionAttempt
  | stagingRecomputation (robot : Nat)
  | selectionAttempt (robot : Nat)
  | arbiterChoice (bus : Fin 4)
  | pollTimerExpiry (robot : Nat)
  | paceTimerExpiry (bus : Fin 4)
  | busyWaitExpiry (robot : Nat)
  | replyTimeout (bus : Fin 4)
  | invalidReply (bus : Fin 4)
  | statusReply (bus : Fin 4) (drop : Nat) (record : StatusRecord)
  | ack (bus : Fin 4) (drop : Nat)
  | nakSlot (bus : Fin 4) (drop : Nat)
  | nakBusy (bus : Fin 4) (drop : Nat)
  | aborted (bus : Fin 4) (drop slot dispatch welds : Nat)
  | slotReport (bus : Fin 4) (drop : Nat) (records : List SlotRecord)
  | loadAck (bus : Fin 4) (drop slot : Nat)
  | loadCheckReply (bus : Fin 4) (drop slot : Nat) (check : Word)
  | frameOpening (port : Fin 4)
  | replySent (port : Fin 4)
  deriving DecidableEq, Repr, Inhabited

end Sys2Proof
end

