-- ==== Sys2Proof/Config.lean ====
section
/-!
DEFINITION. What the WD-432 fixes as a part (its capacities), and the values its manual leaves open.
-/
namespace Sys2Proof
namespace Config

/-- Body Records the Body Table can hold (R37). -/
def bodyCapacity : Nat := 48

/-- Entries of the Style Table (R21). -/
def styleEntries : Nat := 256

/-- Dispatch sets (R28). -/
def setCount : Nat := 128

/-- Dispatch entries in the pool (R28). -/
def poolSize : Nat := 2048

/-- Dispatch entries one set may hold (R28, R30). -/
def setMaxEntries : Nat := 32

/-- Program entries (R77). -/
def programCount : Nat := 512

/-- Blocks of the block store (R79). -/
def blockCount : Nat := 512

/-- Point records one block has room for (R79). -/
def blockPoints : Nat := 32

/-- Schedules in a program's distinct schedule list (R77, R84). -/
def maxSchedules : Nat := 16

/-- Points in one PROG DATA or LOAD DATA frame (R84, R136). -/
def framePoints : Nat := 16

/-- Robot contexts (R107). -/
def robotCount : Nat := 32

/-- Stations of the Station Table (R42). -/
def stationCount : Nat := 16

/-- The largest value of the 16-bit saturating counts: W, the clamp count, the stopwatch (R44, R103, R115). -/
def max16 : Nat := 65535

/-- The modulus of total welds, which rolls over (R115), and one more than the largest use counter (R112). -/
def modulus32 : Nat := 4294967296

/-- OPEN VALUE. R30 refuses a SET WRITE of more than 32 entries, or of none, with RANGE and has the reply give
the position of the first faulty entry; where none of the first 32 entries is itself faulty it states no position:
an entry beyond them is one too many, whether or not it is faulty in itself. The argument is the entries carried. It
has no body, so nothing can be proved of its value (log entry 4). -/
opaque countFaultPosition : List RawEntry → Nat

/-- OPEN VALUE. R184 has the reply to a LAYOUT WRITE refused with RANGE name a record kind, an index and a faulty
field; for a payload whose length disagrees with its records, or that carries no record, it does not state which.
The argument is the number of records read. The value packs nothing: it is an unknown number for each of the
three (log entry 4). -/
opaque layoutLengthFault : Nat → Nat × Nat × Nat

/-- OPEN VALUE. The same reply, for a record whose kind or index does not exist: R184 has it name the record kind,
the index and the first faulty field, and such a record has no field that is faulty. The arguments are the kind and the
index; the value is the field named (log entry 4). -/
opaque layoutIndexFault : Nat → Nat → Nat

end Config
end Sys2Proof
end

