-- ==== Sys2Proof/Machine/State.lean ====
section
/-!
DEFINITION. The state of the WD-432, block by block (the block diagram of 00_scope.md names the owner of each
piece), the reasons a step can stop, and the state after reset.
-/
namespace Sys2Proof
namespace Machine

/-- The reasons a command stops the module with a fault. The manual gives every command an effect or a reply in every
state (what it calls a fault is a station state, an attention or a fault code, and those are state), so there is none.
Safe: nothing is cut off. -/
inductive Fault where
  deriving DecidableEq, Repr

/-- The reasons a command is refused by the model. -/
inductive Refusal where
  /-- Raised by an arm of `exec` for a command that has no meaning yet; no arm does. Safe. -/
  | notModelled (mnemonic : String)
  deriving DecidableEq, Repr

/-! ### Modes and layout (Chapter 12) -/

/-- The two modes (R183). -/
inductive Mode where
  | setup
  | run
  deriving DecidableEq, Repr, Inhabited

/-- The LINE record of the layout (R184). -/
structure LineRec where
  stations : Nat
  m : Nat
  n : Nat
  ringLength : Nat
  lowMark : Nat
  lead : Nat
  policy : Policy
  depth : Nat
  checkAttempts : Nat
  rounding : Rounding
  replyTimeout : Nat
  retryLimit : Nat
  pollInterval : Nat
  probeInterval : Nat
  deriving DecidableEq, Repr, Inhabited

/-- A STATION record of the layout (R184); SET SENSE rewrites its sense (R74). -/
structure StationRec where
  zone : Nat
  source : Source
  budget : Nat
  filter : Nat
  sense : Sense
  confirm : Nat
  deriving DecidableEq, Repr, Inhabited

/-- A ROBOT record of the layout: whether the robot is in the layout, and the four layout fields of its context, which
it holds either way (R107, R184; for a robot that is not in the layout, log entry 6). -/
structure RobotRec where
  present : Bool
  bus : Fin 4
  drop : Nat
  station : Nat
  slots : Nat
  deriving DecidableEq, Repr, Inhabited

/-- A BUS record of the layout (R168). -/
structure BusRec where
  pacing : Pacing
  interval : Nat
  deriving DecidableEq, Repr, Inhabited

/-- The layout: one LINE record, sixteen STATION records, thirty-two ROBOT records present or absent, four BUS
records and the four PORT thresholds (12.2). -/
structure Layout where
  line : LineRec
  stations : Vector StationRec 16
  robots : Vector RobotRec 32
  buses : Vector BusRec 4
  thresholds : Vector Nat 4
  deriving DecidableEq, Repr

/-! ### Sequence Ring and Admission Unit (Chapter 1) -/

/-- An entry of the Sequence Ring (R1). -/
structure RingEntry where
  psn : Word
  tag : Word
  model : Byte
  trim : Byte
  option : Word
  deriving DecidableEq, Repr, Inhabited

/-- The loop state while loop mode is on: the loop start and the loop length K (R8). -/
structure LoopState where
  start : Nat
  length : Nat
  deriving DecidableEq, Repr, Inhabited

/-- The Sequence Ring with the Next PSN counter and the stall indication (R1, R2, R14). The ring has room for the
longest ring length, 256 positions; the first L are in use. -/
structure Ring where
  cells : Vector RingEntry 256
  read : Nat
  write : Nat
  loop : Option LoopState
  nextPsn : Word
  stalled : Bool
  deriving DecidableEq, Repr

/-! ### Style Table and Set Table (Chapter 2) -/

/-- A part of a style entry: its disposition, with the set a WELD part names (R21). -/
inductive StylePart where
  | unknown
  | weld (setNo : Nat)
  | pass
  | reject
  deriving DecidableEq, Repr, Inhabited

/-- A pending part with its effective PSN (R21). -/
structure PendingPart where
  part : StylePart
  effective : Word
  deriving DecidableEq, Repr, Inhabited

/-- An entry of the Style Table (R21). -/
structure StyleEntry where
  current : StylePart
  pending : Option PendingPart
  deriving DecidableEq, Repr, Inhabited

/-- A dispatch entry (R29). -/
structure DispatchEntry where
  robot : Nat
  program : Nat
  value : Word
  mask : Word
  trim : Int
  enabled : Bool
  deriving DecidableEq, Repr, Inhabited

/-- A dispatch set: its entry list when it is defined, and its in-use count (R28, R33). -/
structure SetEntry where
  entries : Option (List DispatchEntry)
  inUse : Nat
  deriving DecidableEq, Repr, Inhabited

/-! ### Line Tracker (Chapter 3) -/

/-- What a body was bound to at admission: its disposition, with the bound set of a WELD body (R18, R19). -/
inductive Binding where
  | weld (setNo : Nat)
  | pass
  | reject
  deriving DecidableEq, Repr, Inhabited

/-- The position of an ON-LINE body (R39). -/
inductive Position where
  | atStation (s : Nat)
  | before (s : Nat)
  deriving DecidableEq, Repr, Inhabited

/-- The state of a Body Record, with the position of an ON-LINE and the reason of a PULLED one (R37). -/
inductive BodyState where
  | admitted
  | onLine (pos : Position)
  | pulled (reason : Byte)
  deriving DecidableEq, Repr, Inhabited

/-- A per-station result (R38). -/
inductive Result where
  | pending
  | welded
  | passed
  | skipped
  | faulted
  | incomplete
  deriving DecidableEq, Repr, Inhabited

/-- A Body Record (R37). `key` is the model's own name for the record, never reused between resets (log entry 8);
`lastStation` is the station the body last arrived at (R37), and `stay` counts the arrivals at a station other than the
one before, so that a body with the same `stay` has been taken at no other station since (R56, R156). -/
structure Body where
  key : Nat
  psn : Word
  tag : Word
  model : Byte
  trim : Byte
  option : Word
  style : Nat
  binding : Binding
  dry : Bool
  state : BodyState
  results : Vector Result 16
  welds : Vector (Option Nat) 32
  lastStation : Option Nat
  stay : Nat
  incomplete : Bool
  reinserts : Nat
  deriving DecidableEq, Repr

/-- The state of a station (R43). -/
inductive StationState where
  | empty
  | arrived
  | welding
  | complete
  | clearing
  | fault
  deriving DecidableEq, Repr, Inhabited

/-- The cause of a station's FAULT (R45). -/
inductive Cause where
  | sequenceMismatch
  | unknownBody
  | noBodyExpected
  | unconfirmed
  | scheduleUndefined
  | weldFaults
  | robotFault
  | robotLost
  deriving DecidableEq, Repr, Inhabited

/-- The component of one robot in a work list (R42, R52). -/
inductive Component where
  | none
  | skipped
  | owed
  | done
  | faulted
  deriving DecidableEq, Repr, Inhabited

/-- One robot's place in a work list: its component and its late mark (R52, R147). -/
structure WorkItem where
  robot : Nat
  comp : Component
  late : Bool
  deriving DecidableEq, Repr, Inhabited

/-- An entry of the Station Table (R42), with the abort wait of R55. `zone`, `source` and `budget` are the layout
settings in force: they are taken from the layout at START (R65). `watchMs` is the model's own count of the
milliseconds since the stopwatch last advanced. -/
structure Station where
  zone : Nat
  source : Source
  budget : Nat
  state : StationState
  hold : Bool
  body : Option Nat
  cause : Option Cause
  watch : Nat
  watchMs : Nat
  running : Bool
  lastCycle : Nat
  overrunRaised : Bool
  work : Option (List WorkItem)
  abortWait : List Nat
  deriving DecidableEq, Repr, Inhabited

/-! ### Presence Input Unit (Chapter 4) -/

/-- The arrival window of a BOTH station (R70). -/
inductive Window where
  | closed
  | openLine
  | openFrame (tag : Word)
  deriving DecidableEq, Repr, Inhabited

/-- The departure echo of a BOTH station (R73). -/
inductive Echo where
  | none
  | owedLine
  | owedFrame
  deriving DecidableEq, Repr, Inhabited

/-- A presence line with its station's window and echo (R66, R70, R73). `pin` is the level of the input itself. -/
structure Presence where
  pin : Level
  accepted : Level
  filter : Nat
  window : Window
  confirm : Nat
  echo : Echo
  echoTimer : Nat
  deriving DecidableEq, Repr, Inhabited

/-! ### Program Library (Chapter 5) -/

/-- A point record as stored: the two flags, the reserved bits being 0 (R78, R189). -/
structure Point where
  pointId : Word
  pose : Nat
  schedule : Nat
  sealer : Bool
  seamEnd : Bool
  deriving DecidableEq, Repr, Inhabited

/-- The fields a LOADING and a READY program share (R77). -/
structure ProgData where
  count : Nat
  check : Word
  received : Nat
  schedules : List Nat
  blocks : List Nat
  deriving DecidableEq, Repr, Inhabited

/-- The state of a program entry with the fields present in it (R77). -/
inductive ProgState where
  | empty
  | loading (owner : Fin 4) (data : ProgData)
  | ready (stamp : Word) (data : ProgData)
  deriving DecidableEq, Repr, Inhabited

/-- A program entry: its state and its reference count (R77, R90). -/
structure Prog where
  state : ProgState
  refs : Nat
  deriving DecidableEq, Repr, Inhabited

/-- A block of the block store: the program that holds it, if any, and the point records in it, from position 0
(R79). -/
structure Block where
  holder : Option Nat
  points : List Point
  deriving DecidableEq, Repr, Inhabited

/-- The Program Library (R77, R79, R80). -/
structure Library where
  progs : Vector Prog 512
  blocks : Vector Block 512
  stamp : Word
  deriving DecidableEq, Repr

/-! ### Schedule Table (Chapter 6) -/

/-- A defined schedule (R95). -/
abbrev Schedule := SchedFields

/-- A row of a schedule block (R105). -/
structure Row where
  schedule : Nat
  current : Nat
  clamped : Bool
  squeeze : Nat
  weldTime : Nat
  hold : Nat
  deriving DecidableEq, Repr, Inhabited

/-! ### Robot Table (Chapter 7) -/

/-- The contents of a SELECT (R148). -/
structure SelectFrame where
  slot : Nat
  tag : Word
  psn : Word
  dispatch : Nat
  dry : Bool
  dressAfter : Bool
  rows : List Row
  deriving DecidableEq, Repr, Inhabited

/-- What a slot holds (R112). -/
inductive SlotContent where
  | unknown
  | empty
  | loading (program : Nat) (stamp : Word)
  | valid (program : Nat) (stamp : Word)
  | stale (program : Nat) (stamp : Word)
  | invalid (program : Nat) (stamp : Word)
  deriving DecidableEq, Repr, Inhabited

/-- A slot record (R112). -/
structure Slot where
  content : SlotContent
  lastUse : Nat
  deriving DecidableEq, Repr, Inhabited

/-- What the motion state names while it is not IDLE: the selected slot and the body PSN (R111). `tag` is the
Body Tag in the SELECT, `key` the model's name of the record and `stay` the record's stay at the selection (log entry
8). -/
structure Selection where
  slot : Nat
  psn : Word
  tag : Word
  key : Nat
  stay : Nat
  deriving DecidableEq, Repr, Inhabited

/-- The motion state of a robot (R111). -/
inductive Motion where
  | idle
  | selecting (sel : Selection)
  | selected (sel : Selection)
  | welding (sel : Selection)
  | aborting (sel : Selection)
  deriving DecidableEq, Repr, Inhabited

/-- The BUSY wait of a robot (R150). -/
structure BusyWait where
  frame : SelectFrame
  timer : Nat
  deriving DecidableEq, Repr, Inhabited

/-- A fault code (R119). -/
inductive FaultCode where
  | robot (number : Nat)
  | loadCheck
  deriving DecidableEq, Repr, Inhabited

/-- A robot context (R107), with its poll timer (R165). Slots at and above the slot count are not in use. -/
structure Robot where
  enabled : Bool
  online : Bool
  motion : Motion
  busy : Option BusyWait
  dispatch : Nat
  wear : Nat
  dressDue : Bool
  lastDress : Option Nat
  totalWelds : Nat
  clamps : Nat
  uses : Nat
  fault : Option FaultCode
  slots : Vector Slot 8
  pollTimer : Nat
  deriving DecidableEq, Repr

/-! ### Drop Bus Controllers (Chapter 10) and Staging Unit (Chapter 8) -/

/-- The request frames of a drop bus (R161, R192). A load transaction carries the model's number of its load;
`orphan` marks the ABORT of R157. -/
inductive DropRequest where
  | poll
  | select (frame : SelectFrame)
  | abort (slot dispatch : Nat) (orphan : Bool)
  | slotQuery (slots : Nat)
  | loadOpen (seq slot program : Nat) (stamp : Word) (count : Nat)
  | loadData (seq slot first : Nat) (points : List Point)
  | loadClose (seq slot : Nat)
  | loadCancel (slot : Nat)
  deriving DecidableEq, Repr, Inhabited

/-- The transaction classes, highest first (R164). -/
inductive TxClass where
  | abort
  | select
  | poll
  | query
  | load
  deriving DecidableEq, Repr, Inhabited

/-- A transaction as it was placed: its class, its request, and the reply timeout and retry limit it was placed
under (R160, R170). A poll of class `query` is a probe. -/
structure Tx where
  cls : TxClass
  req : DropRequest
  timeout : Nat
  retries : Nat
  deriving DecidableEq, Repr, Inhabited

/-- The pending transactions of a robot in the four classes other than LOAD, whose pending transaction is the head
of the load channel (R164). -/
structure Pend where
  abort : Option Tx
  select : Option Tx
  poll : Option Tx
  query : Option Tx
  deriving DecidableEq, Repr, Inhabited

/-- The transaction on a bus (R160): the robot, its drop address, the sendings made, and the milliseconds waited
since the last of them. -/
structure OnBus where
  robot : Nat
  drop : Nat
  tx : Tx
  sendings : Nat
  waited : Nat
  deriving DecidableEq, Repr, Inhabited

/-- A Drop Bus Controller (R160): IDLE when `cur` is absent; one round-robin pointer per class, in class order. `pace`
counts the milliseconds since the last LOAD DATA was sent up to 250, the longest pace interval: the pace timer shows that
count up to the pace interval in force (R160, R168; log entry 8). -/
structure Bus where
  cur : Option OnBus
  pointers : Vector Nat 5
  pace : Nat
  deriving DecidableEq, Repr

/-- A job of a robot's job list (R129). -/
structure Job where
  program : Nat
  stamp : Word
  position : Nat
  attempts : Nat
  active : Bool
  deriving DecidableEq, Repr, Inhabited

/-- The phase of a load (8.4). -/
inductive Phase where
  | opening
  | streaming
  | closing
  deriving DecidableEq, Repr, Inhabited

/-- The active load of a robot (8.4); its job is the active job. `seq` is the model's number of the load. -/
structure Load where
  seq : Nat
  slot : Nat
  program : Nat
  stamp : Word
  count : Nat
  phase : Phase
  next : Nat
  deriving DecidableEq, Repr, Inhabited

/-- What the Staging Unit holds for a robot: job list, active load, load channel and blocked indication (R129,
R133, R134, R135). `seq` is the model's count of the loads begun. -/
structure Staging where
  jobs : List Job
  load : Option Load
  channel : List Tx
  blocked : Bool
  seq : Nat
  deriving DecidableEq, Repr, Inhabited

/-! ### Attention Unit (Chapter 11) -/

/-- The attention kinds, in the order of the table of 11.6. -/
inductive Kind where
  | stationFault
  | overrun
  | bodyIncomplete
  | robotOffline
  | robotFault
  | linkDegraded
  | programLate
  | admissionStalled
  | stagingBlocked
  | stationComplete
  | arrival
  | bodyExit
  | changeoverTaken
  | ringLow
  | loadDone
  | dressDone
  deriving DecidableEq, Repr, Inhabited

/-- A latched kind's count and subject (11.6). -/
structure Latch where
  count : Nat
  subject : Nat
  deriving DecidableEq, Repr, Inhabited

/-- What the Attention Unit holds for one port: a latch for each kind, in table order, and the mask of the seven
filtered kinds (R180, R181). -/
structure Attention where
  latches : Vector (Option Latch) 16
  mask : BitVec 7
  deriving DecidableEq, Repr

/-! ### Replies -/

/-- The reply codes (R178). -/
inductive Code where
  | done
  | role
  | mode
  | range
  | state
  | full
  | inUse
  | unknown
  | duplicate
  | check
  | link
  deriving DecidableEq, Repr, Inhabited

/-- The admission condition STATUS reports (R15). -/
inductive Admission where
  | setup
  | empty
  | tableFull
  | lead
  | held
  | openNow
  deriving DecidableEq, Repr, Inhabited

/-- The Body Tag and PSN by which a reply names a body. -/
structure BodyName where
  tag : Word
  psn : Word
  deriving DecidableEq, Repr, Inhabited

/-- The contents of a STATUS reply (R15, R179). -/
structure StatusView where
  mode : Mode
  ringCount : Nat
  loop : Option Nat
  nextPsn : Word
  admitted : Nat
  admission : Admission
  records : Nat
  freeBlocks : Nat
  stamp : Word
  poolFree : Nat
  robots : Nat
  onlineRobots : Nat
  roles : Roles
  errors : Nat
  threshold : Nat
  degraded : Bool
  latched : List Kind
  deriving DecidableEq, Repr, Inhabited

/-- The contents of a QUERY STATION reply (R64). -/
structure StationView where
  zone : Nat
  source : Source
  state : StationState
  hold : Bool
  cause : Option Cause
  watch : Nat
  running : Bool
  lastCycle : Nat
  budget : Nat
  work : Option (List (Nat × Component))
  sense : Sense
  present : Bool
  window : Window
  body : Option BodyName
  expected : Option BodyName
  deriving DecidableEq, Repr, Inhabited

/-- The names of the five motion states, as replies give them. -/
inductive MotionName where
  | idle
  | selecting
  | selected
  | welding
  | aborting
  deriving DecidableEq, Repr, Inhabited

/-- The contents of a QUERY ROBOT reply (R123). -/
structure RobotView where
  place : RobotRec
  enabled : Bool
  online : Bool
  motion : MotionName
  selection : Option (Nat × Word)
  dispatch : Nat
  wear : Nat
  dressDue : Bool
  lastDress : Option Nat
  totalWelds : Nat
  clamps : Nat
  uses : Nat
  fault : Option FaultCode
  slots : List Slot
  deriving DecidableEq, Repr, Inhabited

/-- The name of a program entry's state, as replies give it. -/
inductive ProgName where
  | empty
  | loading
  | ready
  deriving DecidableEq, Repr, Inhabited

/-- What the reply to ARRIVE, DEPART and SET SENSE says of the station (R69, R74). -/
structure ReportView where
  state : StationState
  moved : Option BodyName
  present : Bool
  window : Window
  deriving DecidableEq, Repr, Inhabited

/-- The contents of a reply, after the reply code and the attention byte (R178). -/
inductive Contents where
  /-- No further contents. -/
  | nothing
  | status (v : StatusView)
  /-- QUERY BODY (R64): how many records carry the tag, and the earliest admitted of them. -/
  | body (count : Nat) (record : Body)
  | station (v : StationView)
  | robot (v : RobotView)
  /-- QUERY PROGRAM (R93): the entry, the free count, the stamp counter, and the points asked for. -/
  | program (entry : Prog) (freeBlocks : Nat) (stamp : Word) (points : List Point)
  | style (current : StylePart) (pending : Option PendingPart)
  | styleCurrent (current : StylePart)
  /-- QUERY SET (R36): in-use count, pool free count, and the entry list of a defined set, in the form SET WRITE carries
  it, with the Last flag on the final entry (R191). -/
  | dispatchSet (inUse poolFree : Nat) (entries : Option (List RawEntry))
  | attention (latched : List (Kind × Latch))
  | mask (m : BitVec 7)
  /-- SEQ APPEND (R6). -/
  | appended (taken : Nat) (nextPsn : Word)
  | bodyName (b : BodyName)
  | report (v : ReportView)
  /-- PULL (R58): the record's former state and position. -/
  | former (state : BodyState)
  /-- REINSERT (R59): the record now immediately behind. -/
  | behind (b : Option BodyName)
  /-- SCRAP (R60). -/
  | scrapped (psn : Word) (results : Vector Result 16)
  /-- HOLD and RELEASE (R61). -/
  | held (state : StationState) (hold : Bool)
  | stationState (state : StationState)
  /-- ROBOT ENABLE and ROBOT DISABLE (R120). -/
  | robotFlags (enabled onlineNow : Bool) (motion : MotionName)
  /-- DRESS REQUEST (R122). -/
  | dress (wear : Nat) (due : Bool) (motion : MotionName)
  /-- SET SENSE (R74). -/
  | sense (sense : Sense) (v : ReportView)
  /-- PROG OPEN (R82): blocks taken, free count, abandoned program. -/
  | opened (taken free : Nat) (abandoned : Option Nat)
  /-- A program request refused with STATE: entry state, owner and points received (R82, R84, R87, R89). -/
  | progState (state : ProgName) (owner : Option (Fin 4)) (received : Option Nat)
  | received (n : Nat)
  | receivedOf (n declared : Nat)
  /-- The place of a faulty item in the frame. -/
  | place (n : Nat)
  /-- PROG DATA check 5 (R84): the place of the point and the list as it stands. -/
  | schedulesFull (place : Nat) (schedules : List Nat)
  /-- PROG CLOSE taken (R87): stamp, count, distinct schedules. -/
  | closed (stamp : Word) (count : Nat) (schedules : List Nat)
  /-- PROG CLOSE refused with CHECK (R87): received, declared, and the check where it was computed. -/
  | mismatch (received declared : Nat) (computed : Option Word)
  /-- PROG DELETE (R89): the stamp the program had, and the free count. -/
  | deleted (stamp : Word) (free : Nat)
  /-- PROG DELETE of the port's own LOADING program (R89): the state EMPTY and the free count. -/
  | abandoned (state : ProgName) (free : Nat)
  | references (n : Nat)
  | free (n : Nat)
  /-- SCHED WRITE (R96): the schedule as stored. -/
  | schedule (s : Option Schedule)
  /-- The first field out of range, numbered from 0 in the order of the record's table. -/
  | field (n : Nat)
  | curveNumber (n : Nat)
  /-- STEPPER WRITE (R99): the curve as stored and the number of defined schedules that name it. -/
  | curve (steps : List CurveStep) (named : Nat)
  /-- LAYOUT WRITE refused (R184) and START refused (R185): record kind, index and, for the first, field. -/
  | layoutFault (kind index field : Nat)
  | layoutRecord (kind index : Nat)
  | written (records : Nat)
  /-- STOP refused (R186): records and active loads. -/
  | busy (records loads : Nat)
  deriving DecidableEq, Repr

/-- A reply: the request's kind and id, the code, the attention bit, and the contents (R178). -/
structure Reply where
  kind : Byte
  id : Byte
  code : Code
  attention : Bool
  contents : Contents
  deriving DecidableEq, Repr

/-! ### Line Port Controllers (Chapter 11) -/

/-- The receive state of a port (R171). -/
inductive RxState where
  | hunting
  | receiving
  | skipping
  deriving DecidableEq, Repr, Inhabited

/-- A Line Port Controller (R171, R173, R176): receive state, E, DEGRADED flag and role set; the reply built and
not yet fully sent, whether its sending has begun, and the good frame held meanwhile. -/
structure Port where
  rx : RxState
  errors : Nat
  degraded : Bool
  roles : Roles
  reply : Option Reply
  sending : Bool
  held : Option Instr
  deriving DecidableEq, Repr

/-! ### The module -/

/-- An internal event that the rules make follow another, and that has not yet been taken (R13, R128, R146). -/
inductive Due where
  | admission
  | recompute (robot : Nat)
  | selection (robot : Nat)
  deriving DecidableEq, Repr, Inhabited

/-- The state of the WD-432. `pending` is the queue of commands that wait, first in, first out; `due` holds the
internal events owed, oldest first; `resetInput` is the RESET input, true while asserted; `bodies` is the Body Table
in admission order; `nextKey` is the model's next record name; `lineList` holds record keys from head to tail. -/
structure State where
  pending : List Instr
  due : List Due
  resetInput : Bool
  mode : Mode
  layout : Layout
  ring : Ring
  styles : Vector StyleEntry 256
  sets : Vector SetEntry 128
  bodies : List Body
  nextKey : Nat
  lineList : List Nat
  stations : Vector Station 16
  lines : Vector Presence 16
  library : Library
  schedules : Vector (Option Schedule) 64
  curves : Vector (Option (List CurveStep)) 8
  robots : Vector Robot 32
  staging : Vector Staging 32
  pend : Vector Pend 32
  buses : Vector Bus 4
  ports : Vector Port 4
  attention : Vector Attention 4
  deriving DecidableEq, Repr

/-! ### The power-on state of each block -/

/-- The default LINE record (12.2). -/
def LineRec.default : LineRec where
  stations := 1
  m := 4
  n := 4
  ringLength := 128
  lowMark := 8
  lead := 4
  policy := .hold
  depth := 2
  checkAttempts := 3
  rounding := .nearestEven
  replyTimeout := 20
  retryLimit := 2
  pollInterval := 50
  probeInterval := 500

/-- The default STATION record (12.2). -/
def StationRec.default : StationRec where
  zone := 0
  source := .line
  budget := 6000
  filter := 20
  sense := .highPresent
  confirm := 500

/-- The ROBOT record of a robot not in the layout. R184 gives its four record fields no default: they are DB0, 0, 0 and
the least slot count (log entry 6, DESIGN CHOICE). -/
def RobotRec.default : RobotRec where
  present := false
  bus := 0
  drop := 0
  station := 0
  slots := 2

/-- The default layout: every record at its default and no robot present (R184). -/
def Layout.default : Layout where
  line := .default
  stations := .replicate 16 .default
  robots := .replicate 32 .default
  buses := .replicate 4 ⟨.auto, 10⟩
  thresholds := .replicate 4 31

/-- The ring after power-on (R20). The cells outside the entries are no state of the spec's. -/
def Ring.reset : Ring where
  cells := .replicate 256 ⟨0, 0, 0, 0, 0⟩
  read := 0
  write := 0
  loop := none
  nextPsn := 0
  stalled := false

/-- A station after power-on, with the layout settings in force given (R65). -/
def Station.powerOn (zone : Nat) (source : Source) (budget : Nat) : Station where
  zone := zone
  source := source
  budget := budget
  state := .empty
  hold := false
  body := none
  cause := none
  watch := 0
  watchMs := 0
  running := false
  lastCycle := 0
  overrunRaised := false
  work := none
  abortWait := []

/-- A presence line after power-on, its accepted level taken from its first sample (R75). No window is open and no echo owed,
and the rules give the confirm and the echo timer no value then: they stand at 0 (log entry 28, DESIGN CHOICE). -/
def Presence.powerOn (level : Level) : Presence where
  pin := level
  accepted := level
  filter := 0
  window := .closed
  confirm := 0
  echo := .none
  echoTimer := 0

/-- The Program Library after power-on (R94). -/
def Library.reset : Library where
  progs := .replicate 512 ⟨.empty, 0⟩
  blocks := .replicate 512 ⟨none, []⟩
  stamp := 1

/-- A robot context after power-on (R124). No robot is in the layout, and R165 gives a poll timer to those in the layout
alone: it stands at 0 (log entry 28, DESIGN CHOICE). -/
def Robot.reset : Robot where
  enabled := true
  online := false
  motion := .idle
  busy := none
  dispatch := 0
  wear := 0
  dressDue := false
  lastDress := none
  totalWelds := 0
  clamps := 0
  uses := 0
  fault := none
  slots := .replicate 8 ⟨.unknown, 0⟩
  pollTimer := 0

/-- The Staging Unit's state for a robot after power-on (R143). -/
def Staging.reset : Staging where
  jobs := []
  load := none
  channel := []
  blocked := false
  seq := 0

/-- No pending transaction (R170). -/
def Pend.reset : Pend := ⟨none, none, none, none⟩

/-- A bus controller after power-on: IDLE, every pointer 7, the pace timer standing at the pace interval, whichever it
is (R168, R170). -/
def Bus.reset : Bus where
  cur := none
  pointers := .replicate 5 7
  pace := 250

/-- A port after power-on with the role set its straps give (R171, R174, R176). -/
def Port.powerOn (roles : Roles) : Port where
  rx := .hunting
  errors := 0
  degraded := false
  roles := roles
  reply := none
  sending := false
  held := none

/-- The Attention Unit's state for a port after power-on: nothing latched, every filtered kind enabled (R180). -/
def Attention.reset : Attention where
  latches := .replicate 16 none
  mask := 127#7

/-- The level of line `n` in the sixteen sampled levels. -/
def levelOf (levels : BitVec 16) (n : Nat) : Level :=
  if levels.getLsbD n then .high else .low

/-- The state at power-on, with the role straps and the first samples of the presence lines as found (R188). -/
def State.powerOn (straps : Straps) (levels : BitVec 16) : State where
  pending := []
  due := []
  resetInput := false
  mode := .setup
  layout := .default
  ring := .reset
  styles := .replicate 256 ⟨.unknown, none⟩
  sets := .replicate 128 ⟨none, 0⟩
  bodies := []
  nextKey := 0
  lineList := []
  stations := .replicate 16 (.powerOn 0 .line 6000)
  lines := .ofFn fun i => .powerOn (levelOf levels i.val)
  library := .reset
  schedules := .replicate 64 none
  curves := .replicate 8 none
  robots := .replicate 32 .reset
  staging := .replicate 32 .reset
  pend := .replicate 32 .reset
  buses := .replicate 4 .reset
  ports := #v[.powerOn straps.lp0, .powerOn straps.lp1, .powerOn straps.lp2, .powerOn straps.lp3]
  attention := .replicate 4 .reset

/-- No role. -/
def Roles.absent : Roles := ⟨false, false, false⟩

/-- The machine right after reset: the power-on state with no strap fitted and every presence line LOW (log
entry 2, DESIGN CHOICE). -/
def State.reset : State :=
  State.powerOn ⟨Roles.absent, Roles.absent, Roles.absent, Roles.absent⟩ 0

end Machine
end Sys2Proof
end

