-- ==== Sys2Proof/Decode.lean ====
section
/-!
DEFINITION. The command a word spells by the table's bits. No row of the opcode table gives bits: the module has no
register window (00_scope.md), its commands reach it as link frames and events (log entry 20), and the frames whose bytes
the manual lays out are read and written in Machine/Frames.lean.
-/
namespace Sys2Proof

/-- No word spells a command: every row of the opcode table has an empty field list. -/
def decodeTableWord (_nbits _w : Nat) : Option Instr := none

end Sys2Proof
end

