-- ==== Sys2Proof/Machine/Flags.lean ====
section
/-!
DEFINITION. The flags and counters of the line ports and the Attention Unit: latches, masks and the attention output
(R180 to R182), the error counter E and the DEGRADED flag (R173).
-/
namespace Sys2Proof
namespace Machine

/-- The sixteen kinds in the order of the table of 11.6. -/
def Kind.all : List Kind :=
  [.stationFault, .overrun, .bodyIncomplete, .robotOffline, .robotFault, .linkDegraded, .programLate,
    .admissionStalled, .stagingBlocked, .stationComplete, .arrival, .bodyExit, .changeoverTaken, .ringLow,
    .loadDone, .dressDone]

/-- The place of a kind in the table of 11.6. -/
def Kind.index : Kind → Nat
  | .stationFault => 0
  | .overrun => 1
  | .bodyIncomplete => 2
  | .robotOffline => 3
  | .robotFault => 4
  | .linkDegraded => 5
  | .programLate => 6
  | .admissionStalled => 7
  | .stagingBlocked => 8
  | .stationComplete => 9
  | .arrival => 10
  | .bodyExit => 11
  | .changeoverTaken => 12
  | .ringLow => 13
  | .loadDone => 14
  | .dressDone => 15

/-- The mask bit of a filtered kind; an always-latched kind has none (11.6, R181). -/
def Kind.maskBit : Kind → Option Nat
  | .stationComplete => some 0
  | .arrival => some 1
  | .bodyExit => some 2
  | .changeoverTaken => some 3
  | .ringLow => some 4
  | .loadDone => some 5
  | .dressDone => some 6
  | _ => none

/-- Whether a port whose mask is `mask` latches an event of kind `k` (R180). -/
def Kind.latchedUnder (k : Kind) (mask : BitVec 7) : Bool :=
  match k.maskBit with
  | some i => mask.getLsbD i
  | none => true

/-- The latch of a kind at a port. -/
def Attention.latch (a : Attention) (k : Kind) : Option Latch :=
  (a.latches[k.index]?).getD none

/-- A latch after one more event with this subject (R180). -/
def Latch.after (l : Option Latch) (subject : Nat) : Latch :=
  match l with
  | none => ⟨1, subject⟩
  | some l => ⟨satAdd 255 l.count 1, subject⟩

/-- An event offered to one port (R180). -/
def Attention.offer (k : Kind) (subject : Nat) (a : Attention) : Attention :=
  if k.latchedUnder a.mask then
    { a with latches := a.latches.setIfInBounds k.index (some (Latch.after (a.latch k) subject)) }
  else a

/-- The kinds latched at a port with their counts and subjects, in table order (R181). -/
def Attention.latched (a : Attention) : List (Kind × Latch) :=
  Kind.all.filterMap fun k => (a.latch k).map fun l => (k, l)

/-- The condition of the attention bit: at least one kind is latched (R178, R182). -/
def Attention.waiting (a : Attention) : Bool := !a.latched.isEmpty

/-- Every latch cleared, the mask kept (R181). -/
def Attention.cleared (a : Attention) : Attention := { a with latches := .replicate 16 none }

/-- The fall of E at a good frame, and the DEGRADED flag after it (R173). -/
def Port.goodFrame (p : Port) : Port :=
  { p with errors := p.errors - 1, degraded := p.degraded && p.errors - 1 != 0 }

/-- The rise of E at a frame error under threshold `t`, and the DEGRADED flag after it (R173). A LAYOUT WRITE can give a port
that is not DEGRADED a threshold equal to its E (R174); at the next frame error R173 reads both ways, and the model follows "a
frame error that finds E already at T leaves E at T and raises nothing": the port stays not DEGRADED (log entry 26, DESIGN
CHOICE). -/
def Port.frameError (t : Nat) (p : Port) : Port :=
  if p.errors < t then
    { p with errors := p.errors + 1, degraded := if p.errors + 1 = t then true else p.degraded }
  else p

/-- Whether a frame error makes the port DEGRADED, so that LINK DEGRADED is raised (R173; log entry 26, DESIGN CHOICE). -/
def Port.degrades (t : Nat) (p : Port) : Bool :=
  p.errors < t && p.errors + 1 == t && !p.degraded

/-- E and the flag after a LAYOUT WRITE gives the port threshold `t` (R174). -/
def Port.newThreshold (t : Nat) (p : Port) : Port :=
  if t < p.errors then { p with errors := t, degraded := true } else p

end Machine
end Sys2Proof
end

