-- ==== Sys2Proof/Machine/Ops.lean ====
section
/-!
DEFINITION. The named reads and writes of the module's tables, the raising of an attention event, the owing of an
internal event, and the counts one block keeps on behalf of others. Every other file reads and writes State through
these.
-/
namespace Sys2Proof
namespace Machine

/-! ### Tables -/

/-- Entry `i` of a table, or `d` where the table has no such entry. -/
def tget {α : Type} {n : Nat} (d : α) (v : Vector α n) (i : Nat) : α := (v[i]?).getD d

/-- The table with entry `i` replaced; the table itself where it has no such entry. -/
def tset {α : Type} {n : Nat} (v : Vector α n) (i : Nat) (a : α) : Vector α n := v.setIfInBounds i a

/-- Robot `r`'s record in a layout, absent when it is not in the layout (R108). -/
def Layout.robotRec (l : Layout) (r : Nat) : Option RobotRec :=
  if (tget .default l.robots r).present then some (tget .default l.robots r) else none

namespace State

/-- The LINE record of the layout. -/
def line (s : State) : LineRec := s.layout.line

/-- The station count S. -/
def stationCount (s : State) : Nat := s.layout.line.stations

/-- The layout fields of robot `r`'s context, in the layout or not (R107). -/
def robotPlace (s : State) (r : Nat) : RobotRec := tget .default s.layout.robots r

/-- Robot `r`'s record in the layout, absent when it is not in the layout (R108). -/
def place (s : State) (r : Nat) : Option RobotRec := s.layout.robotRec r

/-- Station `i`'s STATION record. -/
def stationRec (s : State) (i : Nat) : StationRec := tget .default s.layout.stations i

/-- Bus `b`'s BUS record. -/
def busRec (s : State) (b : Nat) : BusRec := tget ⟨.auto, 10⟩ s.layout.buses b

/-- Port `p`'s error threshold T. -/
def threshold (s : State) (p : Nat) : Nat := tget 31 s.layout.thresholds p

def style (s : State) (i : Nat) : StyleEntry := tget ⟨.unknown, none⟩ s.styles i
def dispatchSet (s : State) (i : Nat) : SetEntry := tget ⟨none, 0⟩ s.sets i
def station (s : State) (i : Nat) : Station := tget (.powerOn 0 .line 6000) s.stations i
def presence (s : State) (i : Nat) : Presence := tget (.powerOn .low) s.lines i
def prog (s : State) (i : Nat) : Prog := tget ⟨.empty, 0⟩ s.library.progs i
def block (s : State) (i : Nat) : Block := tget ⟨none, []⟩ s.library.blocks i
def schedule (s : State) (i : Nat) : Option Schedule := tget none s.schedules i
def curve (s : State) (i : Nat) : Option (List CurveStep) := tget none s.curves i
def robot (s : State) (i : Nat) : Robot := tget .reset s.robots i
def stage (s : State) (i : Nat) : Staging := tget .reset s.staging i
def pendOf (s : State) (i : Nat) : Pend := tget .reset s.pend i
def bus (s : State) (i : Nat) : Bus := tget .reset s.buses i
def port (s : State) (i : Nat) : Port := tget (.powerOn Roles.absent) s.ports i
def attn (s : State) (i : Nat) : Attention := tget .reset s.attention i

def setStyle (i : Nat) (e : StyleEntry) (s : State) : State := { s with styles := tset s.styles i e }
def setSet (i : Nat) (e : SetEntry) (s : State) : State := { s with sets := tset s.sets i e }
def modStation (i : Nat) (f : Station → Station) (s : State) : State :=
  { s with stations := tset s.stations i (f (s.station i)) }
def modPresence (i : Nat) (f : Presence → Presence) (s : State) : State :=
  { s with lines := tset s.lines i (f (s.presence i)) }
def setProg (i : Nat) (p : Prog) (s : State) : State :=
  { s with library := { s.library with progs := tset s.library.progs i p } }
def setSchedule (i : Nat) (e : Option Schedule) (s : State) : State :=
  { s with schedules := tset s.schedules i e }
def setCurve (i : Nat) (c : List CurveStep) (s : State) : State := { s with curves := tset s.curves i (some c) }
def modRobot (i : Nat) (f : Robot → Robot) (s : State) : State :=
  { s with robots := tset s.robots i (f (s.robot i)) }
def modStage (i : Nat) (f : Staging → Staging) (s : State) : State :=
  { s with staging := tset s.staging i (f (s.stage i)) }
def modPend (i : Nat) (f : Pend → Pend) (s : State) : State :=
  { s with pend := tset s.pend i (f (s.pendOf i)) }
def modBus (i : Nat) (f : Bus → Bus) (s : State) : State := { s with buses := tset s.buses i (f (s.bus i)) }
def modPort (i : Nat) (f : Port → Port) (s : State) : State := { s with ports := tset s.ports i (f (s.port i)) }
def modAttn (i : Nat) (f : Attention → Attention) (s : State) : State :=
  { s with attention := tset s.attention i (f (s.attn i)) }
def setRing (g : Ring) (s : State) : State := { s with ring := g }

/-! ### Attention and owed events -/

/-- Raises an event: it is offered to all four ports (R180). -/
def raise (k : Kind) (subject : Nat) (s : State) : State :=
  { s with attention := s.attention.map (Attention.offer k subject) }

/-- Whether port `p`'s attention output is asserted (R182, R188). -/
def attentionOutput (s : State) (p : Nat) : Bool := !s.resetInput && (s.attn p).waiting

/-- Owes internal events: they will be taken after the present one, in this order. -/
def owe (ds : List Due) (s : State) : State := { s with due := s.due ++ ds }

/-- The robots in the layout, in ascending order (R108). -/
def presentRobots (s : State) : List Nat := (List.range 32).filter fun r => (s.place r).isSome

/-- The robots of station `i`: those in the layout whose station it is, enabled or disabled (R42). -/
def robotsAt (s : State) (i : Nat) : List Nat :=
  (List.range 32).filter fun r =>
    match s.place r with
    | some p => p.station == i
    | none => false

/-- Owes a recomputation of every robot in the layout (R128), in ascending robot number: R128 names the robots of an event and
gives no order (log entry 1, DESIGN CHOICE). -/
def oweAll (s : State) : State := s.owe (s.presentRobots.map .recompute)

/-- Owes a recomputation of each robot of station `i`, which entered or left ARRIVED (R128), in ascending robot number (log
entry 1, DESIGN CHOICE). -/
def oweStation (i : Nat) (s : State) : State := s.owe ((s.robotsAt i).map .recompute)

/-- Owes what follows a slot state change of robot `r`: a recomputation (R113) and a selection attempt (R146). -/
def oweSlot (r : Nat) (s : State) : State := s.owe [.recompute r, .selection r]

/-! ### Bodies -/

/-- The Body Record with this key. -/
def bodyOf (s : State) (k : Nat) : Option Body := s.bodies.find? fun b => b.key == k

/-- Changes the Body Record with this key. -/
def modBody (k : Nat) (f : Body → Body) (s : State) : State :=
  { s with bodies := s.bodies.map fun b => if b.key = k then f b else b }

/-- The set gains a naming (R33). -/
def addNaming (n : Option Nat) (s : State) : State :=
  match n with
  | some k => s.setSet k { s.dispatchSet k with inUse := (s.dispatchSet k).inUse + 1 }
  | none => s

/-- The set loses a naming (R33). -/
def dropNaming (n : Option Nat) (s : State) : State :=
  match n with
  | some k => s.setSet k { s.dispatchSet k with inUse := (s.dispatchSet k).inUse - 1 }
  | none => s

/-- The program's reference count rises by one (R90). -/
def addRef (n : Nat) (s : State) : State := s.setProg n { s.prog n with refs := (s.prog n).refs + 1 }

/-- The program's reference count falls by one (R90). -/
def dropRef (n : Nat) (s : State) : State := s.setProg n { s.prog n with refs := (s.prog n).refs - 1 }

end State

/-- The set a style part names (R21). -/
def StylePart.setNo : StylePart → Option Nat
  | .weld k => some k
  | _ => none

/-- The set a body is bound to (R19). -/
def Binding.setNo : Binding → Option Nat
  | .weld k => some k
  | _ => none

/-- The record with its result at station `i` set. -/
def Body.setResult (i : Nat) (r : Result) (b : Body) : Body := { b with results := tset b.results i r }

/-- The record's result at station `i`. -/
def Body.result (b : Body) (i : Nat) : Result := tget .pending b.results i

namespace State

/-- Sets the Incomplete flag of a record and raises BODY INCOMPLETE with its tag (R38). -/
def markIncomplete (k : Nat) (s : State) : State :=
  match s.bodyOf k with
  | some b => (s.modBody k fun b => { b with incomplete := true }).raise .bodyIncomplete b.tag.toNat
  | none => s

/-- Frees a record: it leaves the Body Table and the Line List, and its bound set loses the naming (R33, R57,
R60). -/
def freeBody (k : Nat) (s : State) : State :=
  match s.bodyOf k with
  | some b =>
    ({ s with bodies := s.bodies.filter fun c => c.key != k,
              lineList := s.lineList.filter fun j => j != k } : State).dropNaming b.binding.setNo
  | none => s

end State

/-! ### Slots -/

/-- Slot `i` of a robot. -/
def Robot.slot (b : Robot) (i : Nat) : Slot := tget ⟨.unknown, 0⟩ b.slots i

/-- The robot with slot `i` changed. -/
def Robot.modSlot (i : Nat) (f : Slot → Slot) (b : Robot) : Robot :=
  { b with slots := tset b.slots i (f (b.slot i)) }

/-- The selection a motion state names (R111). -/
def Motion.selection? : Motion → Option Selection
  | .idle => none
  | .selecting s => some s
  | .selected s => some s
  | .welding s => some s
  | .aborting s => some s

/-- The name of a motion state. -/
def Motion.name : Motion → MotionName
  | .idle => .idle
  | .selecting _ => .selecting
  | .selected _ => .selected
  | .welding _ => .welding
  | .aborting _ => .aborting

/-- Whether two addresses are the same bus and drop (R108, R125). -/
def RobotRec.sameAddress (p q : RobotRec) : Bool := p.bus == q.bus && p.drop == q.drop

namespace Layout

/-- Whether robot `r` shares its bus and drop address with another robot in the layout (R125, R169). -/
def shared (l : Layout) (r : Nat) : Bool :=
  match l.robotRec r with
  | none => false
  | some p =>
    (List.range 32).any fun q =>
      q != r && match l.robotRec q with
        | some p' => p.sameAddress p'
        | none => false

end Layout

/-- A transaction placed now: it carries the reply timeout and retry limit now in force (R170); a probe has a
single sending (R162). -/
def State.newTx (s : State) (cls : TxClass) (req : DropRequest) : Tx where
  cls := cls
  req := req
  timeout := s.line.replyTimeout
  retries := if cls = .query ∧ req = .poll then 0 else s.line.retryLimit

end Machine
end Sys2Proof
end

