-- ==== Sys2Proof/Machine/Operands.lean ====
section
/-!
DEFINITION. What the fields of a command name: ring entries, style indices, bodies, expected bodies, resolutions,
staged slots, presence, and the counts that replies report. Nothing here changes state.
-/
namespace Sys2Proof
namespace Machine

/-! ### PSNs and the ring (Chapter 1) -/

/-- The serial comparison: `a` is at or after `b` (R3). -/
def psnAtOrAfter (a b : Word) : Bool := (a - b).toNat < 32768

namespace State

/-- The count of entries in the ring (R1). -/
def ringCount (s : State) : Nat :=
  match s.ring.loop with
  | some l => l.length
  | none => (s.ring.write + s.line.ringLength - s.ring.read) % s.line.ringLength

/-- The position of the first entry the ring holds: the read index, or the loop start in loop mode (R1, R9). -/
def ringFirst (s : State) : Nat :=
  match s.ring.loop with
  | some l => l.start
  | none => s.ring.read

/-- The entry at a position of the ring. -/
def ringCell (s : State) (i : Nat) : RingEntry := tget ⟨0, 0, 0, 0, 0⟩ s.ring.cells i

/-- The entries of the ring, in order (R1). -/
def ringEntries (s : State) : List RingEntry :=
  (List.range s.ringCount).map fun i => s.ringCell ((s.ringFirst + i) % s.line.ringLength)

/-- The head entry (R1). -/
def ringHead (s : State) : RingEntry := s.ringCell s.ring.read

/-- The number of records in state ADMITTED (R12). -/
def admittedCount (s : State) : Nat := (s.bodies.filter fun b => b.state == .admitted).length

end State

/-- The style index of a Model and a Trim under widths `m` and `n` (R16). -/
def styleIndex (m n : Nat) (model trim : Byte) : Nat :=
  (model.toNat % 2 ^ m) * 2 ^ n + trim.toNat % 2 ^ n

/-- The size of the active table under widths `m` and `n` (R21). -/
def activeStyles (m n : Nat) : Nat := min 256 (2 ^ (m + n))

/-- Whether a style index is within the active table (R21). -/
def State.styleActive (s : State) (i : Nat) : Bool := i < activeStyles s.line.m s.line.n

/-! ### Pool and block store (Chapters 2 and 5) -/

/-- The pool's free count (R28). -/
def State.poolFree (s : State) : Nat :=
  Config.poolSize - (s.sets.toList.map fun e => (e.entries.getD []).length).sum

/-- The free block numbers, lowest first (R79). -/
def State.freeBlocks (s : State) : List Nat :=
  (List.range 512).filter fun i => (s.block i).holder.isNone

/-- The blocks a program of `c` points holds (R79). -/
def blocksFor (c : Nat) : Nat := (c + 31) / 32

/-- The stamp and fields of a program that is READY (R77). -/
def State.ready (s : State) (n : Nat) : Option (Word × ProgData) :=
  match (s.prog n).state with
  | .ready stamp d => some (stamp, d)
  | _ => none

/-- Point `i` of a program with block list `blocks` (R79). -/
def State.pointAt (s : State) (blocks : List Nat) (i : Nat) : Point :=
  ((s.block (blocks.getD (i / 32) 512)).points[i % 32]?).getD ⟨0, 0, 0, false, false⟩

/-- `n` points of a program from index `first` on (R92). -/
def State.pointsFrom (s : State) (d : ProgData) (first n : Nat) : List Point :=
  (List.range n).map fun i => s.pointAt d.blocks (first + i)

/-! ### Positions and expected bodies (Chapter 3) -/

/-- A record is past station `i` (R39). -/
def Body.past (i : Nat) (b : Body) : Bool :=
  match b.state with
  | .onLine (.atStation t) => i ≤ t
  | .onLine (.before t) => i < t
  | _ => false

/-- A record is not yet past station `i` (R39). -/
def Body.notYetPast (i : Nat) (b : Body) : Bool :=
  match b.state with
  | .admitted => true
  | .onLine (.atStation t) => t < i
  | .onLine (.before t) => t ≤ i
  | .pulled _ => false

namespace State

/-- The records of the Line List, head first (R40). -/
def lineBodies (s : State) : List Body := s.lineList.filterMap s.bodyOf

/-- The expected body at station `i` (R41). -/
def expectedBody (s : State) (i : Nat) : Option Body := s.lineBodies.find? (Body.notYetPast i)

/-- The records that carry a tag, earliest admitted first (R46, R64). -/
def tagged (s : State) (tag : Word) : List Body := s.bodies.filter fun b => b.tag == tag

/-- The name a reply gives the record with key `k`. -/
def nameOf (s : State) (k : Nat) : Option BodyName := (s.bodyOf k).map fun b => ⟨b.tag, b.psn⟩

/-- The record a station records (R43). -/
def bodyAt (s : State) (i : Nat) : Option Body := (s.station i).body.bind s.bodyOf

end State

/-! ### Resolution (R34) -/

/-- Whether a dispatch entry is considered for robot `r` and matches this Option Word (R34). -/
def DispatchEntry.matchesWord (e : DispatchEntry) (r : Nat) (option : Word) : Bool :=
  e.robot == r && e.enabled && (option &&& e.mask) == (e.value &&& e.mask)

namespace State

/-- Resolution of a body and a robot: the first matching entry of the body's bound set, or none (R34). -/
def resolve (s : State) (b : Body) (r : Nat) : Option DispatchEntry :=
  match b.binding with
  | .weld k => ((s.dispatchSet k).entries.getD []).find? fun e => e.matchesWord r b.option
  | _ => none

/-- Whether some robot of station `i` resolves to a program for the body (R38, R50). -/
def anyResolves (s : State) (b : Body) (i : Nat) : Bool :=
  (s.robotsAt i).any fun r => (s.resolve b r).isSome

/-! ### Slots and windows (Chapter 8) -/

/-- The slot count of robot `r`, in the layout or not (R107). -/
def slotCount (s : State) (r : Nat) : Nat := min (s.robotPlace r).slots 8

/-- The staged slot of robot `r` for program `n`: its lowest-numbered slot VALID with it (R127). -/
def stagedSlot (s : State) (r n : Nat) : Option Nat :=
  (List.range (s.slotCount r)).find? fun i =>
    match ((s.robot r).slot i).content with
    | .valid p _ => p == n
    | _ => false

/-- The item of robot `r` in the work list of station `i`. -/
def workItem (s : State) (i r : Nat) : Option WorkItem :=
  ((s.station i).work.getD []).find? fun w => w.robot == r

/-- Whether robot `r`'s component at station `i` is OWED. -/
def owed (s : State) (i r : Nat) : Bool :=
  match s.workItem i r with
  | some w => w.comp == .owed
  | none => false

/-- Step 1 of R126: the body robot `r` waits for at its station `i`. -/
def waitingBody (s : State) (r i : Nat) : Option Body :=
  if (s.station i).state = .arrived ∧ (s.robot r).motion = .idle ∧
      ((s.station i).work = none ∨ s.owed i r) then
    s.bodyAt i
  else none

/-- The staging window of robot `r`: the bodies kept, each with the program `r` resolves to (R126). -/
def window (s : State) (r : Nat) : List (Body × Nat) :=
  match s.place r with
  | none => []
  | some p =>
    if (s.robot r).enabled then
      ((s.waitingBody r p.station).toList ++ (s.lineBodies.filter (Body.notYetPast p.station)).take s.line.depth).filterMap
        fun b => (s.resolve b r).map fun e => (b, e.program)
    else []

/-- The distinct programs of a window, each with the position of the first body that needs it (R126). -/
def windowPrograms (s : State) (r : Nat) : List (Nat × Nat) :=
  ((s.window r).zipIdx.map fun (w, i) => (w.2, i)).foldl
    (fun acc w => if acc.any fun a => a.1 == w.1 then acc else acc ++ [w]) []

/-- Whether slot `i` of robot `r` is pinned (R127). -/
def pinned (s : State) (r i : Nat) : Bool :=
  (s.windowPrograms r).any (fun w => s.stagedSlot r w.1 == some i) ||
    (match (s.robot r).motion.selection? with
     | some sel => sel.slot == i
     | none => false) ||
    (match ((s.robot r).slot i).content with
     | .loading _ _ => true
     | _ => false)

/-! ### Presence (Chapter 4) -/

/-- Whether the presence of line `i` is PRESENT (R67). -/
def present (s : State) (i : Nat) : Bool :=
  match (s.stationRec i).sense with
  | .highPresent => (s.presence i).accepted == .high
  | .lowPresent => (s.presence i).accepted == .low

/-- What a reply to ARRIVE, DEPART or SET SENSE says of station `i`, with the body moved (R69). The window of a reply is
the window as QUERY STATION gives it, an OPEN-FRAME one with its stored tag: R69 names the three states and does not say
whether the tag goes with them (log entry 22, DESIGN CHOICE). -/
def reportView (s : State) (i : Nat) (moved : Option BodyName) : ReportView :=
  ⟨(s.station i).state, moved, s.present i, (s.presence i).window⟩

/-! ### Counts for replies -/

/-- The robots in the layout with an active load (R186). -/
def activeLoads (s : State) : Nat := ((List.range 32).filter fun r => (s.stage r).load.isSome).length

/-- The admission condition of STATUS: the first condition of R12 that does not hold (R15). -/
def admissionCondition (s : State) : Admission :=
  if s.mode = .setup then .setup
  else if s.ringCount = 0 then .empty
  else if Config.bodyCapacity ≤ s.bodies.length then .tableFull
  else if s.line.lead ≤ s.admittedCount then .lead
  else if s.ring.stalled then .held
  else .openNow

end State

/-! ### Zones (R46, R120, R176) -/

/-- Whether station `i` is in the zone of port `p` (R46). -/
def State.inZone (s : State) (p : Fin 4) (i : Nat) : Bool := (s.station i).zone == p.val

end Machine
end Sys2Proof
end

