-- ==== Sys2Proof/Machine/Frames.lean ====
section
/-!
DEFINITION. Bytes: the CRC-16 of R86 and the frame and record layouts of Chapter 13. `hear` follows the bytes of a line and
`busCommand` those of a drop bus; they and `lineCommand` say which commands the bytes are, for the frames whose layouts the
manual gives. `Reply.frame` and `OnBus.frame` lay out what the module sends.
-/
namespace Sys2Proof
namespace Machine

/-! ### The check (R86) -/

/-- Steps 3 and 4 of R86 for one bit. -/
def crcBit (reg : Word) (bit : Bool) : Word :=
  if bit != reg.getLsbD 15 then (reg <<< 1) ^^^ 4129#16 else reg <<< 1

/-- One byte, its bits taken from the most significant to the least (R86). -/
def crcByte (reg : Word) (b : Byte) : Word :=
  [7, 6, 5, 4, 3, 2, 1, 0].foldl (fun r i => crcBit r (b.getLsbD i)) reg

/-- The check of R86 over a run of bytes. -/
def crc16 (bytes : List Byte) : Word := bytes.foldl crcByte 65535#16

/-! ### Fields, most significant byte first (R189) -/

/-- The two bytes of a word. -/
def bytesOf (w : Word) : List Byte := [(w >>> 8).setWidth 8, w.setWidth 8]

/-- The word of two bytes. -/
def wordOf (hi lo : Byte) : Word := (hi.setWidth 16 <<< 8) ||| lo.setWidth 16

/-- The two bytes of a number below 65536. -/
def bytesOfNat (n : Nat) : List Byte := bytesOf (BitVec.ofNat 16 n)

/-- One byte of a number below 256. -/
def byteOf (n : Nat) : Byte := BitVec.ofNat 8 n

/-! ### Records on the line ports (R191) -/

/-- A point record as the library stores it: reserved flag bits are stored as 0 (R189). -/
def storedPoint (p : RawPoint) : Point :=
  ⟨p.pointId, p.pose.toNat, p.schedule.toNat, p.flags.getLsbD 0, p.flags.getLsbD 1⟩

/-- The flag byte of a stored point. -/
def Point.flagByte (p : Point) : Byte := byteOf ((if p.sealer then 1 else 0) + (if p.seamEnd then 2 else 0))

/-- The six bytes of a stored point record. -/
def Point.bytes (p : Point) : List Byte :=
  bytesOf p.pointId ++ bytesOfNat p.pose ++ [byteOf p.schedule, p.flagByte]

/-- The check of a program over its points (R86). -/
def programCheck (points : List Point) : Word := crc16 (points.flatMap Point.bytes)

/-- The six bytes of a SEQ APPEND entry. -/
def seqEntryBytes (e : SeqEntry) : List Byte := bytesOf e.tag ++ [e.model, e.trim] ++ bytesOf e.option

/-- The ten bytes of a dispatch entry with its Last flag as given. -/
def rawEntryBytes (e : RawEntry) : List Byte :=
  [byteOf e.robot, byteOf ((if e.enabled then 1 else 0) + (if e.last then 128 else 0))] ++ bytesOfNat e.program ++
    bytesOf e.value ++ bytesOf e.mask ++ bytesOf (BitVec.ofInt 16 e.trim)

/-- The ring entries of a run of bytes; the flag says whether the bytes hold exactly that many. -/
def seqEntriesOf : Nat → List Byte → List SeqEntry × Bool
  | 0, rest => ([], rest.isEmpty)
  | n + 1, t1 :: t0 :: m :: r :: o1 :: o0 :: rest =>
    let v := seqEntriesOf n rest
    (⟨wordOf t1 t0, m, r, wordOf o1 o0⟩ :: v.1, v.2)
  | _ + 1, _ => ([], false)

/-- The point records of a run of bytes; the flag says whether the bytes hold exactly that many. -/
def pointsOf : Nat → List Byte → List RawPoint × Bool
  | 0, rest => ([], rest.isEmpty)
  | n + 1, i1 :: i0 :: p1 :: p0 :: c :: f :: rest =>
    let v := pointsOf n rest
    (⟨wordOf i1 i0, wordOf p1 p0, c, f⟩ :: v.1, v.2)
  | _ + 1, _ => ([], false)

/-- The dispatch entries of a run of bytes; the flag says whether the bytes hold exactly that many. -/
def entriesOf : Nat → List Byte → List RawEntry × Bool
  | 0, rest => ([], rest.isEmpty)
  | n + 1, r :: f :: p1 :: p0 :: v1 :: v0 :: m1 :: m0 :: t1 :: t0 :: rest =>
    let v := entriesOf n rest
    (⟨r.toNat, f.getLsbD 0, f.getLsbD 7, (wordOf p1 p0).toNat, wordOf v1 v0, wordOf m1 m0, (wordOf t1 t0).toInt⟩ ::
      v.1, v.2)
  | _ + 1, _ => ([], false)

/-! ### Line frames (R190) -/

/-- A line frame of a kind, a request id and a payload. -/
def lineFrame (kind id : Byte) (payload : List Byte) : List Byte :=
  let body := [kind, id] ++ bytesOfNat payload.length ++ payload
  [0xA5#8, 0x5A#8] ++ body ++ bytesOf (crc16 body)

/-- Whether a kind code names a request of the catalogue (R190). -/
def knownKind (k : Byte) : Bool :=
  (0x01 ≤ k.toNat && k.toNat ≤ 0x09) || (0x10 ≤ k.toNat && k.toNat ≤ 0x12) ||
    (0x20 ≤ k.toNat && k.toNat ≤ 0x2B) || (0x30 ≤ k.toNat && k.toNat ≤ 0x3D)

/-- The value of a reply code on the wire (R190). -/
def Code.byte : Code → Byte
  | .done => 0x00
  | .role => 0x01
  | .mode => 0x02
  | .range => 0x03
  | .state => 0x04
  | .full => 0x05
  | .inUse => 0x06
  | .unknown => 0x07
  | .duplicate => 0x08
  | .check => 0x09
  | .link => 0x0A

/-- The two bytes that open every reply's payload: the reply code and the attention byte (R190). -/
def Reply.opening (r : Reply) : List Byte := [r.code.byte, if r.attention then 1 else 0]

/-- The bytes of a reply's contents, for the contents the manual lays out: none, those of SEQ APPEND, and the mask as stored,
one byte with bit 7 clear, of SET ATTENTION MASK (R181, R190, R191). -/
def Contents.bytes : Contents → Option (List Byte)
  | .nothing => some []
  | .appended taken nextPsn => some ([byteOf taken] ++ bytesOf nextPsn)
  | .mask m => some [m.setWidth 8]
  | _ => none

/-- The line frame a reply is sent as: its kind and request id, and its opening and contents as payload (R178, R190). -/
def Reply.frame (r : Reply) : Option (List Byte) :=
  r.contents.bytes.map fun k => lineFrame r.kind r.id (r.opening ++ k)

/-- How far the receiver of a line port is in the bytes it takes (R171): HUNTING, with or without the first sync byte just
seen, RECEIVING with the bytes of the frame taken so far, from its kind on, or SKIPPING. -/
inductive Receiver where
  | hunting
  | synced
  | receiving (taken : List Byte)
  | skipping
  deriving DecidableEq, Repr, Inhabited

/-- What the receiver of a line port makes of a byte: a frame opens, or ends as a good frame or a frame error (R171). -/
inductive Heard where
  | opening
  | good (kind id : Byte) (payload : List Byte)
  | error (cause : FrameErrorCause)
  deriving DecidableEq, Repr, Inhabited

/-- A frame being received, from its kind on: an error as soon as its length is known to be above 512, and judged by its check
once its last check byte is taken (R171, R190). -/
def judgeFrame (taken : List Byte) : Receiver × Option Heard :=
  match taken with
  | kind :: id :: l1 :: l0 :: rest =>
    let n := (wordOf l1 l0).toNat
    if 512 < n then (.skipping, some (.error .oversize))
    else if rest.length < n + 2 then (.receiving taken, none)
    else if rest.drop n = bytesOf (crc16 ([kind, id, l1, l0] ++ rest.take n)) then
      (.hunting, some (.good kind id (rest.take n)))
    else (.skipping, some (.error .badCheck))
  | _ => (.receiving taken, none)

/-- One byte at the receiver of a line port (R171): while HUNTING the two sync bytes in a row open a frame, and a byte after a
first sync byte that is not the second is examined as if it stood alone. -/
def hearByte (x : Receiver) (b : Byte) : Receiver × Option Heard :=
  match x with
  | .hunting => if b = 0xA5#8 then (.synced, none) else (.hunting, none)
  | .synced =>
    if b = 0x5A#8 then (.receiving [], some .opening)
    else if b = 0xA5#8 then (.synced, none)
    else (.hunting, none)
  | .receiving taken => judgeFrame (taken ++ [b])
  | .skipping => (.skipping, none)

/-- What a run of bytes makes at the receiver of a line port, in order, where no gap or silence comes between them (R171). -/
def hear : Receiver → List Byte → Receiver × List Heard
  | x, [] => (x, [])
  | x, b :: rest => ((hear (hearByte x b).1 rest).1, (hearByte x b).2.toList ++ (hear (hearByte x b).1 rest).2)

/-- The receive state of R171 that a receiver is in. -/
def Receiver.state : Receiver → RxState
  | .hunting => .hunting
  | .synced => .hunting
  | .receiving _ => .receiving
  | .skipping => .skipping

/-- The command a good line frame is, for the kinds whose payload the manual lays out: the requests without payload,
SET ATTENTION MASK, SEQ APPEND, PROG DATA and SET WRITE, and every kind outside the catalogue (R181, R190, R191). -/
def lineCommand (port : Fin 4) (kind id : Byte) (payload : List Byte) : Option Instr :=
  let bare : Hdr := ⟨port, id, payload.isEmpty⟩
  if !knownKind kind then some (.unknownRequestKind ⟨port, id, true⟩ kind)
  else if kind = 0x01#8 then some (.status bare)
  else if kind = 0x08#8 then some (.readAttention bare)
  else if kind = 0x11#8 then some (.seqSkip bare)
  else if kind = 0x3B#8 then some (.start bare)
  else if kind = 0x3C#8 then some (.stop bare)
  else if kind = 0x3D#8 then some (.trackReset bare)
  else if kind = 0x09#8 then
    match payload with
    | [mask] => some (.setAttentionMask ⟨port, id, true⟩ mask)
    | _ => some (.setAttentionMask ⟨port, id, false⟩ 0)
  else if kind = 0x10#8 then
    match payload with
    | count :: rest => some (.seqAppend ⟨port, id, (seqEntriesOf count.toNat rest).2⟩ (seqEntriesOf count.toNat rest).1)
    | [] => some (.seqAppend ⟨port, id, false⟩ [])
  else if kind = 0x31#8 then
    match payload with
    | n1 :: n0 :: i1 :: i0 :: c :: rest =>
      some (.progData ⟨port, id, (pointsOf (c.toNat + 1) rest).2⟩ (wordOf n1 n0).toNat (wordOf i1 i0).toNat
        (pointsOf (c.toNat + 1) rest).1)
    | n1 :: n0 :: _ => some (.progData ⟨port, id, false⟩ (wordOf n1 n0).toNat 0 [])
    | _ => some (.progData ⟨port, id, false⟩ 0 0 [])
  else if kind = 0x36#8 then
    match payload with
    | n :: rest =>
      some (.setWrite ⟨port, id, (entriesOf (rest.length / 10) rest).2⟩ n.toNat (entriesOf (rest.length / 10) rest).1)
    | [] => some (.setWrite ⟨port, id, false⟩ 0 [])
  else none

/-- The command that what a receiver heard is; none for a good frame whose payload the manual does not lay out. -/
def Heard.command (port : Fin 4) : Heard → Option Instr
  | .opening => some (.frameOpening port)
  | .good kind id payload => lineCommand port kind id payload
  | .error cause => some (.frameError port cause)

/-! ### Drop bus frames (R192) -/

/-- The kind byte of a drop request. -/
def DropRequest.kind : DropRequest → Byte
  | .poll => 0x01
  | .select _ => 0x02
  | .abort _ _ _ => 0x03
  | .slotQuery _ => 0x04
  | .loadOpen _ _ _ _ _ => 0x05
  | .loadData _ _ _ _ => 0x06
  | .loadClose _ _ => 0x07
  | .loadCancel _ => 0x08

/-- The ten bytes of a schedule block row. -/
def Row.bytes (r : Row) : List Byte :=
  [byteOf r.schedule, if r.clamped then 1 else 0] ++ bytesOfNat r.current ++ bytesOfNat r.squeeze ++
    bytesOfNat r.weldTime ++ bytesOfNat r.hold

/-- The payload of a drop request. -/
def DropRequest.payload : DropRequest → List Byte
  | .poll => []
  | .select f =>
    [byteOf f.slot] ++ bytesOf f.tag ++ bytesOf f.psn ++
      [byteOf f.dispatch, byteOf ((if f.dry then 1 else 0) + (if f.dressAfter then 2 else 0)),
        byteOf (f.rows.length - 1)] ++ f.rows.flatMap Row.bytes
  | .abort slot dispatch _ => [byteOf slot, byteOf dispatch]
  | .slotQuery n => [byteOf n]
  | .loadOpen _ slot program stamp count =>
    [byteOf slot] ++ bytesOfNat program ++ bytesOf stamp ++ bytesOfNat count
  | .loadData _ slot first points =>
    [byteOf slot] ++ bytesOfNat first ++ [byteOf (points.length - 1)] ++ points.flatMap Point.bytes
  | .loadClose _ slot => [byteOf slot]
  | .loadCancel slot => [byteOf slot]

/-- A drop bus frame: the start byte, then address, kind, length and payload under the check. -/
def dropFrame (addr kind : Byte) (payload : List Byte) : List Byte :=
  let body := [addr, kind] ++ bytesOfNat payload.length ++ payload
  [0xC3#8] ++ body ++ bytesOf (crc16 body)

/-- The frame the module sends for a transaction: bit 7 of the address byte is clear. -/
def OnBus.frame (o : OnBus) : List Byte := dropFrame (byteOf (o.drop % 8)) o.tx.req.kind o.tx.req.payload

/-- The address byte of a reply from a drop address: bit 7 set. -/
def replyAddress (drop : Nat) : Byte := byteOf (128 + drop % 8)

/-- The SLOT REPORT records of a run of bytes, four bytes each; none where the bytes do not divide so. -/
def slotRecordsOf : List Byte → Option (List SlotRecord)
  | [] => some []
  | p1 :: p0 :: t1 :: t0 :: rest => (slotRecordsOf rest).map fun v => ⟨wordOf p1 p0, wordOf t1 t0⟩ :: v
  | _ => none

/-- The reply a kind byte and a payload are, if their form is one of R192's. -/
def replyOf (bus : Fin 4) (drop : Nat) (kind : Byte) (payload : List Byte) : Option Instr :=
  if kind = 0x81#8 then
    match payload with
    | [st, echo, t1, t0, w1, w0, wf, dc, fn] =>
      some (.statusReply bus drop
        ⟨st.toNat, echo.toNat, wordOf t1 t0, (wordOf w1 w0).toNat, wf.toNat, dc.toNat, fn.toNat⟩)
    | _ => none
  else if kind = 0x82#8 then
    match payload with
    | [] => some (.ack bus drop)
    | _ => none
  else if kind = 0x83#8 then
    match payload with
    | [reason] =>
      if reason = 1#8 then some (.nakSlot bus drop) else if reason = 2#8 then some (.nakBusy bus drop) else none
    | _ => none
  else if kind = 0x84#8 then
    match payload with
    | [slot, dispatch, w1, w0] => some (.aborted bus drop slot.toNat dispatch.toNat (wordOf w1 w0).toNat)
    | _ => none
  else if kind = 0x85#8 then (slotRecordsOf payload).map fun v => .slotReport bus drop v
  else if kind = 0x86#8 then
    match payload with
    | [slot] => some (.loadAck bus drop slot.toNat)
    | _ => none
  else if kind = 0x87#8 then
    match payload with
    | [slot, c1, c0] => some (.loadCheckReply bus drop slot.toNat (wordOf c1 c0))
    | _ => none
  else none

/-- A complete drop frame from its address byte on: a reply, or INVALID REPLY where its length, its check, its direction, its
kind or its form is bad (R161, R192). -/
def judgeReply (bus : Fin 4) (addr kind l1 l0 : Byte) (payload check : List Byte) : Instr :=
  if payload.length ≤ 512 ∧ check = bytesOf (crc16 ([addr, kind, l1, l0] ++ payload)) ∧ addr.getLsbD 7 then
    match replyOf bus (addr.toNat % 8) kind payload with
    | some i => i
    | none => .invalidReply bus
  else .invalidReply bus

/-- The command that the bytes received after a sending are: bytes are discarded until a start byte opens a frame, a frame not
yet complete is no command (its sending ends by the reply timeout), and bytes after a complete one are discarded (R161,
R192). -/
def busCommand (bus : Fin 4) (bytes : List Byte) : Option Instr :=
  match bytes.dropWhile (· != 0xC3#8) with
  | _ :: addr :: kind :: l1 :: l0 :: rest =>
    let n := (wordOf l1 l0).toNat
    if rest.length < n + 2 then none
    else some (judgeReply bus addr kind l1 l0 (rest.take n) ((rest.drop n).take 2))
  | _ => none

end Machine
end Sys2Proof
end

