-- ==== Sys2Proof/Machine/Work.lean ====
section
/-!
DEFINITION. The operations that several families share on stations, robots and loads: entering FAULT and COMPLETE,
judging a station, a robot's return to IDLE, aborts, the end of a load, and a robot going OFFLINE.
-/
namespace Sys2Proof
namespace Machine
namespace State

/-! ### Stations -/

/-- Puts station `i` in a state; entering or leaving ARRIVED owes a recomputation of its robots (R128). -/
def enterState (i : Nat) (st : StationState) (s : State) : State :=
  let t := s.modStation i fun x => { x with state := st }
  if ((s.station i).state = .arrived) ↔ (st = .arrived) then t else t.oweStation i

/-- Station `i` enters FAULT with a cause and raises STATION FAULT; in FAULT already, the first cause stays (R45). -/
def faultStation (i : Nat) (c : Cause) (s : State) : State :=
  if (s.station i).state = .fault then s
  else ((s.enterState i .fault).modStation i fun x => { x with cause := some c }).raise .stationFault i

/-- Sets the result at station `i` of the body the station records. -/
def setResultAt (i : Nat) (r : Result) (s : State) : State :=
  match (s.station i).body with
  | some k => s.modBody k (Body.setResult i r)
  | none => s

/-- Station `i` enters COMPLETE: the stopwatch stops, the last cycle time is recorded and STATION COMPLETE is raised
(R44, R53). -/
def completeStation (i : Nat) (s : State) : State :=
  ((s.enterState i .complete).modStation i fun x =>
    { x with running := false, lastCycle := x.watch, cause := none }).raise .stationComplete i

/-- Station `i` records no body and its stopwatch is stopped (R44, R54, R55). -/
def vacate (i : Nat) (st : StationState) (wait : List Nat) (s : State) : State :=
  (s.enterState i st).modStation i fun x =>
    { x with body := none, work := none, cause := none, running := false, abortWait := wait }

/-- Sets robot `r`'s component in the work list of station `i`. -/
def setComponent (i r : Nat) (c : Component) (s : State) : State :=
  s.modStation i fun x =>
    { x with work := x.work.map fun items => items.map fun w => if w.robot = r then { w with comp := c } else w }

/-- Sets robot `r`'s late mark in the work list of station `i` (R147). -/
def setLate (i r : Nat) (s : State) : State :=
  s.modStation i fun x =>
    { x with work := x.work.map fun items => items.map fun w => if w.robot = r then { w with late := true } else w }

/-- Whether robot `r` is selected for record `k`: its SELECT was acknowledged and has not been put back (R52). -/
def selectedFor (s : State) (r k : Nat) : Bool :=
  match (s.robot r).motion with
  | .selected sel => sel.key == k
  | .welding sel => sel.key == k
  | _ => false

/-- Judges station `i` by its components (R52, R53, R121): from ARRIVED to WELDING once every OWED robot is selected,
and to COMPLETE once no component is OWED. -/
def judgeStation (i : Nat) (s : State) : State :=
  match (s.station i).work, (s.station i).body with
  | some items, some k =>
    let owing := items.filter fun w => w.comp == .owed
    let finish := if items.any fun w => w.comp == .done then Result.welded else Result.skipped
    match (s.station i).state with
    | .arrived =>
      if owing.all fun w => s.selectedFor w.robot k then
        let t := s.enterState i .welding
        if owing = [] then (t.setResultAt i finish).completeStation i else t
      else s
    | .welding => if owing = [] then (s.setResultAt i finish).completeStation i else s
    | _ => s
  | _, _ => s

/-! ### Robots -/

/-- The station of robot `r`, where it is in the layout. -/
def stationOf (s : State) (r : Nat) : Option Nat := (s.place r).map (·.station)

/-- Ends the part of a disabled robot that is IDLE with an OWED component: SKIPPED, Incomplete, and the station judged
again (R121). -/
def skipDisabled (r : Nat) (s : State) : State :=
  match s.stationOf r with
  | some i =>
    if (s.robot r).enabled = false ∧ (s.robot r).motion = .idle ∧ s.owed i r then
      let t := s.setComponent i r .skipped
      (match (s.station i).body with
        | some k => t.markIncomplete k
        | none => t).judgeStation i
    else s
  | none => s

/-- Robot `r` enters IDLE: the selected slot and body PSN are removed, a BUSY wait is dropped, the poll timer restarts,
a disabled robot's component is skipped, and a recomputation and a selection attempt are owed (R111, R121, R128, R146,
R150, R165; log entry 15, DEDUCED). -/
def enterIdle (r : Nat) (s : State) : State :=
  ((s.modRobot r fun b => { b with motion := .idle, busy := none, pollTimer := 0 }).skipDisabled r).oweSlot r

/-- Starts the abort of robot `r`'s selection (R155): ABORTING with the selection kept, its unsent SELECT and its BUSY
wait withdrawn, and an ABORT placed. A robot has at most one pending ABORT (R164), and the rules do not say which stays
where an orphan ABORT (R157) is still pending: the new one takes its place (log entry 23, DESIGN CHOICE). -/
def startAbort (r : Nat) (sel : Selection) (s : State) : State :=
  ((s.modRobot r fun b => { b with motion := .aborting sel, busy := none, pollTimer := 0 }).modPend r fun p =>
    { p with select := none, abort := some (s.newTx .abort (.abort sel.slot (s.robot r).dispatch false)) }).owe
      [.recompute r]

/-- The selection of robot `r` that an abort for record `k` would end: it is SELECTING, SELECTED or WELDING for it
(R155). -/
def abortable (s : State) (k r : Nat) : Option Selection :=
  match (s.robot r).motion with
  | .selecting sel => if sel.key = k then some sel else none
  | .selected sel => if sel.key = k then some sel else none
  | .welding sel => if sel.key = k then some sel else none
  | _ => none

/-- The robots of station `i` that an abort for record `k` would act on. -/
def abortSet (s : State) (i k : Nat) : List Nat := (s.robotsAt i).filter fun r => (s.abortable k r).isSome

/-- Aborts every robot of the list that works for record `k` (R55, R62). -/
def abortAll (k : Nat) (rs : List Nat) (s : State) : State :=
  rs.foldl (fun t r =>
    match t.abortable k r with
    | some sel => t.startAbort r sel
    | none => t) s

/-- Robot `r` leaves the abort wait of the station that is CLEARING for it; a station whose wait becomes empty enters
EMPTY (R56). -/
def leaveAbortWait (r : Nat) (s : State) : State :=
  { s with stations := s.stations.map fun x =>
      if x.state = .clearing ∧ x.abortWait.contains r then
        let wait := x.abortWait.filter (· != r)
        { x with abortWait := wait, state := if wait = [] then .empty else .clearing }
      else x }

/-- The welds a robot reports are counted in W and in total welds (R115). -/
def countWelds (r n : Nat) (s : State) : State :=
  s.modRobot r fun b =>
    { b with wear := satAdd Config.max16 b.wear n, totalWelds := (b.totalWelds + n) % Config.modulus32 }

/-- Writes the welds made to a body's per-robot welds (R37, R153). -/
def setWelds (k r n : Nat) (s : State) : State := s.modBody k fun b => { b with welds := tset b.welds r (some n) }

/-- Station `i` enters FAULT with a cause when it records the body of this selection; otherwise the cause has no
station (R45). -/
def faultFor (i : Nat) (sel : Selection) (c : Cause) (s : State) : State :=
  if (s.station i).body = some sel.key then s.faultStation i c else s

end State

/-! ### Loads -/

/-- The model's number of the load a request streams; a LOAD CANCEL belongs to no running load (R130). -/
def DropRequest.loadSeq : DropRequest → Option Nat
  | .loadOpen q _ _ _ _ => some q
  | .loadData q _ _ _ => some q
  | .loadClose q _ => some q
  | _ => none

namespace State

/-- The effects every end of a load has: the program's reference count falls by one, the job is no longer active and
the robot has no active load (R141). The slot and the recomputation belong to the way of ending. -/
def endLoad (r : Nat) (s : State) : State :=
  match (s.stage r).load with
  | some l =>
    (s.dropRef l.program).modStage r fun g =>
      { g with load := none, jobs := g.jobs.map fun j => { j with active := false } }
  | none => s

/-- Sets the content of slot `i` of robot `r`; becoming EMPTY or UNKNOWN sets its last-use count to 0 (R112). -/
def setSlot (r i : Nat) (c : SlotContent) (s : State) : State :=
  s.modRobot r fun b => b.modSlot i fun x =>
    { content := c, lastUse := if c = .empty ∨ c = .unknown then 0 else x.lastUse }

/-- Cancels the active load of robot `r` (R130): the load ends, its slot becomes EMPTY, its unsent transactions are
withdrawn and a LOAD CANCEL is placed in the channel, with the reply timeout and the retry limit in force then (log entry 12,
DEDUCED). -/
def cancelLoad (r : Nat) (s : State) : State :=
  match (s.stage r).load with
  | some l =>
    ((((s.endLoad r).setSlot r l.slot .empty).modStage r fun g =>
      { g with channel := (g.channel.filter fun tx => tx.req.loadSeq != some l.seq) ++
          [s.newTx .load (.loadCancel l.slot)] })).oweSlot r
  | none => s

/-! ### Going OFFLINE (R110, R163) -/

/-- The transaction of robot `r` on a bus ends at once (R163). -/
def endOnBuses (r : Nat) (s : State) : State :=
  { s with buses := s.buses.map fun b =>
      match b.cur with
      | some o => if o.robot = r then { b with cur := none } else b
      | none => b }

/-- What robot `r` was doing decides the effect on its station when it is lost (R110 step 5). -/
def loseMotion (r : Nat) (s : State) : State :=
  match (s.robot r).motion with
  | .idle => s
  | .selecting _ => s.enterIdle r
  | .selected sel => ((s.stationOf r).elim s fun i => s.faultFor i sel .robotLost).enterIdle r
  | .welding sel => ((s.stationOf r).elim s fun i => s.faultFor i sel .robotLost).enterIdle r
  | .aborting _ => (s.leaveAbortWait r).enterIdle r

/-- Robot `r` goes OFFLINE, by used-up sendings (`notify`, with ROBOT OFFLINE raised) or by a LAYOUT WRITE (R110, R125,
R163). -/
def goOffline (r : Nat) (notify : Bool) (s : State) : State :=
  let s1 := ((s.modPend r fun _ => .reset).endOnBuses r).endLoad r
  let s2 := s1.modStage r fun g => { g with channel := [], blocked := false }
  let s3 := s2.modRobot r fun b =>
    { b with online := false, slots := .replicate 8 ⟨.unknown, 0⟩, fault := none, busy := none, pollTimer := 0 }
  let s4 := s3.loseMotion r
  (if notify then s4.raise .robotOffline r else s4).oweSlot r

end State
end Machine
end Sys2Proof
end

