-- ==== Sys2Proof/Machine/Ports.lean ====
section
/-!
DEFINITION. The Line Port Controllers: how a good frame is received, checked, served and answered (R171, R173, R177,
R178), and the events of a line port.
-/
namespace Sys2Proof
namespace Machine

/-- The outcome of one step of the module. -/
abbrev Outcome := Host.Outcome State Fault Refusal

/-- The groups of the request catalogue (R177). -/
inductive Group where
  | query
  | sequence
  | zone
  | library
  deriving DecidableEq, Repr

/-- What a block hands back for the reply: the state after the request, the reply code and the contents (R177). -/
structure Served where
  state : State
  code : Code
  contents : Contents

namespace State

/-- A request refused by its block: no state changes (R177). -/
def refuse (s : State) (c : Code) (k : Contents := .nothing) : Served := ⟨s, c, k⟩

/-- A request taken by its block. -/
def done (s : State) (k : Contents := .nothing) : Served := ⟨s, .done, k⟩

/-- Builds the reply on a port; its attention bit is the port's condition as the request left it (R178). Its sending has
not begun. -/
def sendReply (h : Hdr) (kind : Byte) (c : Code) (k : Contents) (s : State) : State :=
  s.modPort h.port.val fun p =>
    { p with reply := some ⟨kind, h.id, c, (s.attn h.port.val).waiting, k⟩, sending := false }

/-- Checks 2 and 3 of R177: the port's role for the group, and LINK while the port is DEGRADED. -/
def portRefusal (s : State) (p : Fin 4) (g : Group) : Option Code :=
  let x := s.port p.val
  match g with
  | .query => none
  | .zone => if x.roles.zone then none else some .role
  | .sequence => if x.roles.sequence then (if x.degraded then some .link else none) else some .role
  | .library => if x.roles.library then (if x.degraded then some .link else none) else some .role

/-- Serves a request: the port's checks, then the owning block, then the reply (R177, R178); `refused` is what a reply
refused by the port carries (R6). -/
def serve (h : Hdr) (kind : Byte) (g : Group) (block : State → Served) (s : State) (refused : Contents := .nothing) : State :=
  match s.portRefusal h.port g with
  | some c => s.sendReply h kind c refused
  | none => (block s).state.sendReply h kind (block s).code (block s).contents

/-- A good frame on port `p`: the controller returns to HUNTING and E falls (R171, R173). -/
def goodFrameOn (p : Nat) (s : State) : State := s.modPort p fun x => { x.goodFrame with rx := .hunting }

/-- The receiver of port `p` is closed: the port is sending a reply (R171). -/
def receiverClosed (s : State) (p : Nat) : Bool := (s.port p).reply.isSome && (s.port p).sending

/-- A good frame carrying the request `i` completes on its port (R171). While the RESET input is asserted, while the
port is SKIPPING, and while its receiver is closed, its bytes are lost. With no reply outstanding the request is taken;
with one outstanding, whose sending has not begun, the frame is held; with one held already it is discarded (log entry 5,
DEDUCED). -/
def receive (h : Hdr) (i : Instr) (take : State → State) (s : State) : State :=
  if s.resetInput ∨ (s.port h.port.val).rx = .skipping ∨ s.receiverClosed h.port.val then s
  else
    let t := s.goodFrameOn h.port.val
    if (s.port h.port.val).reply.isNone then take t
    else if (s.port h.port.val).held.isNone then t.modPort h.port.val fun p => { p with held := some i }
    else t

/-- Whether the module is at work: the RESET input is not asserted (R188). -/
def whileWorking (f : State → State) (s : State) : State := if s.resetInput then s else f s

/-! ### Frame errors (R171 to R173) -/

/-- A frame error on port `p`, after which its receive state is `rx`: E rises, and the port may become DEGRADED with
LINK DEGRADED raised (R173). -/
def frameErrorOn (p : Nat) (rx : RxState) (s : State) : State :=
  let t := s.threshold p
  let s1 := s.modPort p fun x => { Port.frameError t x with rx := rx }
  if (s.port p).degrades t then s1.raise .linkDegraded p else s1

end State

/-- FRAME ERROR (R171 to R173). A frame with a bad check or an oversize length is seen unless the port is SKIPPING or its
receiver closed; a short break counts whatever the receive state. -/
def execFrameError (p : Fin 4) (c : FrameErrorCause) (s : State) : Outcome :=
  .next (s.whileWorking fun s =>
    if ((s.port p.val).rx = .skipping ∨ s.receiverClosed p.val) ∧ c ≠ .shortBreak then s
    else s.frameErrorOn p.val .skipping)

/-- INTER-BYTE GAP (R171): a gap of more than 5 ms while RECEIVING is a frame error, and the line is already silent. -/
def execInterByteGap (p : Fin 4) (s : State) : Outcome :=
  .next (s.whileWorking fun s =>
    if (s.port p.val).rx = .receiving then s.frameErrorOn p.val .hunting else s)

/-- LINE SILENCE (R171): more than 5 ms of silence ends SKIPPING. -/
def execLineSilence (p : Fin 4) (s : State) : Outcome :=
  .next (s.whileWorking fun s =>
    if (s.port p.val).rx = .skipping then s.modPort p.val fun x => { x with rx := .hunting } else s)

/-- FRAME OPENING (R171): the two sync bytes open a frame while HUNTING with the receiver open. -/
def execFrameOpening (p : Fin 4) (s : State) : Outcome :=
  .next (s.whileWorking fun s =>
    if (s.port p.val).rx = .hunting ∧ s.receiverClosed p.val = false then
      s.modPort p.val fun x => { x with rx := .receiving }
    else s)

/-- GOOD FRAME DISCARDED (R171): a further good frame, completed while one is held and the receiver is open, counts in E
and gets no reply. -/
def execGoodFrameDiscarded (p : Fin 4) (s : State) : Outcome :=
  .next (s.whileWorking fun s =>
    if (s.port p.val).rx ≠ .skipping ∧ s.receiverClosed p.val = false ∧ (s.port p.val).held.isSome then
      s.goodFrameOn p.val
    else s)

/-- UNKNOWN REQUEST KIND (R177 check 1): a good frame whose kind is outside the catalogue is refused with RANGE on any
port. -/
def serveUnknownRequestKind (h : Hdr) (kind : Byte) (s : State) : State := s.sendReply h kind .range .nothing

def execUnknownRequestKind (h : Hdr) (kind : Byte) (s : State) : Outcome :=
  .next (if knownKind kind then s
    else s.receive h (.unknownRequestKind h kind) (serveUnknownRequestKind h kind))

/-! ### The Attention Unit's requests (R181) -/

/-- READ ATTENTION: every kind latched on the port, in table order; then every latch is clear. -/
def readAttentionBlock (h : Hdr) (s : State) : Served :=
  if h.lengthOk then
    (s.modAttn h.port.val Attention.cleared).done (.attention (s.attn h.port.val).latched)
  else s.refuse .range

def serveReadAttention (h : Hdr) (s : State) : State := s.serve h 0x08 .query (readAttentionBlock h)

def execReadAttention (h : Hdr) (s : State) : Outcome :=
  .next (s.receive h (.readAttention h) (serveReadAttention h))

/-- SET ATTENTION MASK: the port's mask is replaced, unless a bit beyond the seven is set. -/
def setAttentionMaskBlock (h : Hdr) (mask : Byte) (s : State) : Served :=
  if h.lengthOk ∧ mask.getLsbD 7 = false then
    (s.modAttn h.port.val fun a => { a with mask := mask.setWidth 7 }).done (.mask (mask.setWidth 7))
  else s.refuse .range

def serveSetAttentionMask (h : Hdr) (mask : Byte) (s : State) : State :=
  s.serve h 0x09 .query (setAttentionMaskBlock h mask)

def execSetAttentionMask (h : Hdr) (mask : Byte) (s : State) : Outcome :=
  .next (s.receive h (.setAttentionMask h mask) (serveSetAttentionMask h mask))

/-! ### STATUS (R15, R179) -/

/-- What STATUS reports on port `p`. -/
def State.statusView (s : State) (p : Nat) : StatusView where
  mode := s.mode
  ringCount := s.ringCount
  loop := s.ring.loop.map (·.length)
  nextPsn := s.ring.nextPsn
  admitted := s.admittedCount
  admission := s.admissionCondition
  records := s.bodies.length
  freeBlocks := s.freeBlocks.length
  stamp := s.library.stamp
  poolFree := s.poolFree
  robots := s.presentRobots.length
  onlineRobots := (s.presentRobots.filter fun r => (s.robot r).online).length
  roles := (s.port p).roles
  errors := (s.port p).errors
  threshold := s.threshold p
  degraded := (s.port p).degraded
  latched := (s.attn p).latched.map (·.1)

def statusBlock (h : Hdr) (s : State) : Served :=
  if h.lengthOk then s.done (.status (s.statusView h.port.val)) else s.refuse .range

def serveStatus (h : Hdr) (s : State) : State := s.serve h 0x01 .query (statusBlock h)

def execStatus (h : Hdr) (s : State) : Outcome := .next (s.receive h (.status h) (serveStatus h))

end Machine
end Sys2Proof
end

