-- ==== Sys2Proof/Machine/Programs.lean ====
section
/-!
DEFINITION. The Program Library's requests (Chapter 5): PROG OPEN, PROG DATA, PROG CLOSE, PROG DELETE and QUERY
PROGRAM, with abandonment.
-/
namespace Sys2Proof
namespace Machine

namespace State

/-- Every block of the list is returned to the store (R79). -/
def returnBlocks (bs : List Nat) (s : State) : State :=
  { s with library := { s.library with
      blocks := bs.foldl (fun v i => tset v i ⟨none, []⟩) s.library.blocks } }

/-- Every block of the list is taken by program `n` (R79). -/
def takeBlocks (n : Nat) (bs : List Nat) (s : State) : State :=
  { s with library := { s.library with
      blocks := bs.foldl (fun v i => tset v i ⟨some n, []⟩) s.library.blocks } }

/-- A program entry goes to EMPTY and its blocks become free; its reference count stays (R88, R89). -/
def emptyProg (n : Nat) (d : ProgData) (s : State) : State :=
  (s.returnBlocks d.blocks).setProg n { s.prog n with state := .empty }

/-- The LOADING program a port owns, if any (R77). -/
def openProgram (s : State) (p : Fin 4) : Option (Nat × ProgData) :=
  (List.range 512).findSome? fun n =>
    match (s.prog n).state with
    | .loading q d => if q = p then some (n, d) else none
    | _ => none

/-- The port's LOADING program is abandoned, if it has one (R88). -/
def abandonOf (p : Fin 4) (s : State) : State :=
  match s.openProgram p with
  | some (n, d) => s.emptyProg n d
  | none => s

/-- The entry's state and owner as a refused program request reports them (R82, R87, R89); PROG DATA adds the points
received (R84). -/
def progReport (s : State) (n : Nat) (withReceived : Bool) : Contents :=
  match (s.prog n).state with
  | .empty => .progState .empty none none
  | .loading p d => .progState .loading (some p) (if withReceived then some d.received else none)
  | .ready _ _ => .progState .ready none none

/-- A point is stored at the end of the block its index falls in (R79, R85). -/
def storePoint (blocks : List Nat) (i : Nat) (p : Point) (s : State) : State :=
  let b := blocks.getD (i / 32) 512
  { s with library := { s.library with
      blocks := tset s.library.blocks b { s.block b with points := (s.block b).points ++ [p] } } }

/-- Points are stored at indices `i`, `i + 1` and so on (R85). -/
def storePoints (blocks : List Nat) : Nat → List Point → State → State
  | _, [], s => s
  | i, p :: rest, s => storePoints blocks (i + 1) rest (s.storePoint blocks i p)

end State

/-- Whether a program number exists and the payload length agrees (R81). R81 does not place the length among the checks: the
model judges it with the number, ahead of the checks of state, capacity and use (log entry 9, DEDUCED from R177's list). -/
def programRange (h : Hdr) (n : Nat) : Bool := decide (n < Config.programCount) && h.lengthOk

/-! ### PROG OPEN (R82, R83) -/

def progOpenBlock (h : Hdr) (n count : Nat) (check : Word) (s : State) : Served :=
  if programRange h n = false then s.refuse .range
  else if count < 1 ∨ 256 < count then s.refuse .range
  else if (s.prog n).state ≠ .empty then s.refuse .state (s.progReport n false)
  else if s.freeBlocks.length < blocksFor count then s.refuse .full (.free s.freeBlocks.length)
  else
    let t := s.abandonOf h.port
    let blocks := t.freeBlocks.take (blocksFor count)
    let t := (t.takeBlocks n blocks).setProg n { t.prog n with state := .loading h.port ⟨count, check, 0, [], blocks⟩ }
    t.done (.opened blocks.length t.freeBlocks.length ((s.openProgram h.port).map (·.1)))

def serveProgOpen (h : Hdr) (n count : Nat) (check : Word) (s : State) : State :=
  s.serve h 0x30 .library (progOpenBlock h n count check)

def execProgOpen (h : Hdr) (n count : Nat) (check : Word) (s : State) : Outcome :=
  .next (s.receive h (.progOpen h n count check) (serveProgOpen h n count check))

/-! ### PROG DATA (R84, R85) -/

/-- Appends a schedule number to a distinct schedule list that does not hold it (R85). -/
def addSchedule (l : List Nat) (n : Nat) : List Nat := if n ∈ l then l else l ++ [n]

/-- The place of the first point that would bring in a seventeenth distinct schedule (R84 check 5); the first point
has place `i`. -/
def scheduleOverflow : Nat → List Nat → List RawPoint → Option Nat
  | _, _, [] => none
  | i, l, p :: rest =>
    if Config.maxSchedules < (addSchedule l p.schedule.toNat).length then some i
    else scheduleOverflow (i + 1) (addSchedule l p.schedule.toNat) rest

/-- The place of the first point with a Pose or a Schedule out of range (R84 check 4). -/
def pointFault (points : List RawPoint) : Option Nat :=
  (points.zipIdx.find? fun x => 4095 < x.1.pose.toNat || 63 < x.1.schedule.toNat).map (·.2)

/-- PROG DATA: checks 1 to 5 of R84, then R85. R84 does not place a request that carries no point or more than 16 among its
checks: the model refuses it with RANGE ahead of check 1 (log entry 9, DESIGN CHOICE). -/
def progDataBlock (h : Hdr) (n first : Nat) (points : List RawPoint) (s : State) : Served :=
  if programRange h n = false ∨ points.length = 0 ∨ Config.framePoints < points.length then s.refuse .range
  else match (s.prog n).state with
    | .loading p d =>
      if p ≠ h.port then s.refuse .state (s.progReport n true)
      else if first ≠ d.received then s.refuse .state (.received d.received)
      else if d.count < first + points.length then s.refuse .range (.receivedOf d.received d.count)
      else match pointFault points with
        | some k => s.refuse .range (.place k)
        | none =>
          match scheduleOverflow 0 d.schedules points with
          | some k => s.refuse .range (.schedulesFull k d.schedules)
          | none =>
            let t := s.storePoints d.blocks first (points.map storedPoint)
            let d' : ProgData := { d with
              received := d.received + points.length
              schedules := points.foldl (fun l x => addSchedule l x.schedule.toNat) d.schedules }
            (t.setProg n { t.prog n with state := .loading p d' }).done (.received d'.received)
    | _ => s.refuse .state (s.progReport n true)

def serveProgData (h : Hdr) (n first : Nat) (points : List RawPoint) (s : State) : State :=
  s.serve h 0x31 .library (progDataBlock h n first points)

def execProgData (h : Hdr) (n first : Nat) (points : List RawPoint) (s : State) : Outcome :=
  .next (s.receive h (.progData h n first points) (serveProgData h n first points))

/-! ### PROG CLOSE (R80, R86, R87) -/

/-- The stamp after this one: from 65535 it goes to 1 (R80). -/
def nextStamp (w : Word) : Word := if w = 65535#16 then 1#16 else w + 1#16

/-- The check of R86 over the points a program has received. -/
def State.checkOf (s : State) (d : ProgData) : Word := programCheck (s.pointsFrom d 0 d.received)

/-- PROG CLOSE: a close that fails its check abandons the program. -/
def progCloseBlock (h : Hdr) (n : Nat) (s : State) : Served :=
  if programRange h n = false then s.refuse .range
  else match (s.prog n).state with
    | .loading p d =>
      if p ≠ h.port then s.refuse .state (s.progReport n false)
      else if d.received ≠ d.count then
        ⟨s.emptyProg n d, .check, .mismatch d.received d.count none⟩
      else if s.checkOf d ≠ d.check then
        ⟨s.emptyProg n d, .check, .mismatch d.received d.count (some (s.checkOf d))⟩
      else
        let t := s.setProg n ⟨.ready s.library.stamp d, 0⟩
        ({ t with library := { t.library with stamp := nextStamp t.library.stamp } } : State).done
          (.closed s.library.stamp d.count d.schedules)
    | _ => s.refuse .state (s.progReport n false)

def serveProgClose (h : Hdr) (n : Nat) (s : State) : State := s.serve h 0x32 .library (progCloseBlock h n)

def execProgClose (h : Hdr) (n : Nat) (s : State) : Outcome :=
  .next (s.receive h (.progClose h n) (serveProgClose h n))

/-! ### PROG DELETE (R89, R91) -/

/-- A slot that is VALID with this program and stamp becomes STALE (R91). -/
def Slot.staleFor (n : Nat) (stamp : Word) (x : Slot) : Slot :=
  if x.content = .valid n stamp then { x with content := .stale n stamp } else x

/-- Whether some slot of robot `r` is VALID with this program and stamp. -/
def State.holdsValid (s : State) (r n : Nat) (stamp : Word) : Bool :=
  (s.robot r).slots.toList.any fun x => x.content == .valid n stamp

/-- The Robot Table is told that a loading is gone: every slot VALID with it becomes STALE, and each robot whose slots
changed is recomputed (R91), in ascending robot number (log entry 1, DESIGN CHOICE). -/
def State.staleSlots (n : Nat) (stamp : Word) (s : State) : State :=
  ({ s with robots := s.robots.map fun b => { b with slots := b.slots.map (Slot.staleFor n stamp) } } : State).owe
    (((List.range 32).filter fun r => s.holdsValid r n stamp).flatMap fun r => [.recompute r, .selection r])

def progDeleteBlock (h : Hdr) (n : Nat) (s : State) : Served :=
  if programRange h n = false then s.refuse .range
  else match (s.prog n).state with
    | .empty => s.refuse .unknown
    | .loading p d =>
      if p ≠ h.port then s.refuse .state (s.progReport n false)
      else
        let t := s.emptyProg n d
        t.done (.abandoned .empty t.freeBlocks.length)
    | .ready stamp d =>
      if (s.prog n).refs ≠ 0 then s.refuse .inUse (.references (s.prog n).refs)
      else
        let t := (s.emptyProg n d).staleSlots n stamp
        t.done (.deleted stamp t.freeBlocks.length)

def serveProgDelete (h : Hdr) (n : Nat) (s : State) : State := s.serve h 0x33 .library (progDeleteBlock h n)

def execProgDelete (h : Hdr) (n : Nat) (s : State) : Outcome :=
  .next (s.receive h (.progDelete h n) (serveProgDelete h n))

/-! ### QUERY PROGRAM (R93) -/

/-- QUERY PROGRAM; `range` is the first index and the count of the points asked for. R93 does not order a count outside 1 to
16 against the STATE of an EMPTY entry: the model answers RANGE first (log entry 9, DESIGN CHOICE). -/
def queryProgramBlock (h : Hdr) (n : Nat) (range : Option (Nat × Nat)) (s : State) : Served :=
  if programRange h n = false then s.refuse .range
  else match range with
    | none => s.done (.program (s.prog n) s.freeBlocks.length s.library.stamp [])
    | some (first, k) =>
      if k < 1 ∨ Config.framePoints < k then s.refuse .range
      else match (s.prog n).state with
        | .empty => s.refuse .state
        | .loading _ d =>
          if d.received < first + k then s.refuse .range
          else s.done (.program (s.prog n) s.freeBlocks.length s.library.stamp (s.pointsFrom d first k))
        | .ready _ d =>
          if d.received < first + k then s.refuse .range
          else s.done (.program (s.prog n) s.freeBlocks.length s.library.stamp (s.pointsFrom d first k))

def serveQueryProgram (h : Hdr) (n : Nat) (range : Option (Nat × Nat)) (s : State) : State :=
  s.serve h 0x05 .query (queryProgramBlock h n range)

def execQueryProgram (h : Hdr) (n : Nat) (range : Option (Nat × Nat)) (s : State) : Outcome :=
  .next (s.receive h (.queryProgram h n range) (serveQueryProgram h n range))

/-! ### PORT RESET (R175) -/

/-- The port's own state after a break of 20 ms or more: the receive state is SKIPPING, E is 0, DEGRADED is clear, and
the reply not fully sent and the frame held are dropped (R175; log entry 5, DEDUCED). -/
def Port.afterBreak (p : Port) : Port :=
  { p with rx := .skipping, errors := 0, degraded := false, reply := none, sending := false, held := none }

/-- PORT RESET: the port's state, latches and mask, and its LOADING program. -/
def execPortReset (p : Fin 4) (s : State) : Outcome :=
  .next (s.whileWorking fun s =>
    ((s.modPort p.val Port.afterBreak).modAttn p.val fun _ => Attention.reset).abandonOf p)

end Machine
end Sys2Proof
end

