-- ==== Sys2Proof/Machine/Calculator.lean ====
section
/-!
DEFINITION. The Current Calculator: the five stages of 6.4 and a run over a program's distinct schedule list (R100 to
R105).
-/
namespace Sys2Proof
namespace Machine

/-- Stage 1 from step `prev` on: the wear increment, and whether the curve is saturated (R101). The quotient is
truncated toward zero. -/
def wearFrom (w : Nat) (prev : CurveStep) : List CurveStep → Int × Bool
  | [] => (prev.increment, true)
  | step :: rest =>
    if w < step.threshold then
      (prev.increment +
        (((step.increment : Int) - prev.increment) * ((w : Int) - prev.threshold)).tdiv
          ((step.threshold : Int) - prev.threshold), false)
    else wearFrom w step rest

/-- Stage 1 for a schedule whose stepper group gives this curve, or none: the wear increment P at wear count `w`,
and whether the curve is saturated (R101). -/
def wearIncrement (curve : Option (List CurveStep)) (w : Nat) : Int × Bool :=
  match curve with
  | some (c :: cs) => wearFrom w ⟨0, 0⟩ (c :: cs)
  | _ => (0, false)

/-- Stage 2: the factor Q (R103). -/
def factor (p trim : Int) : Int := 1000 + p + trim

/-- Stage 4: the quotient and remainder of the raw product by 10000, rounded by the mode (R104). -/
def convert (mode : Rounding) (raw : Int) : Int :=
  let q := raw / 10000
  let r := raw % 10000
  match mode with
  | .down => q
  | .up => if r = 0 then q else q + 1
  | .halfUp => if r < 5000 then q else q + 1
  | .nearestEven => if r < 5000 then q else if r = 5000 then (if q % 2 = 0 then q else q + 1) else q + 1

/-- Stage 5: the converted current kept within the limits (R103). -/
def clampCurrent (imin imax : Nat) (c : Int) : Int :=
  if c < imin then imin else if (imax : Int) < c then imax else c

/-- The row of one schedule at wear increment `p` (R103, R105). -/
def scheduleRow (mode : Rounding) (n : Nat) (sc : Schedule) (p trim : Int) : Row :=
  let c := convert mode ((sc.base : Int) * factor p trim)
  let kept := clampCurrent sc.imin sc.imax c
  ⟨n, kept.toNat, decide (kept ≠ c), sc.squeeze, sc.weldTime, sc.hold⟩

/-- The curve of a schedule's stepper group (R95). -/
def State.curveOf (s : State) (sc : Schedule) : Option (List CurveStep) := sc.group.bind s.curve

/-- The first schedule of a list that is undefined (R100). -/
def State.firstUndefined (s : State) (list : List Nat) : Option Nat :=
  list.find? fun n => (s.schedule n).isNone

/-- The row of schedule `n` and whether its curve is saturated, at wear count `w`; none for an undefined
schedule. -/
def State.rowOf (s : State) (w : Nat) (trim : Int) (n : Nat) : Option (Row × Bool) :=
  (s.schedule n).map fun sc =>
    let p := wearIncrement (s.curveOf sc) w
    (scheduleRow s.line.rounding n sc p.1 trim, p.2)

/-- What a run of the Current Calculator gives (R100): the rows, or the first undefined schedule. -/
inductive CalcResult where
  | undefined (schedule : Nat)
  | block (rows : List Row)
  deriving DecidableEq, Repr

/-- A run for robot `r` over a distinct schedule list: the dress due flag is set by a saturated row, and each clamped
row counts (R100, R102, R103). -/
def State.calculate (r : Nat) (list : List Nat) (trim : Int) (s : State) : State × CalcResult :=
  match s.firstUndefined list with
  | some n => (s, .undefined n)
  | none =>
    let rows := list.filterMap (s.rowOf (s.robot r).wear trim)
    (s.modRobot r fun b =>
      { b with
        dressDue := b.dressDue || rows.any fun x => x.2
        clamps := satAdd Config.max16 b.clamps (rows.filter fun x => x.1.clamped).length },
      .block (rows.map fun x => x.1))

end Machine
end Sys2Proof
end

