-- ==== Sys2Proof/Machine/Sequence.lean ====
section
/-!
DEFINITION. The Sequence Ring and the Admission Unit (Chapter 1): SEQ APPEND, SEQ SKIP, SEQ LOOP and the admission
attempt.
-/
namespace Sys2Proof
namespace Machine
namespace State

/-! ### The ring -/

/-- The low mark is judged at a fall of the count from `was` to `now` (R11). -/
def judgeLow (was now : Nat) (s : State) : State :=
  if s.line.lowMark < was ∧ now ≤ s.line.lowMark then s.raise .ringLow now else s

/-- The entry of a SEQ APPEND frame may not be taken: the ring is full, or its tag is in the ring or in the Body Table
(R5). -/
def appendRefusal (s : State) (e : SeqEntry) : Option Code :=
  if s.line.ringLength - 1 ≤ s.ringCount then some .full
  else if (s.ringEntries.any fun x => x.tag == e.tag) || (s.bodies.any fun b => b.tag == e.tag) then some .duplicate
  else none

/-- An entry is written at the write index with the PSN of Next PSN (R2, R5). -/
def appendEntry (e : SeqEntry) (s : State) : State :=
  s.setRing { s.ring with
    cells := tset s.ring.cells s.ring.write ⟨s.ring.nextPsn, e.tag, e.model, e.trim, e.option⟩
    write := (s.ring.write + 1) % s.line.ringLength
    nextPsn := s.ring.nextPsn + 1 }

/-- The entries of a frame are examined in order; the first refused entry stops it (R5). The result is the state, the
number taken, and the refusal. -/
def appendEntries (s : State) : List SeqEntry → Nat → State × Nat × Option Code
  | [], taken => (s, taken, none)
  | e :: rest, taken =>
    match s.appendRefusal e with
    | some c => (s, taken, some c)
    | none => appendEntries (s.appendEntry e) rest (taken + 1)

/-- The read index moves past the head (R1). -/
def advanceRead (s : State) : State :=
  s.setRing { s.ring with read := (s.ring.read + 1) % s.line.ringLength }

/-- The ring is emptied: the read index takes the write index, loop mode ends, the stall indication is cleared, and the
low mark is judged (R10, R11, R14, R20). -/
def emptyRing (s : State) : State :=
  (s.setRing { s.ring with read := s.ring.write, loop := none, stalled := false }).judgeLow s.ringCount 0

end State

/-! ### SEQUENCE requests -/

/-- SEQ APPEND (R4 to R6). The payload length is judged with the entry count, before the MODE of loop mode (log entry 9,
DESIGN CHOICE). -/
def seqAppendBlock (h : Hdr) (entries : List SeqEntry) (s : State) : Served :=
  if s.mode = .setup then s.refuse .mode (.appended 0 s.ring.nextPsn)
  else if h.lengthOk = false ∨ entries.length = 0 ∨ 8 < entries.length then
    s.refuse .range (.appended 0 s.ring.nextPsn)
  else if s.ring.loop.isSome then s.refuse .mode (.appended 0 s.ring.nextPsn)
  else
    let v := s.appendEntries entries 0
    let t := if 0 < v.2.1 then v.1.owe [.admission] else v.1
    ⟨t, v.2.2.getD .done, .appended v.2.1 t.ring.nextPsn⟩

/-- SEQ APPEND's reply carries the number taken and Next PSN for every code, the port's ROLE and LINK among them (R6). -/
def serveSeqAppend (h : Hdr) (entries : List SeqEntry) (s : State) : State :=
  s.serve h 0x10 .sequence (seqAppendBlock h entries) (.appended 0 s.ring.nextPsn)

def execSeqAppend (h : Hdr) (entries : List SeqEntry) (s : State) : Outcome :=
  .next (s.receive h (.seqAppend h entries) (serveSeqAppend h entries))

/-- SEQ SKIP (R4, R7). A removed head is the held head when the stall indication is set (R14). R7 does not place the
payload length among its checks: the model makes it before the MODE of loop mode (log entry 9, DESIGN CHOICE). -/
def seqSkipBlock (h : Hdr) (s : State) : Served :=
  if s.mode = .setup then s.refuse .mode
  else if h.lengthOk = false then s.refuse .range
  else if s.ring.loop.isSome then s.refuse .mode
  else if s.ringCount = 0 then s.refuse .state
  else
    let e := s.ringHead
    let t := s.advanceRead
    let t := (t.setRing { t.ring with stalled := false }).judgeLow s.ringCount (s.ringCount - 1)
    (t.owe [.admission]).done (.bodyName ⟨e.tag, e.psn⟩)

def serveSeqSkip (h : Hdr) (s : State) : State := s.serve h 0x11 .sequence (seqSkipBlock h)

def execSeqSkip (h : Hdr) (s : State) : Outcome := .next (s.receive h (.seqSkip h) (serveSeqSkip h))

/-- SEQ LOOP with operand ON (R4, R8); `listed` is false for an operand that is neither ON nor OFF. The payload length is
judged with the operand, after the MODE of SETUP (log entry 9, DEDUCED). -/
def seqLoopOnBlock (h : Hdr) (listed : Bool) (s : State) : Served :=
  if s.mode = .setup then s.refuse .mode
  else if h.lengthOk = false ∨ listed = false then s.refuse .range
  else if s.ring.loop.isSome ∨ s.ringCount = 0 ∨ s.bodies ≠ [] then s.refuse .state
  else
    ((s.setRing { s.ring with loop := some ⟨s.ring.read, s.ringCount⟩ }).owe [.admission]).done

def serveSeqLoopOn (h : Hdr) (listed : Bool) (s : State) : State :=
  s.serve h 0x12 .sequence (seqLoopOnBlock h listed)

def execSeqLoopOn (h : Hdr) (listed : Bool) (s : State) : Outcome :=
  .next (s.receive h (.seqLoopOn h listed) (serveSeqLoopOn h listed))

/-- SEQ LOOP with operand OFF (R4, R8, R10). The payload length is judged with the operand, after the MODE of SETUP (log entry
9, DEDUCED). -/
def seqLoopOffBlock (h : Hdr) (listed : Bool) (s : State) : Served :=
  if s.mode = .setup then s.refuse .mode
  else if h.lengthOk = false ∨ listed = false then s.refuse .range
  else if s.ring.loop.isNone then s.refuse .state
  else s.emptyRing.done

def serveSeqLoopOff (h : Hdr) (listed : Bool) (s : State) : State :=
  s.serve h 0x12 .sequence (seqLoopOffBlock h listed)

def execSeqLoopOff (h : Hdr) (listed : Bool) (s : State) : Outcome :=
  .next (s.receive h (.seqLoopOff h listed) (serveSeqLoopOff h listed))

/-! ### Admission -/

namespace State

/-- The PSN the head would be admitted with: its own, or the fresh Next PSN in loop mode (R17, R19). -/
def comparisonPsn (s : State) : Word := if s.ring.loop.isSome then s.ring.nextPsn else s.ringHead.psn

/-- The style index of the head entry (R16). -/
def headStyle (s : State) : Nat := styleIndex s.line.m s.line.n s.ringHead.model s.ringHead.trim

/-- Applies pending promotion to style `i` for a comparison PSN (R17). -/
def promote (i : Nat) (psn : Word) (s : State) : State :=
  match (s.style i).pending with
  | some p =>
    if psnAtOrAfter psn p.effective then
      ((s.setStyle i ⟨p.part, none⟩).dropNaming (s.style i).current.setNo).raise .changeoverTaken i
    else s
  | none => s

/-- What the disposition of a style's current part decides (R18): a binding, or none where the entry is held. -/
def bindingFor (s : State) (i : Nat) : Option Binding :=
  match (s.style i).current with
  | .unknown => if s.line.policy = .hold then none else some .pass
  | .weld k => some (.weld k)
  | .pass => some .pass
  | .reject => some .reject

/-- The Body Record admission makes of the head entry (R19). -/
def newBody (s : State) (b : Binding) : Body where
  key := s.nextKey
  psn := s.comparisonPsn
  tag := s.ringHead.tag
  model := s.ringHead.model
  trim := s.ringHead.trim
  option := s.ringHead.option
  style := s.headStyle
  binding := b
  dry := s.ring.loop.isSome
  state := .admitted
  results := .replicate 16 .pending
  welds := .replicate 32 none
  lastStation := none
  stay := 0
  incomplete := b == .reject
  reinserts := 0

/-- The head leaves the ring, or in loop mode the read index goes on to the next loop entry and Next PSN rises (R2,
R9, R19). The stall indication is cleared (R14). -/
def passHead (s : State) : State :=
  match s.ring.loop with
  | none =>
    (s.setRing { s.ring with read := (s.ring.read + 1) % s.line.ringLength, stalled := false }).judgeLow
      s.ringCount (s.ringCount - 1)
  | some l =>
    let following := (s.ring.read + 1) % s.line.ringLength
    s.setRing { s.ring with
      read := if following = s.ring.write then l.start else following
      nextPsn := s.ring.nextPsn + 1
      stalled := false }

/-- Admits the head entry with a binding (R18, R19). -/
def admitHead (b : Binding) (s : State) : State :=
  let rec1 := s.newBody b
  let t : State := { s with bodies := s.bodies ++ [rec1], nextKey := s.nextKey + 1, lineList := s.lineList ++ [rec1.key] }
  let t := t.addNaming b.setNo
  let t := if b = .reject then t.raise .bodyIncomplete rec1.tag.toNat else t
  t.passHead.oweAll

/-- The onset of a hold: the stall indication is set and ADMISSION STALLED raised, once (R14). -/
def stallHead (s : State) : State :=
  if s.ring.stalled then s
  else (s.setRing { s.ring with stalled := true }).raise .admissionStalled s.ringHead.tag.toNat

/-- Conditions 1 to 4 of R12. -/
def admissionOpen (s : State) : Bool :=
  s.mode == .run && s.ringCount != 0 && decide (s.bodies.length < Config.bodyCapacity) &&
    decide (s.admittedCount < s.line.lead)

/-- The admission attempt is owed once more, ahead of what was owed before it (R12, R13; log entry 1, DESIGN CHOICE). -/
def attemptAgain (s : State) : State := { s with due := .admission :: s.due }

/-- One admission of an attempt: the head entry is admitted, held, or left as a condition of R12 fails. After an admission
the attempt is made again, as an event of its own: other events may come between two admissions of one attempt (R12,
R13). -/
def admitNext (s : State) : State :=
  if s.admissionOpen then
    let t := s.promote s.headStyle s.comparisonPsn
    match t.bindingFor s.headStyle with
    | none => t.stallHead
    | some b => (t.admitHead b).attemptAgain
  else s

/-- The first owed event equal to this one is taken off the list of owed events. -/
def discharge (d : Due) (s : State) : State := { s with due := s.due.erase d }

end State

/-- ADMISSION ATTEMPT (R12 to R19). -/
def execAdmissionAttempt (s : State) : Outcome :=
  .next (s.whileWorking fun s => (s.discharge .admission).admitNext)

end Machine
end Sys2Proof
end

