-- ==== Sys2Proof/Machine/Selection.lean ====
section
/-!
DEFINITION. Selection (Chapter 9): the selection attempt, the SELECT, and the robot's answers as they act on its motion
state, its counts and its station. The drop bus events that bring those answers stand in Buses.lean.
-/
namespace Sys2Proof
namespace Machine
namespace State

/-! ### The selection attempt (R146 to R148) -/

/-- The distinct schedule list of a READY program (R92). -/
def schedulesOf (s : State) (program : Nat) : List Nat :=
  match s.ready program with
  | some (_, d) => d.schedules
  | none => []

/-- The SELECT a selection builds (R148). -/
def selectFrame (s : State) (r slot dispatch : Nat) (b : Body) (rows : List Row) : SelectFrame :=
  ⟨slot, b.tag, b.psn, dispatch, b.dry, (s.robot r).dressDue, rows⟩

/-- A selection begins for robot `r` at station `i` in a slot (R148). Its SELECT takes the place of one of the robot that is
still pending: a newer SELECT that was left pending when an older one, on the bus at TRACK RESET, was answered (R111, R150,
R164; log entry 23, DESIGN CHOICE). -/
def beginSelection (r i slot : Nat) (b : Body) (e : DispatchEntry) (s : State) : State :=
  let t := ((s.modRobot r fun x => { x with motion := .selecting ⟨slot, b.psn, b.tag, b.key, b.stay⟩ }).modPend r fun p =>
    { p with poll := none }).owe [.recompute r]
  let v := t.calculate r (s.schedulesOf e.program) e.trim
  match v.2 with
  | .undefined _ => (v.1.faultStation i .scheduleUndefined).enterIdle r
  | .block rows =>
    let d := ((v.1.robot r).dispatch + 1) % 8
    let u := v.1.modRobot r fun x => { x with dispatch := d }
    u.modPend r fun p => { p with select := some (u.newTx .select (.select (u.selectFrame r slot d b rows))) }

/-- The program of robot `r` is late at station `i`: PROGRAM LATE is raised once for its component (R147). -/
def programLate (r i : Nat) (s : State) : State :=
  match s.workItem i r with
  | some w => if w.late then s else (s.setLate i r).raise .programLate r
  | none => s

/-- Conditions 1 to 4 of R146 for robot `r` at its station `i`, in RUN (R183; log entry 15, DEDUCED). -/
def maySelect (s : State) (r i : Nat) : Bool :=
  s.mode == .run && (s.station i).state == .arrived && s.owed i r && (s.robot r).online &&
    (s.robot r).motion == .idle && (s.robot r).fault.isNone

/-- A selection attempt for robot `r` (R146). -/
def attemptSelection (r : Nat) (s : State) : State :=
  match s.stationOf r with
  | none => s
  | some i =>
    if s.maySelect r i then
      match s.bodyAt i with
      | none => s
      | some b =>
        match s.resolve b r with
        | none => s
        | some e =>
          match s.stagedSlot r e.program with
          | none => s.programLate r i
          | some slot => s.beginSelection r i slot b e
    else s

/-! ### Answers to a SELECT (R149, R150, R157) -/

/-- The ACK of a SELECTING robot: SELECTED, one more use, and the station judged (R149); a BUSY wait is dropped as the robot
leaves SELECTING (R150). A newer SELECT still pending, where the ACK is that of an older one, left on the bus by TRACK RESET,
stays pending (log entry 23, DESIGN CHOICE). -/
def acknowledged (r : Nat) (sel : Selection) (s : State) : State :=
  let t := (s.modRobot r fun b =>
    let uses := satAdd (Config.modulus32 - 1) b.uses 1
    { b.modSlot sel.slot (fun x => { x with lastUse := uses }) with
      uses := uses, motion := .selected sel, busy := none, pollTimer := 0 }).owe [.recompute r]
  (t.stationOf r).elim t fun i => t.judgeStation i

/-- An ACK taken while the robot is IDLE is an orphan selection: an ABORT is placed for it, in place of one that still waits
(R157, R164; log entry 23, DESIGN CHOICE). -/
def orphanAbort (r : Nat) (f : SelectFrame) (s : State) : State :=
  s.modPend r fun p => { p with abort := some (s.newTx .abort (.abort f.slot (s.robot r).dispatch true)) }

/-- The ACK of the SELECT `f`, by the robot's motion state (R149, R156, R157). Taken while the robot is SELECTED or WELDING, as
the reply to a SELECT whose older one, left on the bus by TRACK RESET, was acknowledged first, it has no effect: the rules give
SELECTING, ABORTING and IDLE alone (log entry 14, DEDUCED). -/
def takeAck (r : Nat) (f : SelectFrame) (s : State) : State :=
  match (s.robot r).motion with
  | .selecting sel => s.acknowledged r sel
  | .idle => s.orphanAbort r f
  | _ => s

/-- A slot that a robot refused becomes INVALID when it is VALID, keeping its program and stamp (R113, R150). -/
def refuseSlot (r i : Nat) (s : State) : State :=
  match ((s.robot r).slot i).content with
  | .valid n stamp => (s.setSlot r i (.invalid n stamp)).oweSlot r
  | _ => s

/-- A NAK with reason SLOT to the SELECT `f` (R150, R156, R157); taken while the robot is SELECTED or WELDING it acts on the
slot alone (log entry 14, DEDUCED). Where `f` is an older SELECT, left on the bus by TRACK RESET, and the SELECT of the newer
selection is still pending, that one is not withdrawn: R164 names no withdrawal, and R111 returns the robot to IDLE (log
entry 23, DESIGN CHOICE). -/
def takeNakSlot (r : Nat) (f : SelectFrame) (s : State) : State :=
  let t := s.refuseSlot r f.slot
  match (s.robot r).motion with
  | .selecting _ => t.enterIdle r
  | _ => t

/-- A NAK with reason BUSY to the SELECT `f`: a SELECTING robot holds a BUSY wait (R150); taken in any other motion state it
has no effect, also while the robot is SELECTED or WELDING, which the rules do not name (log entry 14, DEDUCED). Where the
robot still holds the BUSY wait of an older SELECT, left on the bus by TRACK RESET, the new wait takes its place, and the older
SELECT is not placed again (log entry 23, DESIGN CHOICE). -/
def takeNakBusy (r : Nat) (f : SelectFrame) (s : State) : State :=
  match (s.robot r).motion with
  | .selecting _ => s.modRobot r fun b => { b with busy := some ⟨f, 0⟩ }
  | _ => s

/-! ### Aborts answered (R156, R157) -/

/-- The counted welds of an answered abort reach the aborted body's per-robot welds, where it still has a record and has
not been taken at another station since: its stay is the one it was selected in (R56, R156; log entry 16, DEDUCED). -/
def abortedWelds (r n : Nat) (sel : Selection) (s : State) : State :=
  match s.bodyOf sel.key with
  | some b => if b.stay = sel.stay then s.setWelds sel.key r n else s
  | none => s

/-- The abort of robot `r` is answered, with the welds counted, if any (R156). -/
def answerAbort (r : Nat) (sel : Selection) (welds : Option Nat) (s : State) : State :=
  let t := match welds with
    | some n => (s.countWelds r n).abortedWelds r n sel
    | none => s
  ((t.modPend r fun p => { p with abort := none }).leaveAbortWait r).enterIdle r

/-- An ABORTED taken in reply to an ABORT (R156, R157). The reply to an orphan ABORT counts its welds; any other reply
to an abort already answered changes nothing. -/
def takeAborted (r : Nat) (orphan : Bool) (n : Nat) (s : State) : State :=
  if orphan then s.countWelds r n
  else match (s.robot r).motion with
    | .aborting sel => s.answerAbort r sel (some n)
    | _ => s

/-! ### STATUS reports (R151 to R154) -/

/-- A matching DONE (R153). -/
def matchingDone (r : Nat) (sel : Selection) (rec1 : StatusRecord) (s : State) : State :=
  let t := (s.countWelds r rec1.welds).setWelds sel.key r rec1.welds
  let t := match t.stationOf r with
    | none => t
    | some i =>
      if (t.station i).body = some sel.key then
        if rec1.weldFaults = 0 then
          (if t.owed i r then t.setComponent i r .done else t).judgeStation i
        else t.faultStation i .weldFaults
      else t
  t.enterIdle r

/-- Step 1 of R151: the reported state against the motion state. `toAbort` says that the reply answers an ABORT that is
no orphan (log entry 14, DEDUCED). A reply of DONE form to an orphan ABORT has no effect here while the robot is IDLE or
SELECTING (R151, R157); taken while it is ABORTING, SELECTED or WELDING, which R157 does not name, it is handled as a DONE from
a poll is, so that one whose echo equals the dispatch number answers the abort in progress (R153, R156; log entry 14, DESIGN
CHOICE). -/
def statusAgainstMotion (r : Nat) (rec1 : StatusRecord) (toAbort : Bool) (s : State) : State :=
  let b := s.robot r
  match b.motion with
  | .selected sel =>
    if rec1.state = 3 then
      if rec1.echo = b.dispatch ∧ rec1.tag = sel.tag then s.matchingDone r sel rec1 else s
    else if rec1.state = 4 then ((s.stationOf r).elim s fun i => s.faultFor i sel .robotFault).enterIdle r
    else if (rec1.state = 2 ∨ rec1.state = 5) ∧ rec1.echo = b.dispatch then
      (s.modRobot r fun x => { x with motion := .welding sel }).owe [.recompute r]
    else s
  | .welding sel =>
    if rec1.state = 3 then
      if rec1.echo = b.dispatch ∧ rec1.tag = sel.tag then s.matchingDone r sel rec1 else s
    else if rec1.state = 4 then ((s.stationOf r).elim s fun i => s.faultFor i sel .robotFault).enterIdle r
    else s
  | .aborting sel =>
    if rec1.state = 3 then
      if rec1.echo = b.dispatch then s.answerAbort r sel (some rec1.welds)
      else if toAbort then s.answerAbort r sel none
      else s
    else s
  | _ => s

/-- Step 2 of R151: the dress counter (R116). -/
def takeDress (r : Nat) (rec1 : StatusRecord) (s : State) : State :=
  match (s.robot r).lastDress with
  | none => s.modRobot r fun b => { b with lastDress := some rec1.dress }
  | some d =>
    if d = rec1.dress then s
    else (s.modRobot r fun b => { b with lastDress := some rec1.dress, wear := 0, dressDue := false }).raise .dressDone r

end State
end Machine
end Sys2Proof
end

