-- ==== Sys2Proof/Machine/Staging.lean ====
section
/-!
DEFINITION. The Staging Unit (Chapter 8): slot choice, activation, the rebuilding of a job list, and the staging
recomputation.
-/
namespace Sys2Proof
namespace Machine
namespace State

/-! ### Slot choice (R132) -/

/-- The slot numbers of robot `r`. -/
def slotNumbers (s : State) (r : Nat) : List Nat := List.range (s.slotCount r)

/-- Step 3 of R132: of the slots given, the one with the smallest last-use count, the lowest-numbered of equals. -/
def leastUsed (s : State) (r : Nat) : List Nat → Option Nat
  | [] => none
  | i :: rest =>
    match leastUsed s r rest with
    | none => some i
    | some j => if ((s.robot r).slot j).lastUse < ((s.robot r).slot i).lastUse then some j else some i

/-- Slot choice for the head job of robot `r` (R132). -/
def chooseSlot (s : State) (r : Nat) : Option Nat :=
  let content := fun i => ((s.robot r).slot i).content
  match (s.slotNumbers r).find? fun i => content i == .empty with
  | some i => some i
  | none =>
    match (s.slotNumbers r).find? fun i =>
        match content i with
        | .unknown => true
        | .stale _ _ => true
        | .invalid _ _ => true
        | _ => false with
    | some i => some i
    | none =>
      s.leastUsed r ((s.slotNumbers r).filter fun i =>
        match content i with
        | .valid _ _ => !s.pinned r i
        | _ => false)

/-! ### Beginning a load (R134) -/

/-- The point count of the loading a job was made for, while that loading is in the library: the job's program is READY with
the job's stamp (R129, R134). -/
def loadingOf (s : State) (j : Job) : Option Nat :=
  match s.ready j.program with
  | some (stamp, d) => if stamp = j.stamp then some d.count else none
  | none => none

/-- The point count of the load a job asks for, where it may begin: a body of the window of the moment resolves to the program
(R89, R128), which is READY with the job's stamp (R90). A job for which it may not is one that the recomputation the robot is
owed has not removed yet (log entry 27, DEDUCED). -/
def loadable (s : State) (r : Nat) (j : Job) : Option Nat :=
  if (s.windowPrograms r).any fun w => w.1 == j.program then s.loadingOf j else none

/-- The head job of robot `r`, of a program of `count` points, is made active on a slot (R134); its LOAD OPEN is placed here
(log entry 12, DEDUCED). -/
def beginLoad (r slot count : Nat) (j : Job) (s : State) : State :=
  let q := (s.stage r).seq + 1
  let t := s.modStage r fun g =>
    { g with
      jobs := match g.jobs with
        | k :: rest => { k with active := true } :: rest
        | [] => []
      blocked := false
      seq := q
      load := some ⟨q, slot, j.program, j.stamp, count, .opening, 0⟩
      channel := g.channel ++ [s.newTx .load (.loadOpen q slot j.program j.stamp count)] }
  let t := t.modRobot r fun b => b.modSlot slot fun _ => ⟨.loading j.program j.stamp, b.uses⟩
  (t.addRef j.program).oweSlot r

/-- Conditions 1 to 4 of R131. -/
def mayActivate (s : State) (r : Nat) : Bool :=
  s.mode == .run && (s.place r).isSome && (s.robot r).online && (s.robot r).enabled &&
    (s.robot r).fault.isNone && (s.stage r).load.isNone

/-- The onset of a blocked head job (R133). -/
def blockHead (r : Nat) (s : State) : State :=
  if (s.stage r).blocked then s
  else (s.modStage r fun g => { g with blocked := true }).raise .stagingBlocked r

/-- An activation attempt for robot `r` (R131, R133). Where no load may begin for the head job, because the list is not yet
recomputed, the attempt ends, as it does where one of conditions 1 to 5 fails (log entry 27, DEDUCED). -/
def activate (r : Nat) (s : State) : State :=
  if s.mayActivate r then
    match (s.stage r).jobs with
    | [] => s
    | j :: _ =>
      match s.loadable r j with
      | none => s
      | some count =>
        match s.chooseSlot r with
        | some i => s.beginLoad r i count j
        | none => s.blockHead r
  else s

/-! ### The job list (R129, R130) -/

/-- The job for a window program at a position, if it has one (R129): the job already in the list is kept while it is
active or while the program has no staged slot, and a new one is made for a program with neither. A job whose loading is gone
is not kept: the program, closed anew since, gets a new job (log entry 27, DEDUCED). -/
def jobFor (s : State) (r program position : Nat) : Option Job :=
  let staged := (s.stagedSlot r program).isSome
  match (s.stage r).jobs.find? fun j => j.program == program && (j.active || (s.loadingOf j).isSome) with
  | some j => if staged ∧ ¬ j.active then none else some { j with position := position }
  | none =>
    if staged then none
    else match s.ready program with
      | some (stamp, _) => some ⟨program, stamp, position, 0, false⟩
      | none => none

/-- The job list as step 2 of a recomputation rebuilds it, in window order (R129). -/
def rebuiltJobs (s : State) (r : Nat) : List Job :=
  (s.windowPrograms r).filterMap fun w => s.jobFor r w.1 w.2

/-- Whether the rebuilding removes the active job of robot `r` (R130). -/
def cancelsActive (s : State) (r : Nat) : Bool :=
  (s.stage r).load.isSome && !((s.rebuiltJobs r).any fun j => j.active)

/-- Steps 1 to 4 of a recomputation of robot `r` (R128). -/
def recompute (r : Nat) (s : State) : State :=
  let jobs := s.rebuiltJobs r
  let t := if s.cancelsActive r then s.cancelLoad r else s
  let t := t.modStage r fun g =>
    { g with jobs := jobs, blocked := g.blocked && !jobs.isEmpty }
  t.activate r

end State

/-- STAGING RECOMPUTATION (R128). -/
def execStagingRecomputation (r : Nat) (s : State) : Outcome :=
  .next (s.whileWorking fun s => (s.discharge (.recompute r)).recompute r)

end Machine
end Sys2Proof
end

