-- ==== Sys2Proof/Machine/Buses.lean ====
section
/-!
DEFINITION. The Drop Bus Controllers (Chapter 10): the arbiter, retries and the loss of a robot, poll timers, and the
replies as the receiving blocks take them (Chapters 7, 8 and 9).
-/
namespace Sys2Proof
namespace Machine
namespace State

/-! ### Pending transactions and the arbiter (R164, R167, R168) -/

/-- The classes from highest to lowest (R164). -/
def classes : List TxClass := [.abort, .select, .poll, .query, .load]

/-- The place of a class's round-robin pointer. -/
def classIndex : TxClass → Nat
  | .abort => 0
  | .select => 1
  | .poll => 2
  | .query => 3
  | .load => 4

/-- The pending transaction of robot `r` in a class: of class LOAD, the head of its load channel (R164). -/
def pendingTx (s : State) (r : Nat) (c : TxClass) : Option Tx :=
  match c with
  | .abort => (s.pendOf r).abort
  | .select => (s.pendOf r).select
  | .poll => (s.pendOf r).poll
  | .query => (s.pendOf r).query
  | .load => (s.stage r).channel.head?

/-- Whether a request is a LOAD DATA. -/
def isLoadData : DropRequest → Bool
  | .loadData _ _ _ _ => true
  | _ => false

/-- The pace timer of bus `b`: milliseconds since its last LOAD DATA, counting up to the pace interval in force (R160). -/
def paceTimer (s : State) (b : Nat) : Nat := min (s.bus b).pace (s.busRec b).interval

/-- Whether pacing holds a transaction back on bus `b`: the pace timer has not reached the pace interval (R168). -/
def heldByPace (s : State) (b : Nat) (tx : Tx) : Bool :=
  isLoadData tx.req && (s.busRec b).pacing == .paced && s.paceTimer b != (s.busRec b).interval

/-- The eligible transaction of robot `r` in a class on bus `b` (R167). -/
def eligibleTx (s : State) (b : Fin 4) (c : TxClass) (r : Nat) : Option (Nat × Tx) :=
  match s.place r with
  | none => none
  | some p =>
    if p.bus = b then
      match s.pendingTx r c with
      | some tx => if s.heldByPace b.val tx then none else some (p.drop, tx)
      | none => none
    else none

/-- Step 2 of R167: the robot of a class at the first drop address after the pointer, counting upward and wrapping, with
its address and its transaction. -/
def nextOfClass (s : State) (b : Fin 4) (c : TxClass) : Option (Nat × Nat × Tx) :=
  let ptr := tget 7 (s.bus b.val).pointers (classIndex c)
  (List.range 8).findSome? fun d =>
    (List.range 32).findSome? fun r =>
      match s.eligibleTx b c r with
      | some (drop, tx) => if drop = (ptr + 1 + d) % 8 then some (r, drop, tx) else none
      | none => none

/-- The arbiter's choice on bus `b`: the highest class with an eligible transaction, then R167's next robot. -/
def arbiterPick (s : State) (b : Fin 4) : Option (Nat × Nat × Tx) :=
  classes.findSome? fun c => s.nextOfClass b c

/-- The chosen transaction leaves the pending transactions of robot `r` (R160). -/
def takePending (r : Nat) (c : TxClass) (s : State) : State :=
  match c with
  | .abort => s.modPend r fun p => { p with abort := none }
  | .select => s.modPend r fun p => { p with select := none }
  | .poll => s.modPend r fun p => { p with poll := none }
  | .query => s.modPend r fun p => { p with query := none }
  | .load => s.modStage r fun g => { g with channel := g.channel.tail }

/-- Sends the frame of a transaction on bus `b` once more: the pace timer restarts at a LOAD DATA (R160, R162, R168). -/
def putOnBus (b : Nat) (o : OnBus) (s : State) : State :=
  s.modBus b fun x => { x with cur := some o, pace := if isLoadData o.tx.req then 0 else x.pace }

/-- The arbiter's choice on bus `b`, where it is IDLE and something is eligible (R167). -/
def arbitrate (b : Fin 4) (s : State) : State :=
  if (s.bus b.val).cur.isSome then s
  else match s.arbiterPick b with
    | none => s
    | some (r, drop, tx) =>
      let t := (s.takePending r tx.cls).modBus b.val fun x =>
        { x with pointers := tset x.pointers (classIndex tx.cls) drop }
      t.putOnBus b.val ⟨r, drop, tx, 1, 0⟩

/-! ### Poll timers (R165) -/

/-- Whether a poll or a probe of robot `r` is on a bus. -/
def pollOnBus (s : State) (r : Nat) : Bool :=
  s.buses.toList.any fun b =>
    match b.cur with
    | some o => o.robot == r && o.tx.req == .poll
    | none => false

/-- Whether a probe is pending for robot `r`. -/
def probePending (s : State) (r : Nat) : Bool :=
  match (s.pendOf r).query with
  | some tx => tx.req == .poll
  | none => false

/-- Whether the poll timer of robot `r` runs (R165). -/
def pollTimerRuns (s : State) (r : Nat) : Bool :=
  (s.place r).isSome && !s.layout.shared r && (s.robot r).motion.name != .selecting && (s.pendOf r).poll.isNone &&
    !s.probePending r && !s.pollOnBus r

/-- The interval of robot `r`'s poll timer (R165). -/
def pollInterval (s : State) (r : Nat) : Nat :=
  if (s.robot r).online ∧ (s.robot r).motion ≠ .idle then s.line.pollInterval else s.line.probeInterval

/-- The poll timer of robot `r` reaches its interval: a poll, or a probe of an OFFLINE robot, becomes pending
(R164, R165). -/
def expirePoll (r : Nat) (s : State) : State :=
  if s.pollTimerRuns r then
    let t := s.modRobot r fun b => { b with pollTimer := s.pollInterval r }
    t.modPend r fun p =>
      if (s.robot r).online then { p with poll := some (s.newTx .poll .poll) }
      else { p with query := some (s.newTx .query .poll) }
  else s

/-- The BUSY wait of robot `r` has run for the poll interval: the same SELECT is placed again (R150). The wait may be that of
an older SELECT, on the bus at a TRACK RESET and refused when a newer selection had begun (R111); where the newer SELECT is
still pending, of which a robot has one at most (R164), the rules do not say which stays: the SELECT of the wait takes its place
(log entry 23, DESIGN CHOICE). -/
def expireBusy (r : Nat) (s : State) : State :=
  match (s.robot r).busy with
  | some w =>
    (s.modRobot r fun b => { b with busy := none }).modPend r fun p =>
      { p with select := some (s.newTx .select (.select w.frame)) }
  | none => s

/-- The pace timer of bus `b` reaches the pace interval (R168; log entry 3, DESIGN CHOICE). -/
def expirePace (b : Nat) (s : State) : State :=
  s.modBus b fun x => { x with pace := max x.pace (s.busRec b).interval }

/-! ### The end of a sending (R161, R162) -/

/-- The transaction on bus `b` ends: the bus is IDLE (R160). -/
def endTx (b : Nat) (s : State) : State := s.modBus b fun x => { x with cur := none }

/-- The poll timer of robot `r` restarts (R165). -/
def restartPoll (r : Nat) (s : State) : State := s.modRobot r fun b => { b with pollTimer := 0 }

/-- The sending on bus `b` ends without reply: the frame is sent again while sendings are left; a probe then ends with no
effect, and any other transaction loses its robot (R162). -/
def noReply (b : Nat) (s : State) : State :=
  match (s.bus b).cur with
  | none => s
  | some o =>
    if o.sendings ≤ o.tx.retries then s.putOnBus b { o with sendings := o.sendings + 1, waited := 0 }
    else if o.tx.cls = .query ∧ o.tx.req = .poll then (s.endTx b).restartPoll o.robot
    else (s.endTx b).goOffline o.robot true

/-- A complete reply on bus `b` from a drop address (R161): it is discarded on an IDLE bus, taken when its address, its
kind and its contents fit the transaction, and otherwise ends the sending without reply. R163 says of a late reply, to a
transaction that a LAYOUT WRITE ended, that it is discarded also while the bus awaits another drop, and refers to R161: the
reply is not taken, and by R161 it ends the sending on the bus as any reply does that fails condition 2 (log entry 30,
DEDUCED). -/
def takeReply (b : Fin 4) (drop : Nat) (fits : OnBus → Bool) (take : OnBus → State → State) (s : State) : State :=
  match (s.bus b.val).cur with
  | none => s
  | some o =>
    if o.drop = drop ∧ fits o then
      let t := s.endTx b.val
      take o (if o.tx.req = .poll then t.restartPoll o.robot else t)
    else s.noReply b.val

/-! ### Fault codes and STATUS replies (R109, R119, R151) -/

/-- Step 3 of R151: the fault code is stored or removed (R119). Its removal makes an activation attempt (R131) and owes a
selection attempt (R146). -/
def takeFaultCode (r : Nat) (rec1 : StatusRecord) (s : State) : State :=
  if rec1.state = 4 then
    let t := s.modRobot r fun b => { b with fault := some (.robot rec1.faultNumber) }
    if (s.robot r).fault = some (.robot rec1.faultNumber) then t else t.raise .robotFault r
  else if (s.robot r).fault.isSome then
    ((s.modRobot r fun b => { b with fault := none }).activate r).owe [.selection r]
  else s

/-- A STATUS reply from an OFFLINE robot: it becomes ONLINE, a SLOT QUERY is queued, and its staging is recomputed
(R109, R166). -/
def comeOnline (r : Nat) (rec1 : StatusRecord) (s : State) : State :=
  let t := (s.modRobot r fun b => { b with online := true, pollTimer := 0 }).modPend r fun p =>
    { p with query := some (s.newTx .query (.slotQuery (s.slotCount r))) }
  (((t.takeDress r rec1).takeFaultCode r rec1).owe [.recompute r, .selection r])

/-- A STATUS reply of robot `r` is taken (R151). -/
def takeStatus (r : Nat) (rec1 : StatusRecord) (toAbort : Bool) (s : State) : State :=
  if (s.robot r).online then ((s.statusAgainstMotion r rec1 toAbort).takeDress r rec1).takeFaultCode r rec1
  else s.comeOnline r rec1

/-- Condition 4 of R161 for a STATUS record (R189, R192; log entry 13, DEDUCED). -/
def statusInRange (x : StatusRecord) : Bool :=
  decide (x.state ≤ 5) && decide (x.echo ≤ 7) && decide (x.welds ≤ 256) && decide (x.weldFaults ≤ 255) &&
    decide (x.dress ≤ 255) &&
    (if x.state = 4 then decide (1 ≤ x.faultNumber ∧ x.faultNumber ≤ 255) else decide (x.faultNumber = 0))

/-- Whether a STATUS reply fits the transaction: a poll or a probe, or, in DONE form, an ABORT (R161). -/
def statusFits (x : StatusRecord) (o : OnBus) : Bool :=
  statusInRange x &&
    match o.tx.req with
    | .poll => true
    | .abort _ _ _ => x.state == 3
    | _ => false

/-- Whether the transaction is an ABORT that is no orphan. -/
def toLiveAbort (o : OnBus) : Bool :=
  match o.tx.req with
  | .abort _ _ orphan => !orphan
  | _ => false

/-- Whether a slot number in a reply is one of robot `r`'s (R189; log entry 13, DEDUCED). -/
def slotInRange (s : State) (r slot : Nat) : Bool := slot < s.slotCount r

/-! ### SLOT REPORT (R114) -/

/-- The state an UNKNOWN slot takes from its record (R114). -/
def classify (s : State) (x : SlotRecord) : SlotContent :=
  if x.program = 0xFFFF#16 then .empty
  else match s.ready x.program.toNat with
    | some (stamp, _) => if stamp = x.stamp then .valid x.program.toNat x.stamp else .stale x.program.toNat x.stamp
    | none => .stale x.program.toNat x.stamp

/-- Each slot still UNKNOWN is classified from its record; any other keeps its state (R114). -/
def classifyFrom (r : Nat) : Nat → List SlotRecord → State → State
  | _, [], s => s
  | i, x :: rest, s =>
    classifyFrom r (i + 1) rest
      (if ((s.robot r).slot i).content = .unknown then s.setSlot r i (s.classify x) else s)

/-! ### Load replies (R136 to R139) -/

/-- Places a load transaction at the end of robot `r`'s channel (R135). It is placed, with the reply timeout and the retry
limit in force (R170), when it enters the channel, not when the channel hands it to the bus (log entry 12, DEDUCED). -/
def placeLoad (r : Nat) (req : DropRequest) (s : State) : State :=
  s.modStage r fun g => { g with channel := g.channel ++ [s.newTx .load req] }

/-- The next frame of a load whose next index is `next`: the following points, or LOAD CLOSE when none remain (R136). -/
def nextLoadFrame (r : Nat) (l : Load) (next : Nat) (s : State) : State :=
  if next < l.count then
    let points := match s.ready l.program with
      | some (_, d) => s.pointsFrom d next (min Config.framePoints (l.count - next))
      | none => []
    (s.modStage r fun g => { g with load := some { l with phase := .streaming, next := next } }).placeLoad r
      (.loadData l.seq l.slot next points)
  else
    (s.modStage r fun g => { g with load := some { l with phase := .closing, next := next } }).placeLoad r
      (.loadClose l.seq l.slot)

/-- The active load of robot `r`, when the request belongs to it; an ended load has none (R130, R140). -/
def liveLoad (s : State) (r : Nat) (req : DropRequest) : Option Load :=
  match (s.stage r).load with
  | some l => if req.loadSeq = some l.seq then some l else none
  | none => none

/-- A LOAD ACK is taken for a request (R134, R136, R139). -/
def takeLoadAck (r : Nat) (req : DropRequest) (s : State) : State :=
  match req with
  | .loadCancel _ => s.activate r
  | .loadOpen _ _ _ _ _ =>
    match s.liveLoad r req with
    | some l => s.nextLoadFrame r l 0
    | none => s
  | .loadData _ _ _ points =>
    match s.liveLoad r req with
    | some l => s.nextLoadFrame r l (l.next + points.length)
    | none => s
  | _ => s

/-- The declared check of the program a load streams (R137). -/
def declaredCheck (s : State) (l : Load) : Option Word := (s.ready l.program).map fun x => x.2.check

/-- The returned check matches: the slot is VALID, the load ends, its job is removed and LOAD DONE is raised (R137). -/
def loadMatches (r : Nat) (l : Load) (s : State) : State :=
  let t := (s.endLoad r).setSlot r l.slot (.valid l.program l.stamp)
  let t := t.modStage r fun g => { g with jobs := g.jobs.filter fun j => j.program != l.program }
  (t.raise .loadDone r).oweSlot r

/-- The returned check differs: the slot is INVALID, the load ends, and an attempt is used; the last attempt puts the
robot in fault with LOAD CHECK (R138). -/
def loadMismatch (r : Nat) (l : Load) (s : State) : State :=
  let used := match (s.stage r).jobs.find? fun j => j.active with
    | some j => j.attempts + 1
    | none => 0
  let last := decide (s.line.checkAttempts ≤ used)
  let t := (s.endLoad r).setSlot r l.slot (.invalid l.program l.stamp)
  let t := t.modStage r fun g =>
    { g with jobs := g.jobs.map fun j =>
        if j.program = l.program then { j with attempts := if last then 0 else used } else j }
  let t := if last then (t.modRobot r fun b => { b with fault := some .loadCheck }).raise .robotFault r else t
  t.oweSlot r

/-- The LOAD CHECK REPLY to a LOAD CLOSE is taken (R137, R138); for an ended load it changes nothing (R140). -/
def takeLoadCheck (r : Nat) (req : DropRequest) (check : Word) (s : State) : State :=
  match s.liveLoad r req with
  | some l => if s.declaredCheck l = some check then s.loadMatches r l else s.loadMismatch r l
  | none => s

/-- Whether the request on a bus is a SELECT, and its frame. -/
def selectOf (o : OnBus) : Option SelectFrame :=
  match o.tx.req with
  | .select f => some f
  | _ => none

end State

/-! ### The events -/

/-- ARBITER CHOICE (R167). -/
def execArbiterChoice (b : Fin 4) (s : State) : Outcome := .next (s.whileWorking fun s => s.arbitrate b)

/-- POLL TIMER EXPIRY (R165). -/
def execPollTimerExpiry (r : Nat) (s : State) : Outcome := .next (s.whileWorking fun s => s.expirePoll r)

/-- PACE TIMER EXPIRY (R168). -/
def execPaceTimerExpiry (b : Fin 4) (s : State) : Outcome := .next (s.whileWorking fun s => s.expirePace b.val)

/-- BUSY WAIT EXPIRY (R150). -/
def execBusyWaitExpiry (r : Nat) (s : State) : Outcome := .next (s.whileWorking fun s => s.expireBusy r)

/-- REPLY TIMEOUT (R162). -/
def execReplyTimeout (b : Fin 4) (s : State) : Outcome := .next (s.whileWorking fun s => s.noReply b.val)

/-- INVALID REPLY (R161): a complete reply that fails a condition ends the sending at once. -/
def execInvalidReply (b : Fin 4) (s : State) : Outcome := .next (s.whileWorking fun s => s.noReply b.val)

/-- STATUS REPLY (R151). -/
def execStatusReply (b : Fin 4) (drop : Nat) (x : StatusRecord) (s : State) : Outcome :=
  .next (s.whileWorking fun s =>
    s.takeReply b drop (State.statusFits x) fun o t => t.takeStatus o.robot x (State.toLiveAbort o))

/-- ACK (R149). -/
def execAck (b : Fin 4) (drop : Nat) (s : State) : Outcome :=
  .next (s.whileWorking fun s =>
    s.takeReply b drop (fun o => (State.selectOf o).isSome) fun o t =>
      (State.selectOf o).elim t fun f => t.takeAck o.robot f)

/-- NAK with reason SLOT (R150). -/
def execNakSlot (b : Fin 4) (drop : Nat) (s : State) : Outcome :=
  .next (s.whileWorking fun s =>
    s.takeReply b drop (fun o => (State.selectOf o).isSome) fun o t =>
      (State.selectOf o).elim t fun f => t.takeNakSlot o.robot f)

/-- NAK with reason BUSY (R150). -/
def execNakBusy (b : Fin 4) (drop : Nat) (s : State) : Outcome :=
  .next (s.whileWorking fun s =>
    s.takeReply b drop (fun o => (State.selectOf o).isSome) fun o t =>
      (State.selectOf o).elim t fun f => t.takeNakBusy o.robot f)

/-- ABORTED (R156, R157). -/
def execAborted (b : Fin 4) (drop slot dispatch welds : Nat) (s : State) : Outcome :=
  .next (s.whileWorking fun s =>
    s.takeReply b drop
      (fun o => (match o.tx.req with
        | .abort _ _ _ => true
        | _ => false) && s.slotInRange o.robot slot && decide (dispatch ≤ 7) && decide (welds ≤ 256))
      fun o t => t.takeAborted o.robot (!State.toLiveAbort o) welds)

/-- SLOT REPORT (R114). -/
def execSlotReport (b : Fin 4) (drop : Nat) (records : List SlotRecord) (s : State) : Outcome :=
  .next (s.whileWorking fun s =>
    s.takeReply b drop
      (fun o => match o.tx.req with
        | .slotQuery _ => records.length == s.slotCount o.robot
        | _ => false)
      fun o t => (State.classifyFrom o.robot 0 records t).oweSlot o.robot)

/-- LOAD ACK (R136). -/
def execLoadAck (b : Fin 4) (drop slot : Nat) (s : State) : Outcome :=
  .next (s.whileWorking fun s =>
    s.takeReply b drop
      (fun o => (match o.tx.req with
        | .loadOpen _ _ _ _ _ => true
        | .loadData _ _ _ _ => true
        | .loadCancel _ => true
        | _ => false) && s.slotInRange o.robot slot)
      fun o t => t.takeLoadAck o.robot o.tx.req)

/-- LOAD CHECK REPLY (R137). -/
def execLoadCheckReply (b : Fin 4) (drop slot : Nat) (check : Word) (s : State) : Outcome :=
  .next (s.whileWorking fun s =>
    s.takeReply b drop
      (fun o => (match o.tx.req with
        | .loadClose _ _ => true
        | _ => false) && s.slotInRange o.robot slot)
      fun o t => t.takeLoadCheck o.robot o.tx.req check)

end Machine
end Sys2Proof
end

