-- ==== Sys2Proof/Machine/Tracking.lean ====
section
/-!
DEFINITION. The Line Tracker (Chapter 3): arrivals, the opening of a station's work, departures, exits, and the ZONE
tracking requests other than ARRIVE and DEPART.
-/
namespace Sys2Proof
namespace Machine
namespace State

/-! ### Opening the work (R52, R145) -/

/-- The component robot `r` of station `i` has when the work for body `b` is opened (R52). -/
def componentFor (s : State) (i : Nat) (b : Body) (r : Nat) : Component :=
  if b.result i = .welded ∨ b.result i = .passed then .none
  else if (s.resolve b r).isNone then .none
  else if (s.robot r).enabled then .owed
  else .skipped

/-- The work list of station `i` for body `b`, one component for each robot of the station (R52). -/
def workFor (s : State) (i : Nat) (b : Body) : List WorkItem :=
  (s.robotsAt i).map fun r => ⟨r, s.componentFor i b r, false⟩

/-- The result a station that owes body `b` nothing gives it: a result of WELDED or PASSED is kept, and otherwise it is
SKIPPED where a component is SKIPPED and PASSED where every component is NONE (R52, R54). -/
def unowedResult (i : Nat) (b : Body) (items : List WorkItem) : Result :=
  if b.result i = .welded ∨ b.result i = .passed then b.result i
  else if items.any fun w => w.comp == .skipped then .skipped
  else .passed

/-- Opens the work of station `i` for record `k` (R52, R145). The selection attempts of its OWED robots, which R146 lets be taken
in any order, are owed in ascending robot number (log entry 1, DESIGN CHOICE). -/
def openWork (i k : Nat) (s : State) : State :=
  match s.bodyOf k with
  | none => s
  | some b =>
    let items := s.workFor i b
    let t := s.modStation i fun x => { x with work := some items }
    let t := if items.any fun w => w.comp == .skipped then t.markIncomplete k else t
    let owing := items.filter fun w => w.comp == .owed
    let t := if owing = [] then (t.setResultAt i (unowedResult i b items)).completeStation i else t
    (t.oweAll).owe (owing.map fun w => .selection w.robot)

/-! ### Exits and departures (R54, R55, R57) -/

/-- Record `k` exits (R57). -/
def exitBody (k : Nat) (s : State) : State :=
  match s.bodyOf k with
  | none => s
  | some b =>
    let t := (s.freeBody k).raise .bodyExit b.psn.toNat
    let t := if b.incomplete then t.raise .bodyIncomplete b.tag.toNat else t
    (t.oweAll).owe [.admission]

/-- Record `k` leaves station `i` downstream: it goes to BEFORE(i+1), or exits from the last station (R39, R54). -/
def moveOn (i k : Nat) (s : State) : State :=
  if i + 1 = s.stationCount then s.exitBody k
  else s.modBody k fun b => { b with state := .onLine (.before (i + 1)) }

/-- Record `k` leaves the unfinished station `i`, downstream or (`move` false) by a pull (R55). -/
def leaveUnwelded (i k : Nat) (move : Bool) (s : State) : State :=
  let t := (s.modBody k (Body.setResult i .incomplete)).markIncomplete k
  let aborts := s.abortSet i k
  let t := t.vacate i (if aborts = [] then .empty else .clearing) aborts
  let t := if move then t.moveOn i k else t
  t.abortAll k aborts

/-- The components of the body at station `i` as they stand, or as R52 would build them where the work was never opened
(R54). -/
def itemsAt (s : State) (i : Nat) (b : Body) : List WorkItem :=
  match (s.station i).work with
  | some items => items
  | none => s.workFor i b

/-- Whether station `i` in ARRIVED owes body `b` nothing (R54). -/
def owesNothing (s : State) (i : Nat) (b : Body) : Bool := !(s.itemsAt i b).any fun w => w.comp == .owed

/-- Record `k` leaves the station `i` in ARRIVED that owed it nothing: its result is PASSED or SKIPPED, and a SKIPPED
marks it Incomplete (R38, R54; log entry 17, DEDUCED). -/
def leaveUnowed (i k : Nat) (b : Body) (s : State) : State :=
  let items := s.itemsAt i b
  let t := s.modBody k (Body.setResult i (unowedResult i b items))
  let t := if items.any fun w => w.comp == .skipped then t.markIncomplete k else t
  t.vacate i .empty []

/-- A departure from station `i`, by the station's state (R54). The second result is the body moved, if any. -/
def departure (i : Nat) (s : State) : State × Option BodyName :=
  match (s.station i).body with
  | none => (s, none)
  | some k =>
    match s.bodyOf k with
    | none => (s, none)
    | some b =>
      let name : BodyName := ⟨b.tag, b.psn⟩
      match (s.station i).state with
      | .complete => (((s.vacate i .empty []).moveOn i k).oweAll, some name)
      | .arrived =>
        if s.owesNothing i b then (((s.leaveUnowed i k b).moveOn i k).oweAll, some name)
        else ((s.leaveUnwelded i k true).oweAll, some name)
      | .welding => ((s.leaveUnwelded i k true).oweAll, some name)
      | .fault => ((s.leaveUnwelded i k true).oweAll, some name)
      | _ => (s, none)

/-! ### Arrivals (R48 to R51) -/

/-- What the checks of R48 say of an arrival. -/
inductive Verdict where
  | refused
  | faulted (c : Cause)
  | taken (k : Nat)
  deriving DecidableEq, Repr

/-- The checks of R48 on an arrival at station `i` that carries a tag or none. -/
def arrivalCheck (s : State) (i : Nat) (tag : Option Word) : Verdict :=
  if (s.station i).state ≠ .empty then .refused
  else if tag.any fun t => (s.tagged t).isEmpty then .faulted .unknownBody
  else match s.expectedBody i with
    | none => .faulted .noBodyExpected
    | some b => if tag.any fun t => b.tag != t then .faulted .sequenceMismatch else .taken b.key

/-- The implied departure of a body still AT an upstream station (R49), handled "exactly as" R54 handles a reported one. At a
held ARRIVED station that owes the body nothing the two rules differ: R49 has it unwelded, R54 as from COMPLETE with PASSED
or SKIPPED; the model follows R54 (log entry 21, DESIGN CHOICE). -/
def impliedDeparture (i : Nat) (b : Body) (s : State) : State :=
  match b.state with
  | .onLine (.atStation t) => if t < i then (s.departure t).1 else s
  | _ => s

/-- The first station the body has not been at: `u` of R50. -/
def bypassFrom (b : Body) : Nat :=
  match b.state with
  | .onLine (.before u) => u
  | .onLine (.atStation t) => t + 1
  | _ => 0

/-- The stations bypassed on the way to station `i` whose result for the body becomes SKIPPED (R50). -/
def bypassed (i : Nat) (b : Body) : List Nat :=
  (List.range i).filter fun j => decide (bypassFrom b ≤ j) && b.result j != .welded && b.result j != .passed

/-- The bypassed stations record SKIPPED, and one that would have welded the body marks it Incomplete, once (R50). -/
def bypass (i k : Nat) (s : State) : State :=
  match s.bodyOf k with
  | none => s
  | some b =>
    let skips := bypassed i b
    let t := s.modBody k fun b => skips.foldl (fun b j => b.setResult j .skipped) b
    if skips.any fun j => s.anyResolves b j then t.markIncomplete k else t

end State

/-- The stay of a record that arrives at station `i`: a new one, unless it last arrived there (R156; log entry 8). -/
def Body.stayAt (i : Nat) (b : Body) : Nat := if b.lastStation = some i then b.stay else b.stay + 1

namespace State

/-- The arrival of record `k` at station `i` is taken (R51). -/
def takeArrival (i k : Nat) (s : State) : State :=
  let admitted : Bool := match s.bodyOf k with
    | some b => b.state == .admitted
    | none => false
  let t := s.modBody k fun b =>
    { b with state := .onLine (.atStation i), welds := .replicate 32 none, lastStation := some i, stay := b.stayAt i }
  let t := (t.enterState i .arrived).modStation i fun x =>
    { x with body := some k, work := none, cause := none, overrunRaised := false, watch := 0, watchMs := 0, running := true }
  let t := (t.raise .arrival i).oweAll
  let t := if admitted then t.owe [.admission] else t
  if (s.station i).hold then t else t.openWork i k

/-- An arrival at station `i` is handed to the tracker (R48 to R51). The results are the state, whether check 1 refused
it, and the body moved. -/
def arrival (i : Nat) (tag : Option Word) (s : State) : State × Bool × Option BodyName :=
  match s.arrivalCheck i tag with
  | .refused => (s, true, none)
  | .faulted c => (s.faultStation i c, false, none)
  | .taken k =>
    match s.bodyOf k with
    | none => (s, false, none)
    | some b => (((s.impliedDeparture i b).bypass i k).takeArrival i k, false, some ⟨b.tag, b.psn⟩)

/-! ### The checks of R46 -/

/-- Checks 1 to 3 of R46 for a request that names a station. R46 does not place the payload length: the model judges it with
check 2 (log entry 9, DEDUCED from R177's list). -/
def stationRefusal (s : State) (h : Hdr) (i : Nat) : Option Code :=
  if s.mode = .setup then some .mode
  else if h.lengthOk = false ∨ s.stationCount ≤ i then some .range
  else if s.inZone h.port i = false then some .role
  else none

/-- Check 4 of R46: the earliest-admitted record carrying the tag in a state the request acts on, or UNKNOWN, or
STATE. -/
def actOn (s : State) (tag : Word) (acts : Body → Bool) : Except Code Body :=
  if (s.tagged tag).isEmpty then .error .unknown
  else match (s.tagged tag).find? acts with
    | some b => .ok b
    | none => .error .state

/-- Whether a record is PULLED. -/
def isPulled (b : Body) : Bool :=
  match b.state with
  | .pulled _ => true
  | _ => false

end State

/-! ### PULL (R58) -/

/-- Record `b` is taken off the Line List as PULLED; a station holding it is emptied or cleared with aborts (R58). -/
def State.pullBody (b : Body) (reason : Byte) (s : State) : State :=
  let t := match b.state with
    | .onLine (.atStation i) =>
      match (s.station i).state with
      | .complete => s.vacate i .empty []
      | .arrived => if s.owesNothing i b then s.leaveUnowed i b.key b else s.leaveUnwelded i b.key false
      | _ => s.leaveUnwelded i b.key false
    | _ => s
  let t := t.modBody b.key fun x => { x with state := .pulled reason }
  let t := ({ t with lineList := t.lineList.filter fun j => j != b.key } : State).oweAll
  if b.state = .admitted then t.owe [.admission] else t

/-- PULL (R58). The payload length is judged after check 1 of R46, ahead of the tag (log entry 9, DEDUCED). -/
def pullBlock (h : Hdr) (tag : Word) (reason : Byte) (s : State) : Served :=
  if s.mode = .setup then s.refuse .mode
  else if h.lengthOk = false then s.refuse .range
  else match s.actOn tag fun b => !State.isPulled b with
    | .error c => s.refuse c
    | .ok b =>
      match b.state with
      | .onLine (.atStation i) =>
        if s.inZone h.port i then (s.pullBody b reason).done (.former b.state) else s.refuse .role
      | _ => (s.pullBody b reason).done (.former b.state)

def servePull (h : Hdr) (tag : Word) (reason : Byte) (s : State) : State :=
  s.serve h 0x22 .zone (pullBlock h tag reason)

def execPull (h : Hdr) (tag : Word) (reason : Byte) (s : State) : Outcome :=
  .next (s.receive h (.pull h tag reason) (servePull h tag reason))

/-! ### REINSERT (R59) -/

/-- The Line List with record `k` placed immediately ahead of the first record that `ahead` holds of, or at the tail
(R59). -/
def placeBefore (s : State) (k : Nat) (ahead : Body → Bool) : List Nat → List Nat
  | [] => [k]
  | j :: rest =>
    match s.bodyOf j with
    | some b => if ahead b then k :: j :: rest else j :: placeBefore s k ahead rest
    | none => j :: placeBefore s k ahead rest

/-- The Line List with record `k` placed immediately behind the last ON-LINE record, which is ahead of everything where
there is none (R59 step 4). -/
def placeBehindOnLine (s : State) (k : Nat) (l : List Nat) : List Nat :=
  let isOnLine := fun j => match (s.bodyOf j).map (·.state) with
    | some (.onLine _) => true
    | _ => false
  let waiting := (l.reverse.takeWhile fun j => !isOnLine j).reverse
  l.take (l.length - waiting.length) ++ [k] ++ waiting

/-- The record after `k` in a Line List (R59). -/
def following (k : Nat) (l : List Nat) : Option Nat := (l.dropWhile fun j => j != k)[1]?

/-- REINSERT reopens the results at station `i` and beyond that are not WELDED or PASSED (R59 step 2). -/
def reopened (count i : Nat) (b : Body) : Body :=
  ((List.range count).filter fun j => decide (i ≤ j) && b.result j != .welded && b.result j != .passed).foldl
    (fun b j => b.setResult j .pending) b

/-- The record is put back on the line at BEFORE(i) (R59). -/
def State.reinsertBody (b : Body) (i : Nat) (s : State) : State :=
  let l := if i = 0 then placeBehindOnLine s b.key s.lineList else placeBefore s b.key (Body.notYetPast i) s.lineList
  let t := s.modBody b.key fun x =>
    { reopened s.stationCount i x with
      state := .onLine (.before i), reinserts := satAdd 255 x.reinserts 1 }
  ({ t with lineList := l } : State).oweAll

def reinsertBlock (h : Hdr) (tag : Word) (i : Nat) (s : State) : Served :=
  match s.stationRefusal h i with
  | some c => s.refuse c
  | none =>
    match s.actOn tag State.isPulled with
    | .error c => s.refuse c
    | .ok b =>
      let t := s.reinsertBody b i
      t.done (.behind ((following b.key t.lineList).bind t.nameOf))

def serveReinsert (h : Hdr) (tag : Word) (i : Nat) (s : State) : State :=
  s.serve h 0x23 .zone (reinsertBlock h tag i)

def execReinsert (h : Hdr) (tag : Word) (i : Nat) (s : State) : Outcome :=
  .next (s.receive h (.reinsert h tag i) (serveReinsert h tag i))

/-! ### SCRAP (R60) -/

/-- SCRAP (R60). The payload length is judged after check 1 of R46, ahead of the tag (log entry 9, DEDUCED). -/
def scrapBlock (h : Hdr) (tag : Word) (s : State) : Served :=
  if s.mode = .setup then s.refuse .mode
  else if h.lengthOk = false then s.refuse .range
  else match s.actOn tag State.isPulled with
    | .error c => s.refuse c
    | .ok b => (((s.freeBody b.key).oweAll).owe [.admission]).done (.scrapped b.psn b.results)

def serveScrap (h : Hdr) (tag : Word) (s : State) : State := s.serve h 0x24 .zone (scrapBlock h tag)

def execScrap (h : Hdr) (tag : Word) (s : State) : Outcome :=
  .next (s.receive h (.scrap h tag) (serveScrap h tag))

/-! ### HOLD, RELEASE and CLEAR STATION (R61, R62) -/

/-- A station's state and hold flag as HOLD and RELEASE answer them (R61). -/
def State.holdContents (s : State) (i : Nat) : Contents := .held (s.station i).state (s.station i).hold

def holdBlock (h : Hdr) (i : Nat) (s : State) : Served :=
  match s.stationRefusal h i with
  | some c => s.refuse c
  | none =>
    let t := s.modStation i fun x => { x with hold := true }
    t.done (t.holdContents i)

def serveHold (h : Hdr) (i : Nat) (s : State) : State := s.serve h 0x25 .zone (holdBlock h i)

def execHold (h : Hdr) (i : Nat) (s : State) : Outcome := .next (s.receive h (.hold h i) (serveHold h i))

/-- RELEASE opens the work of a held station in ARRIVED whose work has not been opened (R61). -/
def State.releaseStation (i : Nat) (s : State) : State :=
  let t := s.modStation i fun x => { x with hold := false }
  if (s.station i).hold ∧ (s.station i).state = .arrived ∧ (s.station i).work = none then
    match (s.station i).body with
    | some k => t.openWork i k
    | none => t
  else t

def releaseBlock (h : Hdr) (i : Nat) (s : State) : Served :=
  match s.stationRefusal h i with
  | some c => s.refuse c
  | none =>
    let t := s.releaseStation i
    t.done (t.holdContents i)

def serveRelease (h : Hdr) (i : Nat) (s : State) : State := s.serve h 0x26 .zone (releaseBlock h i)

def execRelease (h : Hdr) (i : Nat) (s : State) : Outcome :=
  .next (s.receive h (.release h i) (serveRelease h i))

/-- A FAULT station with a body is completed: components still owed become FAULTED, the result is FAULTED, the body is
Incomplete, and its robots are aborted (R62). -/
def State.clearWithBody (i k : Nat) (s : State) : State :=
  let aborts := s.abortSet i k
  let t := s.modStation i fun x =>
    { x with work := x.work.map fun items => items.map fun w =>
        if w.comp = .owed then { w with comp := .faulted } else w }
  let t := ((t.setResultAt i .faulted).markIncomplete k).completeStation i
  t.abortAll k aborts

def clearStationBlock (h : Hdr) (i : Nat) (s : State) : Served :=
  match s.stationRefusal h i with
  | some c => s.refuse c
  | none =>
    if (s.station i).state ≠ .fault then s.refuse .state
    else match (s.station i).body with
      | some k =>
        let t := s.clearWithBody i k
        t.done (.stationState (t.station i).state)
      | none =>
        let t := (s.enterState i .empty).modStation i fun x => { x with cause := none }
        t.done (.stationState (t.station i).state)

def serveClearStation (h : Hdr) (i : Nat) (s : State) : State := s.serve h 0x27 .zone (clearStationBlock h i)

def execClearStation (h : Hdr) (i : Nat) (s : State) : Outcome :=
  .next (s.receive h (.clearStation h i) (serveClearStation h i))

/-! ### QUERY BODY and QUERY STATION (R64) -/

def queryBodyBlock (h : Hdr) (tag : Word) (s : State) : Served :=
  if h.lengthOk = false then s.refuse .range
  else match s.tagged tag with
    | [] => s.refuse .unknown
    | b :: rest => s.done (.body (rest.length + 1) b)

def serveQueryBody (h : Hdr) (tag : Word) (s : State) : State := s.serve h 0x02 .query (queryBodyBlock h tag)

def execQueryBody (h : Hdr) (tag : Word) (s : State) : Outcome :=
  .next (s.receive h (.queryBody h tag) (serveQueryBody h tag))

/-- What QUERY STATION reports (R64): the layout settings as stored, and the station as it stands. -/
def State.stationView (s : State) (i : Nat) : StationView where
  zone := (s.stationRec i).zone
  source := (s.stationRec i).source
  state := (s.station i).state
  hold := (s.station i).hold
  cause := (s.station i).cause
  watch := (s.station i).watch
  running := (s.station i).running
  lastCycle := (s.station i).lastCycle
  budget := (s.stationRec i).budget
  work := (s.station i).work.map fun items => items.map fun w => (w.robot, w.comp)
  sense := (s.stationRec i).sense
  present := s.present i
  window := (s.presence i).window
  body := (s.station i).body.bind s.nameOf
  expected := (s.expectedBody i).map fun b => ⟨b.tag, b.psn⟩

def queryStationBlock (h : Hdr) (i : Nat) (s : State) : Served :=
  if h.lengthOk = false ∨ s.stationCount ≤ i then s.refuse .range else s.done (.station (s.stationView i))

def serveQueryStation (h : Hdr) (i : Nat) (s : State) : State := s.serve h 0x03 .query (queryStationBlock h i)

def execQueryStation (h : Hdr) (i : Nat) (s : State) : Outcome :=
  .next (s.receive h (.queryStation h i) (serveQueryStation h i))

end Machine
end Sys2Proof
end

