-- ==== Sys2Proof/Machine/PresenceInputs.lean ====
section
/-!
DEFINITION. The Presence Input Unit (Chapter 4): accepted changes, the three arrival sources, the arrival window and
the departure echo, ARRIVE, DEPART and SET SENSE.
-/
namespace Sys2Proof
namespace Machine
namespace State

/-! ### Windows and echoes (R70 to R73) -/

/-- Opens the arrival window of station `i` (R70). -/
def openWindow (i : Nat) (w : Window) (s : State) : State :=
  s.modPresence i fun x => { x with window := w, confirm := 0 }

/-- Closes the arrival window of station `i`; its stored tag is dropped. The rules give the confirm timer no value then, and it
stands at 0 (log entry 28, DESIGN CHOICE). -/
def closeWindow (i : Nat) (s : State) : State :=
  s.modPresence i fun x => { x with window := .closed, confirm := 0 }

/-- Sets the departure echo of station `i`, its timer at 0 (R73). The rules give the timer no value where the echo set is NONE,
and it stands at 0 then too (log entry 28, DESIGN CHOICE). -/
def setEcho (i : Nat) (e : Echo) (s : State) : State :=
  s.modPresence i fun x => { x with echo := e, echoTimer := 0 }

/-- A departure report at a BOTH station: the echo `owed` discards it; otherwise the departure is handed to the tracker,
and one that moved a body sets the echo `other` (R73). -/
def departureReport (i : Nat) (owed other : Echo) (s : State) : State × Option BodyName :=
  if (s.presence i).echo = owed then (s.setEcho i .none, none)
  else
    let v := s.departure i
    (if v.2.isSome then v.1.setEcho i other else v.1, v.2)

/-! ### Line reports (R67, R68) -/

/-- A line arrival at station `i` (R68, R70, R71). -/
def lineArrival (i : Nat) (s : State) : State × Option BodyName :=
  match (s.station i).source with
  | .line => ((s.arrival i none).1, (s.arrival i none).2.2)
  | .frame => (s, none)
  | .both =>
    match (s.presence i).window with
    | .openFrame tag =>
      let v := (s.closeWindow i).arrival i (some tag)
      (v.1, v.2.2)
    | .openLine => (s, none)
    | .closed => if (s.station i).state = .empty then (s.openWindow i .openLine, none) else (s, none)

/-- A line departure at station `i` (R68, R71, R73). -/
def lineDeparture (i : Nat) (s : State) : State × Option BodyName :=
  match (s.station i).source with
  | .line => s.departure i
  | .frame => (s, none)
  | .both =>
    match (s.presence i).window with
    | .openLine => (s.closeWindow i, none)
    | _ => s.departureReport i .owedLine .owedFrame

/-- A change of presence of line `i` is reported in RUN at a station below S (R66, R67). -/
def presenceReport (i : Nat) (was : Bool) (s : State) : State × Option BodyName :=
  if s.mode = .run ∧ i < s.stationCount ∧ s.present i ≠ was then
    if s.present i then s.lineArrival i else s.lineDeparture i
  else (s, none)

/-- The sampled level of line `i` becomes its accepted level and the filter timer is set to 0 (R66). -/
def accept (i : Nat) (level : Level) (s : State) : State :=
  s.modPresence i fun x => { x with pin := level, accepted := level, filter := 0 }

/-- The confirm timer of station `i` reaches C with the window open: the window closes and the station faults (R72). -/
def expireWindow (i : Nat) (s : State) : State :=
  if (s.presence i).window = .closed then s else (s.closeWindow i).faultStation i .unconfirmed

/-- The echo timer of station `i` reaches C: the echo becomes NONE (R73). -/
def expireEcho (i : Nat) (s : State) : State := if (s.presence i).echo = .none then s else s.setEcho i .none

end State

/-- ACCEPTED CHANGE (R66, R67): the level has been sampled for the filter time; where it differs from the accepted level
it becomes the accepted level and the change of presence is reported, and where it equals it the timer is set to 0
(log entry 3, DESIGN CHOICE). -/
def execAcceptedChange (line : Nat) (level : Level) (s : State) : Outcome :=
  .next (s.whileWorking fun s => ((s.accept line level).presenceReport line (s.present line)).1)

/-- CONFIRM WINDOW EXPIRY (R72). -/
def execConfirmWindowExpiry (i : Nat) (s : State) : Outcome := .next (s.whileWorking fun s => s.expireWindow i)

/-- DEPARTURE ECHO EXPIRY (R73). -/
def execDepartureEchoExpiry (i : Nat) (s : State) : Outcome := .next (s.whileWorking fun s => s.expireEcho i)

/-! ### ARRIVE and DEPART (R69) -/

/-- An ARRIVE frame at station `i` with a tag, by the arrival source (R68, R70, R71): the state, whether it is refused
with STATE, and the body moved. -/
def State.frameArrival (i : Nat) (tag : Word) (s : State) : State × Bool × Option BodyName :=
  match (s.station i).source with
  | .both =>
    match (s.presence i).window with
    | .openLine => (s.closeWindow i).arrival i (some tag)
    | .openFrame _ => (s, true, none)
    | .closed =>
      if (s.station i).state = .empty then (s.openWindow i (.openFrame tag), false, none) else (s, true, none)
  | _ => s.arrival i (some tag)

def arriveBlock (h : Hdr) (i : Nat) (tag : Word) (s : State) : Served :=
  match s.stationRefusal h i with
  | some c => s.refuse c
  | none =>
    let v := s.frameArrival i tag
    ⟨v.1, if v.2.1 then .state else .done, .report (v.1.reportView i v.2.2)⟩

def serveArrive (h : Hdr) (i : Nat) (tag : Word) (s : State) : State := s.serve h 0x20 .zone (arriveBlock h i tag)

def execArrive (h : Hdr) (i : Nat) (tag : Word) (s : State) : Outcome :=
  .next (s.receive h (.arrive h i tag) (serveArrive h i tag))

/-- A DEPART frame at station `i`, by the arrival source (R68, R73). -/
def State.frameDeparture (i : Nat) (s : State) : State × Option BodyName :=
  match (s.station i).source with
  | .both => s.departureReport i .owedFrame .owedLine
  | _ => s.departure i

def departBlock (h : Hdr) (i : Nat) (s : State) : Served :=
  match s.stationRefusal h i with
  | some c => s.refuse c
  | none =>
    let v := s.frameDeparture i
    v.1.done (.report (v.1.reportView i v.2))

def serveDepart (h : Hdr) (i : Nat) (s : State) : State := s.serve h 0x21 .zone (departBlock h i)

def execDepart (h : Hdr) (i : Nat) (s : State) : Outcome := .next (s.receive h (.depart h i) (serveDepart h i))

/-! ### SET SENSE (R74) -/

/-- Rewrites the sense of station `i` (R74). -/
def State.writeSense (i : Nat) (x : Sense) (s : State) : State :=
  { s with layout := { s.layout with stations := tset s.layout.stations i { s.stationRec i with sense := x } } }

/-- SET SENSE (R74). R74 has two RANGE checks and does not say which of them judges the payload length (R177): the model
judges it with the first, before the ROLE check (log entry 9, DESIGN CHOICE). -/
def setSenseBlock (h : Hdr) (i : Nat) (sense : Option Sense) (s : State) : Served :=
  if h.lengthOk = false ∨ s.stationCount ≤ i then s.refuse .range
  else if s.inZone h.port i = false then s.refuse .role
  else match sense with
    | none => s.refuse .range
    | some x =>
      let v := (s.writeSense i x).presenceReport i (s.present i)
      v.1.done (.sense x (v.1.reportView i v.2))

def serveSetSense (h : Hdr) (i : Nat) (sense : Option Sense) (s : State) : State :=
  s.serve h 0x2B .zone (setSenseBlock h i sense)

def execSetSense (h : Hdr) (i : Nat) (sense : Option Sense) (s : State) : Outcome :=
  .next (s.receive h (.setSense h i sense) (serveSetSense h i sense))

end Machine
end Sys2Proof
end

