-- ==== Sys2Proof/Machine/Robots.lean ====
section
/-!
DEFINITION. The robot requests (Chapter 7): ROBOT ENABLE, ROBOT DISABLE, DRESS REQUEST and QUERY ROBOT.
-/
namespace Sys2Proof
namespace Machine

/-- The checks of R120 for a robot request. R120 does not place the payload length: the model judges it with check 1 (log
entry 9, DEDUCED from R177's list). -/
def State.robotRefusal (s : State) (h : Hdr) (r : Nat) : Option Code :=
  if 31 < r ∨ h.lengthOk = false then some .range
  else match s.stationOf r with
    | none => some .unknown
    | some i => if s.inZone h.port i then none else some .role

/-- What ROBOT ENABLE and ROBOT DISABLE answer (R120). -/
def State.robotFlags (s : State) (r : Nat) : Contents :=
  .robotFlags (s.robot r).enabled (s.robot r).online (s.robot r).motion.name

/-- ROBOT ENABLE (R120). -/
def robotEnableBlock (h : Hdr) (r : Nat) (s : State) : Served :=
  match s.robotRefusal h r with
  | some c => s.refuse c
  | none =>
    let t := if (s.robot r).enabled then s
      else (s.modRobot r fun b => { b with enabled := true }).owe [.recompute r]
    t.done (t.robotFlags r)

def serveRobotEnable (h : Hdr) (r : Nat) (s : State) : State := s.serve h 0x28 .zone (robotEnableBlock h r)

def execRobotEnable (h : Hdr) (r : Nat) (s : State) : Outcome :=
  .next (s.receive h (.robotEnable h r) (serveRobotEnable h r))

/-- ROBOT DISABLE (R120, R121): the blocked indication is cleared (R133), and an IDLE robot's OWED component is
skipped. -/
def robotDisableBlock (h : Hdr) (r : Nat) (s : State) : Served :=
  match s.robotRefusal h r with
  | some c => s.refuse c
  | none =>
    let t := if (s.robot r).enabled then
        ((((s.modRobot r fun b => { b with enabled := false }).modStage r fun g => { g with blocked := false }).skipDisabled
          r).owe [.recompute r])
      else s
    t.done (t.robotFlags r)

def serveRobotDisable (h : Hdr) (r : Nat) (s : State) : State := s.serve h 0x29 .zone (robotDisableBlock h r)

def execRobotDisable (h : Hdr) (r : Nat) (s : State) : Outcome :=
  .next (s.receive h (.robotDisable h r) (serveRobotDisable h r))

/-- DRESS REQUEST (R122). -/
def dressRequestBlock (h : Hdr) (r : Nat) (s : State) : Served :=
  match s.robotRefusal h r with
  | some c => s.refuse c
  | none =>
    let t := s.modRobot r fun b => { b with dressDue := true }
    t.done (.dress (t.robot r).wear (t.robot r).dressDue (t.robot r).motion.name)

def serveDressRequest (h : Hdr) (r : Nat) (s : State) : State := s.serve h 0x2A .zone (dressRequestBlock h r)

def execDressRequest (h : Hdr) (r : Nat) (s : State) : Outcome :=
  .next (s.receive h (.dressRequest h r) (serveDressRequest h r))

/-- What QUERY ROBOT reports (R123). -/
def State.robotView (s : State) (r : Nat) : RobotView where
  place := s.robotPlace r
  enabled := (s.robot r).enabled
  online := (s.robot r).online
  motion := (s.robot r).motion.name
  selection := (s.robot r).motion.selection?.map fun sel => (sel.slot, sel.psn)
  dispatch := (s.robot r).dispatch
  wear := (s.robot r).wear
  dressDue := (s.robot r).dressDue
  lastDress := (s.robot r).lastDress
  totalWelds := (s.robot r).totalWelds
  clamps := (s.robot r).clamps
  uses := (s.robot r).uses
  fault := (s.robot r).fault
  slots := (List.range (s.slotCount r)).map fun i => (s.robot r).slot i

/-- QUERY ROBOT (R123). -/
def queryRobotBlock (h : Hdr) (r : Nat) (s : State) : Served :=
  if 31 < r ∨ h.lengthOk = false then s.refuse .range else s.done (.robot (s.robotView r))

def serveQueryRobot (h : Hdr) (r : Nat) (s : State) : State := s.serve h 0x04 .query (queryRobotBlock h r)

def execQueryRobot (h : Hdr) (r : Nat) (s : State) : Outcome :=
  .next (s.receive h (.queryRobot h r) (serveQueryRobot h r))

end Machine
end Sys2Proof
end

