-- ==== Sys2Proof/Machine/Schedules.lean ====
section
/-!
DEFINITION. The Schedule Table's requests (Chapter 6): SCHED WRITE in both forms and STEPPER WRITE.
-/
namespace Sys2Proof
namespace Machine

/-- The first field of a schedule out of its range, in the order of R95 (R96 checks 2 and 3: an Imin above Imax names
Imax, but only once every field is in its own range). -/
def scheduleFault (f : SchedFields) : Option Nat :=
  if f.base < 1000 ∨ 24000 < f.base then some 0
  else if f.imin < 300 ∨ 2400 < f.imin then some 1
  else if f.imax < 300 ∨ 2400 < f.imax then some 2
  else if 7 < f.group.getD 0 then some 3
  else if 2000 < f.squeeze then some 4
  else if f.weldTime < 1 ∨ 2000 < f.weldTime then some 5
  else if 2000 < f.hold then some 6
  else if f.imax < f.imin then some 2
  else none

/-- SCHED WRITE, form DEFINE (R96). R96 does not place the payload length among its checks: the model judges it with check
1, so that a wrong length names no field (log entry 9, DESIGN CHOICE). -/
def schedWriteDefineBlock (h : Hdr) (n : Nat) (f : SchedFields) (s : State) : Served :=
  if 63 < n ∨ h.lengthOk = false then s.refuse .range
  else match scheduleFault f with
    | some k => s.refuse .range (.field k)
    | none =>
      match f.group with
      | some g =>
        if (s.curve g).isNone then s.refuse .unknown (.curveNumber g)
        else (s.setSchedule n (some f)).done (.schedule (some f))
      | none => (s.setSchedule n (some f)).done (.schedule (some f))

def serveSchedWriteDefine (h : Hdr) (n : Nat) (f : SchedFields) (s : State) : State :=
  s.serve h 0x34 .library (schedWriteDefineBlock h n f)

def execSchedWriteDefine (h : Hdr) (n : Nat) (f : SchedFields) (s : State) : Outcome :=
  .next (s.receive h (.schedWriteDefine h n f) (serveSchedWriteDefine h n f))

/-- SCHED WRITE, form CLEAR (R96); `listed` is false for a form that is neither DEFINE nor CLEAR. -/
def schedWriteClearBlock (h : Hdr) (n : Nat) (listed : Bool) (s : State) : Served :=
  if 63 < n ∨ h.lengthOk = false ∨ listed = false then s.refuse .range
  else (s.setSchedule n none).done (.schedule none)

def serveSchedWriteClear (h : Hdr) (n : Nat) (listed : Bool) (s : State) : State :=
  s.serve h 0x34 .library (schedWriteClearBlock h n listed)

def execSchedWriteClear (h : Hdr) (n : Nat) (listed : Bool) (s : State) : Outcome :=
  .next (s.receive h (.schedWriteClear h n listed) (serveSchedWriteClear h n listed))

/-- The number, from 1, of the first step with a field out of range (R99 check 3). -/
def stepFault (steps : List CurveStep) : Option Nat :=
  (steps.zipIdx.find? fun x => x.1.threshold < 1 || 65535 < x.1.threshold || 500 < x.1.increment).map fun x => x.2 + 1

/-- The number, from 1, of the first step whose threshold is not greater than its predecessor's, the first step of the
list being number `k` (R99 check 4). -/
def orderFault (k : Nat) : List CurveStep → Option Nat
  | a :: b :: rest => if b.threshold ≤ a.threshold then some (k + 1) else orderFault (k + 1) (b :: rest)
  | _ => none

/-- The number of defined schedules whose stepper group names a curve (R99). -/
def State.schedulesNaming (s : State) (g : Nat) : Nat :=
  ((List.range 64).filter fun n =>
    match s.schedule n with
    | some sc => sc.group == some g
    | none => false).length

/-- STEPPER WRITE (R99). R99 does not place a count outside 1 to 8 among its checks: the model judges it with check 2, ahead
of the steps, so that its reply names no step (log entry 9, DESIGN CHOICE). -/
def stepperWriteBlock (h : Hdr) (g : Nat) (steps : List CurveStep) (s : State) : Served :=
  if 7 < g then s.refuse .range
  else if h.lengthOk = false ∨ steps.length = 0 ∨ 8 < steps.length then s.refuse .range
  else match stepFault steps with
    | some k => s.refuse .range (.place k)
    | none =>
      match orderFault 1 steps with
      | some k => s.refuse .range (.place k)
      | none => (s.setCurve g steps).done (.curve steps (s.schedulesNaming g))

def serveStepperWrite (h : Hdr) (g : Nat) (steps : List CurveStep) (s : State) : State :=
  s.serve h 0x35 .library (stepperWriteBlock h g steps)

def execStepperWrite (h : Hdr) (g : Nat) (steps : List CurveStep) (s : State) : Outcome :=
  .next (s.receive h (.stepperWrite h g steps) (serveStepperWrite h g steps))

end Machine
end Sys2Proof
end

