-- ==== Sys2Proof/Machine/Tables.lean ====
section
/-!
DEFINITION. The Style Table and the Set Table (Chapter 2): STYLE WRITE in both forms, STYLE CANCEL, SET WRITE, SET
DELETE and their queries.
-/
namespace Sys2Proof
namespace Machine

/-! ### Styles -/

/-- The style part a disposition and a set number write: only WELD names its set (R21). -/
def partOf (d : Disposition) (setNo : Nat) : StylePart :=
  match d with
  | .unknown => .unknown
  | .weld => .weld setNo
  | .pass => .pass
  | .reject => .reject

/-- The four checks of R22. -/
def State.styleRefusal (s : State) (style : Nat) (d : Option Disposition) (setNo : Nat) : Option Code :=
  if s.styleActive style = false then some .range
  else match d with
    | none => some .range
    | some .weld =>
      if Config.setCount ≤ setNo then some .range
      else if (s.dispatchSet setNo).entries.isNone then some .unknown
      else none
    | some _ => none

/-- Entry `i`'s parts as a reply gives them. -/
def State.styleContents (s : State) (i : Nat) : Contents := .style (s.style i).current (s.style i).pending

/-- Replaces the current part of an entry, with its namings (R23). -/
def State.writeCurrent (i : Nat) (p : StylePart) (s : State) : State :=
  ((s.setStyle i { s.style i with current := p }).addNaming p.setNo).dropNaming (s.style i).current.setNo

/-- The set a pending part names, if there is a pending part. -/
def StyleEntry.pendingSet (e : StyleEntry) : Option Nat := e.pending.bind fun p => p.part.setNo

/-- Installs a pending part, with its namings (R24). -/
def State.writePending (i : Nat) (p : PendingPart) (s : State) : State :=
  ((s.setStyle i { s.style i with pending := some p }).addNaming p.part.setNo).dropNaming (s.style i).pendingSet

/-- STYLE WRITE without an effective PSN (R22, R23). The payload length is judged ahead of the checks of R22 (log entry 9,
DEDUCED). -/
def styleWriteBlock (h : Hdr) (i : Nat) (d : Option Disposition) (setNo : Nat) (s : State) : Served :=
  if h.lengthOk = false then s.refuse .range
  else match s.styleRefusal i d setNo with
    | some c => s.refuse c
    | none =>
      let t := (s.writeCurrent i (partOf (d.getD .unknown) setNo)).owe [.admission]
      t.done (t.styleContents i)

def serveStyleWrite (h : Hdr) (i : Nat) (d : Option Disposition) (setNo : Nat) (s : State) : State :=
  s.serve h 0x38 .library (styleWriteBlock h i d setNo)

def execStyleWrite (h : Hdr) (i : Nat) (d : Option Disposition) (setNo : Nat) (s : State) : Outcome :=
  .next (s.receive h (.styleWrite h i d setNo) (serveStyleWrite h i d setNo))

/-- STYLE WRITE with an effective PSN (R22, R24). The payload length is judged ahead of the checks of R22 (log entry 9,
DEDUCED). -/
def styleWriteEffectivePsnBlock (h : Hdr) (i : Nat) (d : Option Disposition) (setNo : Nat) (psn : Word) (s : State) :
    Served :=
  if h.lengthOk = false then s.refuse .range
  else match s.styleRefusal i d setNo with
    | some c => s.refuse c
    | none =>
      let t := (s.writePending i ⟨partOf (d.getD .unknown) setNo, psn⟩).owe [.admission]
      t.done (t.styleContents i)

def serveStyleWriteEffectivePsn (h : Hdr) (i : Nat) (d : Option Disposition) (setNo : Nat) (psn : Word) (s : State) :
    State :=
  s.serve h 0x38 .library (styleWriteEffectivePsnBlock h i d setNo psn)

def execStyleWriteEffectivePsn (h : Hdr) (i : Nat) (d : Option Disposition) (setNo : Nat) (psn : Word) (s : State) :
    Outcome :=
  .next (s.receive h (.styleWriteEffectivePsn h i d setNo psn) (serveStyleWriteEffectivePsn h i d setNo psn))

/-- STYLE CANCEL (R25). The payload length is judged with the number (log entry 9, DEDUCED). -/
def styleCancelBlock (h : Hdr) (i : Nat) (s : State) : Served :=
  if h.lengthOk = false ∨ s.styleActive i = false then s.refuse .range
  else if (s.style i).pending.isNone then s.refuse .state
  else
    let t := (s.setStyle i { s.style i with pending := none }).dropNaming (s.style i).pendingSet
    (t.owe [.admission]).done (.styleCurrent (s.style i).current)

def serveStyleCancel (h : Hdr) (i : Nat) (s : State) : State := s.serve h 0x39 .library (styleCancelBlock h i)

def execStyleCancel (h : Hdr) (i : Nat) (s : State) : Outcome :=
  .next (s.receive h (.styleCancel h i) (serveStyleCancel h i))

/-- QUERY STYLE (R36). -/
def queryStyleBlock (h : Hdr) (i : Nat) (s : State) : Served :=
  if h.lengthOk = false ∨ s.styleActive i = false then s.refuse .range else s.done (s.styleContents i)

def serveQueryStyle (h : Hdr) (i : Nat) (s : State) : State := s.serve h 0x06 .query (queryStyleBlock h i)

def execQueryStyle (h : Hdr) (i : Nat) (s : State) : Outcome :=
  .next (s.receive h (.queryStyle h i) (serveQueryStyle h i))

/-- Clears style `i`, whose namings fall (R27). -/
def State.clearStyle (i : Nat) (s : State) : State :=
  ((s.setStyle i ⟨.unknown, none⟩).dropNaming (s.style i).current.setNo).dropNaming (s.style i).pendingSet

/-- The active table is resized: entries at or above its new size are cleared (R27). -/
def State.resizeStyles (s : State) : State :=
  ((List.range 256).filter fun i => activeStyles s.line.m s.line.n ≤ i).foldl (fun t i => t.clearStyle i) s

/-! ### Sets -/

/-- The dispatch entry a written entry is stored as (R29). -/
def storedEntry (e : RawEntry) : DispatchEntry := ⟨e.robot, e.program, e.value, e.mask, e.trim, e.enabled⟩

/-- Whether the entry at a place of a SET WRITE of `n` entries is faulty (R30 check 2): a field out of range, or a Last
flag that does not mark exactly the final entry. -/
def faultyEntry (n place : Nat) (e : RawEntry) : Bool :=
  decide (31 < e.robot) || decide (511 < e.program) || decide (e.trim < -200) || decide (200 < e.trim) ||
    (e.last != (place + 1 == n))

/-- The position of the first entry of a SET WRITE that is faulty in itself (R30). -/
def firstFaulty (entries : List RawEntry) : Option Nat :=
  (entries.zipIdx.find? fun x => faultyEntry entries.length x.2 x.1).map (·.2)

/-- The position that a SET WRITE refused by check 2 of R30 names; none where the check passes. A faulty entry among the first
32 is the first faulty one. R30 does not state the position for no entry, nor for more than 32 of which none of the first 32 is
faulty, whether or not a later one is: there the value is open (log entry 4). -/
def entriesFault (entries : List RawEntry) : Option Nat :=
  match firstFaulty entries with
  | some p => if p < Config.setMaxEntries then some p else some (Config.countFaultPosition entries)
  | none =>
    if entries.length = 0 ∨ Config.setMaxEntries < entries.length then some (Config.countFaultPosition entries) else none

/-- The position of the first entry naming a program that is not READY (R30 check 4). -/
def State.firstNotReady (s : State) (entries : List RawEntry) : Option Nat :=
  (entries.zipIdx.find? fun x => (s.ready x.1.program).isNone).map (·.2)

/-- Every program named loses a reference, one for each entry (R31, R32). -/
def State.dropRefs (entries : List DispatchEntry) (s : State) : State :=
  entries.foldl (fun t e => t.dropRef e.program) s

/-- Every program named gains a reference, one for each entry (R31). -/
def State.addRefs (entries : List DispatchEntry) (s : State) : State :=
  entries.foldl (fun t e => t.addRef e.program) s

/-- SET WRITE (R30, R31). R30 does not place the payload length of R191 among its checks: the model judges it with check 1,
so that a wrong length gives no position even where an entry carried is faulty (log entry 9, DESIGN CHOICE). -/
def setWriteBlock (h : Hdr) (n : Nat) (entries : List RawEntry) (s : State) : Served :=
  if Config.setCount ≤ n ∨ h.lengthOk = false then s.refuse .range
  else match entriesFault entries with
    | some p => s.refuse .range (.place p)
    | none =>
      if (s.dispatchSet n).inUse ≠ 0 then s.refuse .inUse
      else match s.firstNotReady entries with
        | some p => s.refuse .unknown (.place p)
        | none =>
          let old := (s.dispatchSet n).entries.getD []
          if s.poolFree + old.length < entries.length then s.refuse .full (.free s.poolFree)
          else
            let new := entries.map storedEntry
            let t := ((s.dropRefs old).setSet n ⟨some new, 0⟩).addRefs new
            t.done (.free t.poolFree)

def serveSetWrite (h : Hdr) (n : Nat) (entries : List RawEntry) (s : State) : State :=
  s.serve h 0x36 .library (setWriteBlock h n entries)

def execSetWrite (h : Hdr) (n : Nat) (entries : List RawEntry) (s : State) : Outcome :=
  .next (s.receive h (.setWrite h n entries) (serveSetWrite h n entries))

/-- SET DELETE (R32). The payload length is judged with the number (log entry 9, DEDUCED). -/
def setDeleteBlock (h : Hdr) (n : Nat) (s : State) : Served :=
  if Config.setCount ≤ n ∨ h.lengthOk = false then s.refuse .range
  else match (s.dispatchSet n).entries with
    | none => s.refuse .unknown
    | some old =>
      if (s.dispatchSet n).inUse ≠ 0 then s.refuse .inUse
      else
        let t := (s.dropRefs old).setSet n ⟨none, 0⟩
        t.done (.free t.poolFree)

def serveSetDelete (h : Hdr) (n : Nat) (s : State) : State := s.serve h 0x37 .library (setDeleteBlock h n)

def execSetDelete (h : Hdr) (n : Nat) (s : State) : Outcome :=
  .next (s.receive h (.setDelete h n) (serveSetDelete h n))

/-- The entries of a set in the form SET WRITE carries them, the Last flag on the final one alone (R29, R36, R191). -/
def sentEntries : List DispatchEntry → List RawEntry
  | [] => []
  | e :: rest => ⟨e.robot, e.enabled, rest.isEmpty, e.program, e.value, e.mask, e.trim⟩ :: sentEntries rest

/-- QUERY SET (R36). -/
def querySetBlock (h : Hdr) (n : Nat) (s : State) : Served :=
  if Config.setCount ≤ n ∨ h.lengthOk = false then s.refuse .range
  else s.done (.dispatchSet (s.dispatchSet n).inUse s.poolFree ((s.dispatchSet n).entries.map sentEntries))

def serveQuerySet (h : Hdr) (n : Nat) (s : State) : State := s.serve h 0x07 .query (querySetBlock h n)

def execQuerySet (h : Hdr) (n : Nat) (s : State) : Outcome :=
  .next (s.receive h (.querySet h n) (serveQuerySet h n))

end Machine
end Sys2Proof
end

