-- ==== Sys2Proof/Machine/System.lean ====
section
/-!
DEFINITION. Modes, layout and reset (Chapter 12): LAYOUT WRITE, START, STOP, TRACK RESET, power-on and the RESET
input.
-/
namespace Sys2Proof
namespace Machine

/-! ### The records of a LAYOUT WRITE (R184) -/

/-- The first faulty field of a LINE record, numbered from 0 in the order of the table of 12.2. -/
def lineFault (r : RawLine) : Option Nat :=
  if r.stations < 1 ∨ 16 < r.stations then some 0
  else if 8 < r.m then some 1
  else if 8 < r.n then some 2
  else if r.ringLength ≠ 64 ∧ r.ringLength ≠ 128 ∧ r.ringLength ≠ 256 then some 3
  else if 255 < r.lowMark then some 4
  else if r.lead < 1 ∨ 8 < r.lead then some 5
  else if r.policy.isNone then some 6
  else if r.depth < 1 ∨ 3 < r.depth then some 7
  else if r.checkAttempts < 1 ∨ 8 < r.checkAttempts then some 8
  else if r.rounding.isNone then some 9
  else if r.replyTimeout < 5 ∨ 250 < r.replyTimeout then some 10
  else if 3 < r.retryLimit then some 11
  else if r.pollInterval < 10 ∨ 1000 < r.pollInterval then some 12
  else if r.probeInterval < 100 ∨ 5000 < r.probeInterval then some 13
  else none

/-- The first faulty field of a STATION record. -/
def stationFault (r : RawStation) : Option Nat :=
  if 3 < r.zone then some 0
  else if r.source.isNone then some 1
  else if r.budget < 10 ∨ 60000 < r.budget then some 2
  else if 250 < r.filter then some 3
  else if r.sense.isNone then some 4
  else if r.confirm < 50 ∨ 5000 < r.confirm then some 5
  else none

/-- The first faulty field of a ROBOT record; field 0 is Present. -/
def robotFault : RawPlace → Option Nat
  | .absent => none
  | .unlisted => some 0
  | .present r =>
    if 3 < r.bus then some 1
    else if 7 < r.drop then some 2
    else if 15 < r.station then some 3
    else if r.slots < 2 ∨ 8 < r.slots then some 4
    else none

/-- The first faulty field of a BUS record. -/
def busFault (r : RawBus) : Option Nat :=
  if r.pacing.isNone then some 0
  else if r.interval < 1 ∨ 250 < r.interval then some 1
  else none

/-- The fault of a record, as the reply names it: kind, index and first faulty field (R184; the field is an open value
where the kind or the index does not exist, log entry 4). The kinds are numbered
LINE 0, STATION 1, ROBOT 2, BUS 3, PORT 4 (log entry 4, DESIGN CHOICE). -/
def recordFault : RawRecord → Option (Nat × Nat × Nat)
  | .line r => (lineFault r).map fun f => (0, 0, f)
  | .station i r => if 15 < i then some (1, i, Config.layoutIndexFault 1 i) else (stationFault r).map fun f => (1, i, f)
  | .robot i r => if 31 < i then some (2, i, Config.layoutIndexFault 2 i) else (robotFault r).map fun f => (2, i, f)
  | .bus i r => if 3 < i then some (3, i, Config.layoutIndexFault 3 i) else (busFault r).map fun f => (3, i, f)
  | .port i t => if 3 < i then some (4, i, Config.layoutIndexFault 4 i) else if t < 1 ∨ 254 < t then some (4, i, 0) else none
  | .other k i => some (k, i, Config.layoutIndexFault k i)

/-- The LINE record a written record is stored as. -/
def storedLine (r : RawLine) : LineRec where
  stations := r.stations
  m := r.m
  n := r.n
  ringLength := r.ringLength
  lowMark := r.lowMark
  lead := r.lead
  policy := r.policy.getD .hold
  depth := r.depth
  checkAttempts := r.checkAttempts
  rounding := r.rounding.getD .nearestEven
  replyTimeout := r.replyTimeout
  retryLimit := r.retryLimit
  pollInterval := r.pollInterval
  probeInterval := r.probeInterval

/-- The ROBOT record a written record is stored as; one written absent keeps the four fields it had (log entry 6, DESIGN
CHOICE). -/
def storedRobot (old : RobotRec) : RawPlace → RobotRec
  | .absent => { old with present := false }
  | .present x => ⟨true, Fin.ofNat 4 x.bus, x.drop, x.station, x.slots⟩
  | .unlisted => old

/-- The layout with one record replaced (R184). -/
def Layout.write (l : Layout) : RawRecord → Layout
  | .line r => { l with line := storedLine r }
  | .station i r =>
    let x : StationRec := ⟨r.zone, r.source.getD .line, r.budget, r.filter, r.sense.getD .highPresent, r.confirm⟩
    { l with stations := tset l.stations i x }
  | .robot i r =>
    { l with robots := tset l.robots i (storedRobot (tget .default l.robots i) r) }
  | .bus i r => { l with buses := tset l.buses i ⟨r.pacing.getD .auto, r.interval⟩ }
  | .port i t => { l with thresholds := tset l.thresholds i t }
  | .other _ _ => l

/-- Whether the change of layout makes robot `r` OFFLINE: it was in the layout and is removed, or its bus, drop address
or slot count changes, or it now shares its address (R125). -/
def Layout.losesRobot (old new : Layout) (r : Nat) : Bool :=
  match old.robotRec r, new.robotRec r with
  | some _, none => true
  | some p, some q => !p.sameAddress q || p.slots != q.slots || new.shared r
  | none, _ => false

/-- Whether robot `r` is newly placed in the layout (R125). -/
def Layout.placesRobot (old new : Layout) (r : Nat) : Bool :=
  (old.robotRec r).isNone && (new.robotRec r).isSome

namespace State

/-- A robot newly placed in the layout takes the values of R124 for its enabled flag, link state, motion state, fault
code and slots, and its poll timer starts (R125, R165). -/
def placeRobot (r : Nat) (s : State) : State :=
  s.modRobot r fun b =>
    { b with enabled := true, online := false, motion := .idle, busy := none, fault := none,
             slots := .replicate 8 ⟨.unknown, 0⟩, pollTimer := 0 }

/-- The robots act on a change of layout (R125, R169): the lost ones go OFFLINE under the old layout, in ascending number (log
entry 1, DESIGN CHOICE). -/
def changeRobots (new : Layout) (s : State) : State :=
  let old := s.layout
  let lost := (List.range 32).filter fun r => old.losesRobot new r
  let fresh := (List.range 32).filter fun r => old.placesRobot new r
  let parted := (List.range 32).filter fun r => old.shared r && !new.shared r
  let t := lost.foldl (fun t r => t.goOffline r false) s
  let t : State := { t with layout := new }
  let t := fresh.foldl (fun t r => t.placeRobot r) t
  parted.foldl (fun t r => t.modRobot r fun b => { b with pollTimer := 0 }) t

/-- The ring after a change of L: empty with both indices 0, and the low mark judged (R11, R20; log entry 10, DEDUCED). -/
def restartRing (was : Nat) (s : State) : State :=
  (s.setRing { s.ring with read := 0, write := 0, loop := none, stalled := false }).judgeLow was 0

/-- Every station in its power-on state, its layout settings in force kept (R65). -/
def resetStations (s : State) : State :=
  { s with stations := s.stations.map fun x => Station.powerOn x.zone x.source x.budget }

/-- A threshold written below E: E takes the threshold and the port is DEGRADED (R174). -/
def applyThreshold (p : Nat) (s : State) : State :=
  let t := s.threshold p
  let u := s.modPort p (Port.newThreshold t)
  if t < (s.port p).errors ∧ (s.port p).degraded = false then u.raise .linkDegraded p else u

/-- The owning blocks act on a layout written in SETUP (R184). Where one request gives several ports a threshold below their
E, LINK DEGRADED is raised for them in ascending port number, so that the last one's number stays as subject (R174, R180;
log entry 25, DESIGN CHOICE). -/
def applyLayout (new : Layout) (s : State) : State :=
  let old := s.line
  let was := s.ringCount
  let t := s.changeRobots new
  let t := if new.line.ringLength ≠ old.ringLength then t.restartRing was else t
  let t := if new.line.m ≠ old.m ∨ new.line.n ≠ old.n then t.resizeStyles else t
  let t := if new.line.stations ≠ old.stations then t.resetStations else t
  (List.range 4).foldl (fun t p => t.applyThreshold p) t

end State

/-- LAYOUT WRITE (R184): the records are checked in frame order, and a payload length that disagrees with them shows where
they end, after the last of them. The records are written in frame order: where two have one kind and index, the later one
stands, both count as written, and the blocks act on the change from the layout as it was to the last (log entry 29, DESIGN
CHOICE). -/
def layoutWriteBlock (h : Hdr) (records : List RawRecord) (s : State) : Served :=
  if s.mode = .run then s.refuse .mode
  else match records.findSome? recordFault with
    | some (k, i, f) => s.refuse .range (.layoutFault k i f)
    | none =>
      if h.lengthOk = false ∨ records = [] then
        let v := Config.layoutLengthFault records.length
        s.refuse .range (.layoutFault v.1 v.2.1 v.2.2)
      else (s.applyLayout (records.foldl Layout.write s.layout)).done (.written records.length)

def serveLayoutWrite (h : Hdr) (records : List RawRecord) (s : State) : State :=
  s.serve h 0x3A .library (layoutWriteBlock h records)

def execLayoutWrite (h : Hdr) (records : List RawRecord) (s : State) : Outcome :=
  .next (s.receive h (.layoutWrite h records) (serveLayoutWrite h records))

/-! ### START (R185) -/

/-- The lowest-numbered present robot whose station is at or above S (R185 check 2). -/
def Layout.strayRobot (l : Layout) : Option Nat :=
  (List.range 32).find? fun r =>
    match l.robotRec r with
    | some p => l.line.stations ≤ p.station
    | none => false

/-- The higher-numbered robot of the first clashing pair, pairs being taken in ascending order of the lower-numbered and
then of the higher-numbered robot (R185 check 3; log entry 9, DESIGN CHOICE). -/
def Layout.clash (l : Layout) : Option Nat :=
  (List.range 32).findSome? fun r =>
    match l.robotRec r with
    | none => none
    | some p =>
      (List.range 32).find? fun q =>
        decide (r < q) && match l.robotRec q with
          | some p' => p.sameAddress p'
          | none => false

/-- The layout checks of START: the record kind and index it names (R185). -/
def Layout.startFault (l : Layout) : Option (Nat × Nat) :=
  if l.line.m + l.line.n < 4 ∨ 8 < l.line.m + l.line.n then some (0, 0)
  else match l.strayRobot with
    | some r => some (2, r)
    | none =>
      match l.clash with
      | some r => some (2, r)
      | none => if l.line.lead < l.line.depth then some (0, 0) else none

/-- The station settings of the layout come into force (R65; log entry 7, DEDUCED). -/
def State.loadStations (s : State) : State :=
  { s with stations := s.stations.mapFinIdx fun i x _ =>
      { x with zone := (s.stationRec i).zone, source := (s.stationRec i).source, budget := (s.stationRec i).budget } }

/-- START that passes its checks (R13, R131, R185). The robots make their activation attempts in ascending number (log entry 1,
DESIGN CHOICE). -/
def State.startRun (s : State) : State :=
  let t : State := { s.loadStations with mode := .run }
  (s.presentRobots.foldl (fun t r => t.activate r) t).owe [.admission]

def startBlock (h : Hdr) (s : State) : Served :=
  if h.lengthOk = false then s.refuse .range
  else if s.mode = .run then s.refuse .mode
  else match s.layout.startFault with
    | some (k, i) => s.refuse .range (.layoutRecord k i)
    | none => s.startRun.done

def serveStart (h : Hdr) (s : State) : State := s.serve h 0x3B .library (startBlock h)

def execStart (h : Hdr) (s : State) : Outcome := .next (s.receive h (.start h) (serveStart h))

/-! ### STOP (R186) -/

/-- Every arrival window is closed and every departure echo ends (R76), each with its timer at 0 (log entry 28, DESIGN CHOICE). -/
def State.closePresence (s : State) : State :=
  { s with lines := s.lines.map fun x => { x with window := .closed, confirm := 0, echo := .none, echoTimer := 0 } }

def stopBlock (h : Hdr) (s : State) : Served :=
  if h.lengthOk = false then s.refuse .range
  else if s.mode = .setup then s.refuse .mode
  else if s.bodies ≠ [] ∨ s.activeLoads ≠ 0 then s.refuse .state (.busy s.bodies.length s.activeLoads)
  else ({ s.closePresence with mode := .setup } : State).done

def serveStop (h : Hdr) (s : State) : State := s.serve h 0x3C .library (stopBlock h)

def execStop (h : Hdr) (s : State) : Outcome := .next (s.receive h (.stop h) (serveStop h))

/-! ### TRACK RESET (R187) -/

namespace State

/-- Robot `r`'s poll timer is as it was in `s`: TRACK RESET keeps the poll timers (R170, R187; log entry 11). -/
def keepPollTimer (s : State) (r : Nat) (t : State) : State :=
  t.modRobot r fun b => { b with pollTimer := (s.robot r).pollTimer }

/-- TRACK RESET at the Robot Table, for robot `r` (R125, R157, R170). A SELECT left pending for an IDLE robot, where an older one
was answered first, stays pending: R125 withdraws that of a SELECTING robot (log entry 23, DESIGN CHOICE). -/
def resetSelection (r : Nat) (s : State) : State :=
  match (s.robot r).motion with
  | .selecting _ => s.keepPollTimer r ((s.modPend r fun p => { p with select := none }).enterIdle r)
  | .selected sel => s.keepPollTimer r (s.startAbort r sel)
  | .welding sel => s.keepPollTimer r (s.startAbort r sel)
  | _ => s

/-- TRACK RESET at the Staging Unit, for robot `r` (R135, R143; log entry 11, DEDUCED). The LOAD CANCEL is placed here (log
entry 12, DEDUCED). -/
def resetStaging (r : Nat) (s : State) : State :=
  let cancel := match (s.stage r).load with
    | some l => [s.newTx .load (.loadCancel l.slot)]
    | none => []
  (s.cancelLoad r).modStage r fun g => { g with jobs := [], blocked := false, channel := cancel }

/-- Every record is freed: its set loses the naming, and the Line List is empty (R33, R65). -/
def freeAll (s : State) : State :=
  let t := s.bodies.foldl (fun t b => t.dropNaming b.binding.setNo) s
  { t with bodies := [], lineList := [] }

/-- TRACK RESET in every owning block (R187). -/
def trackReset (s : State) : State :=
  let t := (s.emptyRing).freeAll.resetStations.closePresence
  let t := (List.range 32).foldl (fun t r => (t.resetSelection r).resetStaging r) t
  (t.oweAll).owe [.admission]

end State

def trackResetBlock (h : Hdr) (s : State) : Served :=
  if h.lengthOk = false then s.refuse .range else s.trackReset.done

def serveTrackReset (h : Hdr) (s : State) : State := s.serve h 0x3D .library (trackResetBlock h)

def execTrackReset (h : Hdr) (s : State) : Outcome := .next (s.receive h (.trackReset h) (serveTrackReset h))

/-! ### Power-on and the RESET input (R188) -/

/-- POWER ON (R188): every block in its power-on state, with the straps and the first samples as found; the RESET input
and the commands waiting outside are as they were. -/
def execPowerOn (straps : Straps) (levels : BitVec 16) (s : State) : Outcome :=
  .next { State.powerOn straps levels with pending := s.pending, resetInput := s.resetInput }

/-- RESET ASSERT (R188): a reply not sent is lost with the frame held behind it, a transaction on a bus is lost, and the
attention outputs are released while the input is asserted (log entry 2, DEDUCED). -/
def execResetAssert (s : State) : Outcome :=
  .next { s with
    resetInput := true
    due := []
    buses := s.buses.map fun b => { b with cur := none }
    ports := s.ports.map fun p => { p with reply := none, sending := false, held := none } }

/-- RESET RELEASE (R188): release of the asserted input acts as power-on. -/
def execResetRelease (straps : Straps) (levels : BitVec 16) (s : State) : Outcome :=
  .next (if s.resetInput then { State.powerOn straps levels with pending := s.pending } else s)

end Machine
end Sys2Proof
end

