-- ==== Sys2Proof/Machine/Held.lean ====
section
/-!
DEFINITION. REPLY SENT (R171): the reply has gone out whole, and the good frame held meanwhile is taken as the next
request.
-/
namespace Sys2Proof
namespace Machine

/-- Takes a held request, as its own command would with no reply outstanding; E has fallen already (R171, R173). A
port holds nothing but requests. -/
def serveHeld (i : Instr) (s : State) : State :=
  match i with
  | .powerOn _ _ => s
  | .resetAssert => s
  | .resetRelease _ _ => s
  | .status h => serveStatus h s
  | .queryBody h tag => serveQueryBody h tag s
  | .queryStation h station => serveQueryStation h station s
  | .queryRobot h robot => serveQueryRobot h robot s
  | .queryProgram h program range => serveQueryProgram h program range s
  | .queryStyle h style => serveQueryStyle h style s
  | .querySet h setNo => serveQuerySet h setNo s
  | .readAttention h => serveReadAttention h s
  | .setAttentionMask h mask => serveSetAttentionMask h mask s
  | .unknownRequestKind h kind => serveUnknownRequestKind h kind s
  | .seqAppend h entries => serveSeqAppend h entries s
  | .seqSkip h => serveSeqSkip h s
  | .seqLoopOn h listed => serveSeqLoopOn h listed s
  | .seqLoopOff h listed => serveSeqLoopOff h listed s
  | .arrive h station tag => serveArrive h station tag s
  | .depart h station => serveDepart h station s
  | .pull h tag reason => servePull h tag reason s
  | .reinsert h tag station => serveReinsert h tag station s
  | .scrap h tag => serveScrap h tag s
  | .hold h station => serveHold h station s
  | .release h station => serveRelease h station s
  | .clearStation h station => serveClearStation h station s
  | .robotEnable h robot => serveRobotEnable h robot s
  | .robotDisable h robot => serveRobotDisable h robot s
  | .dressRequest h robot => serveDressRequest h robot s
  | .setSense h station sense => serveSetSense h station sense s
  | .progOpen h program count check => serveProgOpen h program count check s
  | .progData h program first points => serveProgData h program first points s
  | .progClose h program => serveProgClose h program s
  | .progDelete h program => serveProgDelete h program s
  | .schedWriteDefine h schedule fields => serveSchedWriteDefine h schedule fields s
  | .schedWriteClear h schedule listed => serveSchedWriteClear h schedule listed s
  | .stepperWrite h curve steps => serveStepperWrite h curve steps s
  | .setWrite h setNo entries => serveSetWrite h setNo entries s
  | .setDelete h setNo => serveSetDelete h setNo s
  | .styleWrite h style disposition setNo => serveStyleWrite h style disposition setNo s
  | .styleWriteEffectivePsn h style disposition setNo psn => serveStyleWriteEffectivePsn h style disposition setNo psn s
  | .styleCancel h style => serveStyleCancel h style s
  | .layoutWrite h records => serveLayoutWrite h records s
  | .start h => serveStart h s
  | .stop h => serveStop h s
  | .trackReset h => serveTrackReset h s
  | .frameError _ _ => s
  | .interByteGap _ => s
  | .lineSilence _ => s
  | .portReset _ => s
  | .goodFrameDiscarded _ => s
  | .acceptedChange _ _ => s
  | .confirmWindowExpiry _ => s
  | .departureEchoExpiry _ => s
  | .overrun _ => s
  | .admissionAttempt => s
  | .stagingRecomputation _ => s
  | .selectionAttempt _ => s
  | .arbiterChoice _ => s
  | .pollTimerExpiry _ => s
  | .paceTimerExpiry _ => s
  | .busyWaitExpiry _ => s
  | .replyTimeout _ => s
  | .invalidReply _ => s
  | .statusReply _ _ _ => s
  | .ack _ _ => s
  | .nakSlot _ _ => s
  | .nakBusy _ _ => s
  | .aborted _ _ _ _ _ => s
  | .slotReport _ _ _ => s
  | .loadAck _ _ _ => s
  | .loadCheckReply _ _ _ _ => s
  | .frameOpening _ => s
  | .replySent _ => s

/-- The frame held on port `p` is taken (R171). -/
def State.takeHeld (p : Fin 4) (s : State) : State :=
  match (s.port p.val).held with
  | some i => serveHeld i (s.modPort p.val fun x => { x with held := none })
  | none => s

/-- REPLY SENT (R171): with no reply outstanding it does nothing. -/
def execReplySent (p : Fin 4) (s : State) : Outcome :=
  .next (s.whileWorking fun s =>
    if (s.port p.val).reply.isSome then (s.modPort p.val fun x => { x with reply := none, sending := false }).takeHeld p else s)

end Machine
end Sys2Proof
end

