-- ==== Sys2Proof/Machine/Timing.lean ====
section
/-!
DEFINITION. What the module does of itself: OVERRUN and SELECTION ATTEMPT, the millisecond tick of its timers, and the
order in which an empty command queue takes owed events, bus choices and ticks (log entries 1 and 3).
-/
namespace Sys2Proof
namespace Machine
namespace State

/-! ### OVERRUN (R44) -/

/-- The running stopwatch of station `i` is at its cycle budget with the overrun-raised flag clear (R44; log entry 3,
DESIGN CHOICE). -/
def overrunAt (i : Nat) (s : State) : State :=
  if (s.station i).running ∧ (s.station i).overrunRaised = false then
    (s.modStation i fun x => { x with watch := max x.watch x.budget, overrunRaised := true }).raise .overrun i
  else s

/-! ### Internal events -/

/-- The owed admission attempt is taken (R13). -/
def takeAdmission (s : State) : State := (s.discharge .admission).admitNext

/-- The owed recomputation of robot `r` is taken (R128). -/
def takeRecompute (r : Nat) (s : State) : State := (s.discharge (.recompute r)).recompute r

/-- The owed selection attempt of robot `r` is taken (R146). -/
def takeSelection (r : Nat) (s : State) : State := (s.discharge (.selection r)).attemptSelection r

/-- An owed event is taken. -/
def takeDue (d : Due) (s : State) : State :=
  match d with
  | .admission => s.takeAdmission
  | .recompute r => s.takeRecompute r
  | .selection r => s.takeSelection r

/-! ### One millisecond -/

/-- One sample of line `i` (R66). -/
def sampleLine (i : Nat) (s : State) : State :=
  let x := s.presence i
  if x.pin = x.accepted then s.modPresence i fun y => { y with filter := 0 }
  else if (s.stationRec i).filter ≤ x.filter + 1 then ((s.accept i x.pin).presenceReport i (s.present i)).1
  else s.modPresence i fun y => { y with filter := y.filter + 1 }

/-- One millisecond of station `i`'s confirm timer (R70, R72). -/
def tickWindow (i : Nat) (s : State) : State :=
  if (s.presence i).window = .closed then s
  else if (s.stationRec i).confirm ≤ (s.presence i).confirm + 1 then s.expireWindow i
  else s.modPresence i fun x => { x with confirm := x.confirm + 1 }

/-- One millisecond of station `i`'s echo timer (R73). -/
def tickEcho (i : Nat) (s : State) : State :=
  if (s.presence i).echo = .none then s
  else if (s.stationRec i).confirm ≤ (s.presence i).echoTimer + 1 then s.expireEcho i
  else s.modPresence i fun x => { x with echoTimer := x.echoTimer + 1 }

/-- A stopwatch one millisecond on: it counts tens of milliseconds and stays at 65535 (R44). -/
def advanceWatch (x : Station) : Station :=
  if x.watchMs + 1 < 10 then { x with watchMs := x.watchMs + 1 }
  else { x with watchMs := 0, watch := satAdd Config.max16 x.watch 1 }

/-- One millisecond of station `i`'s stopwatch (R44). -/
def tickWatch (i : Nat) (s : State) : State :=
  if (s.station i).running then
    let t := s.modStation i advanceWatch
    if (t.station i).budget ≤ (t.station i).watch then t.overrunAt i else t
  else s

/-- One millisecond of robot `r`'s poll timer (R165). The count is held against the interval now in force: after a LAYOUT
WRITE of an interval a timer already past the new one expires at the next millisecond (R170; log entry 24, DESIGN
CHOICE). -/
def tickPoll (r : Nat) (s : State) : State :=
  if s.pollTimerRuns r then
    if s.pollInterval r ≤ (s.robot r).pollTimer + 1 then s.expirePoll r
    else s.modRobot r fun b => { b with pollTimer := b.pollTimer + 1 }
  else s

/-- One millisecond of robot `r`'s BUSY wait (R150). -/
def tickBusy (r : Nat) (s : State) : State :=
  match (s.robot r).busy with
  | none => s
  | some w =>
    if s.line.pollInterval ≤ w.timer + 1 then s.expireBusy r
    else s.modRobot r fun b => { b with busy := some { w with timer := w.timer + 1 } }

/-- One millisecond of bus `b`'s pace timer, in AUTO as in PACED (R160, R168). -/
def tickPace (b : Nat) (s : State) : State := s.modBus b fun x => { x with pace := satAdd 250 x.pace 1 }

/-- One millisecond of bus `b`'s wait for a reply (R161, R162). -/
def tickReply (b : Nat) (s : State) : State :=
  match (s.bus b).cur with
  | none => s
  | some o =>
    if o.tx.timeout ≤ o.waited + 1 then s.noReply b
    else s.modBus b fun x => { x with cur := some { o with waited := o.waited + 1 } }

/-- One millisecond of every timer, then one sample of every line: windows, echoes and stopwatches by station, poll timers
and BUSY waits by robot, pace timers and reply waits by bus, and the lines in order. A timer that an event of this
millisecond's sample starts therefore stands at 0 after it (R66, R70, R73; log entry 1, DESIGN CHOICE). -/
def tick (s : State) : State :=
  let t := (List.range 16).foldl (fun t i => ((t.tickWindow i).tickEcho i).tickWatch i) s
  let t := (List.range 32).foldl (fun t r => (t.tickPoll r).tickBusy r) t
  let t := (List.range 4).foldl (fun t b => (t.tickPace b).tickReply b) t
  (List.range 16).foldl (fun t i => t.sampleLine i) t

/-! ### An empty queue -/

/-- Whether bus `b` is IDLE with an eligible transaction (R167). -/
def mayArbitrate (s : State) (b : Fin 4) : Bool := (s.bus b.val).cur.isNone && (s.arbiterPick b).isSome

/-- Whether port `p` has a reply whose sending has not begun (R178). -/
def replyWaits (s : State) (p : Fin 4) : Bool := (s.port p.val).reply.isSome && !(s.port p.val).sending

/-- Port `p` begins to send its reply: its receiver is closed until the reply is sent (R171). -/
def beginReply (p : Fin 4) (s : State) : State := s.modPort p.val fun x => { x with sending := true }

/-- What the module does while no command waits: the lowest-numbered port with a reply built begins to send it, else the oldest
owed event is taken, else the lowest-numbered bus that has a choice makes it, else one millisecond passes. Nothing happens
while the RESET input is asserted (R188; log entries 1 and 5, DESIGN CHOICE). -/
def idle (s : State) : State :=
  if s.resetInput then s
  else match [0, 1, 2, 3].find? fun p => s.replyWaits p with
    | some p => s.beginReply p
    | none =>
      match s.due with
      | d :: _ => s.takeDue d
      | [] =>
        match [0, 1, 2, 3].find? fun b => s.mayArbitrate b with
        | some b => s.arbitrate b
        | none => s.tick

end State

/-- OVERRUN (R44). -/
def execOverrun (i : Nat) (s : State) : Outcome := .next (s.whileWorking fun s => s.overrunAt i)

/-- SELECTION ATTEMPT (R146 to R148). -/
def execSelectionAttempt (r : Nat) (s : State) : Outcome := .next (s.whileWorking fun s => s.takeSelection r)

end Machine
end Sys2Proof
end

