-- ==== Sys2Proof/Machine/Dispatch.lean ====
section
/-!
DEFINITION. One arm for each command of the opcode table.
-/
namespace Sys2Proof
namespace Machine

def exec (i : Instr) (s : State) : Host.Outcome State Fault Refusal :=
  match i with
  | .powerOn straps levels => Sys2Proof.Machine.execPowerOn straps levels s
  | .resetAssert => Sys2Proof.Machine.execResetAssert s
  | .resetRelease straps levels => Sys2Proof.Machine.execResetRelease straps levels s
  | .status h => Sys2Proof.Machine.execStatus h s
  | .queryBody h tag => Sys2Proof.Machine.execQueryBody h tag s
  | .queryStation h station => Sys2Proof.Machine.execQueryStation h station s
  | .queryRobot h robot => Sys2Proof.Machine.execQueryRobot h robot s
  | .queryProgram h program range => Sys2Proof.Machine.execQueryProgram h program range s
  | .queryStyle h style => Sys2Proof.Machine.execQueryStyle h style s
  | .querySet h setNo => Sys2Proof.Machine.execQuerySet h setNo s
  | .readAttention h => Sys2Proof.Machine.execReadAttention h s
  | .setAttentionMask h mask => Sys2Proof.Machine.execSetAttentionMask h mask s
  | .unknownRequestKind h kind => Sys2Proof.Machine.execUnknownRequestKind h kind s
  | .seqAppend h entries => Sys2Proof.Machine.execSeqAppend h entries s
  | .seqSkip h => Sys2Proof.Machine.execSeqSkip h s
  | .seqLoopOn h listed => Sys2Proof.Machine.execSeqLoopOn h listed s
  | .seqLoopOff h listed => Sys2Proof.Machine.execSeqLoopOff h listed s
  | .arrive h station tag => Sys2Proof.Machine.execArrive h station tag s
  | .depart h station => Sys2Proof.Machine.execDepart h station s
  | .pull h tag reason => Sys2Proof.Machine.execPull h tag reason s
  | .reinsert h tag station => Sys2Proof.Machine.execReinsert h tag station s
  | .scrap h tag => Sys2Proof.Machine.execScrap h tag s
  | .hold h station => Sys2Proof.Machine.execHold h station s
  | .release h station => Sys2Proof.Machine.execRelease h station s
  | .clearStation h station => Sys2Proof.Machine.execClearStation h station s
  | .robotEnable h robot => Sys2Proof.Machine.execRobotEnable h robot s
  | .robotDisable h robot => Sys2Proof.Machine.execRobotDisable h robot s
  | .dressRequest h robot => Sys2Proof.Machine.execDressRequest h robot s
  | .setSense h station sense => Sys2Proof.Machine.execSetSense h station sense s
  | .progOpen h program count check => Sys2Proof.Machine.execProgOpen h program count check s
  | .progData h program first points => Sys2Proof.Machine.execProgData h program first points s
  | .progClose h program => Sys2Proof.Machine.execProgClose h program s
  | .progDelete h program => Sys2Proof.Machine.execProgDelete h program s
  | .schedWriteDefine h schedule fields => Sys2Proof.Machine.execSchedWriteDefine h schedule fields s
  | .schedWriteClear h schedule listed => Sys2Proof.Machine.execSchedWriteClear h schedule listed s
  | .stepperWrite h curve steps => Sys2Proof.Machine.execStepperWrite h curve steps s
  | .setWrite h setNo entries => Sys2Proof.Machine.execSetWrite h setNo entries s
  | .setDelete h setNo => Sys2Proof.Machine.execSetDelete h setNo s
  | .styleWrite h style disposition setNo => Sys2Proof.Machine.execStyleWrite h style disposition setNo s
  | .styleWriteEffectivePsn h style disposition setNo psn => Sys2Proof.Machine.execStyleWriteEffectivePsn h style disposition setNo psn s
  | .styleCancel h style => Sys2Proof.Machine.execStyleCancel h style s
  | .layoutWrite h records => Sys2Proof.Machine.execLayoutWrite h records s
  | .start h => Sys2Proof.Machine.execStart h s
  | .stop h => Sys2Proof.Machine.execStop h s
  | .trackReset h => Sys2Proof.Machine.execTrackReset h s
  | .frameError port cause => Sys2Proof.Machine.execFrameError port cause s
  | .interByteGap port => Sys2Proof.Machine.execInterByteGap port s
  | .lineSilence port => Sys2Proof.Machine.execLineSilence port s
  | .portReset port => Sys2Proof.Machine.execPortReset port s
  | .goodFrameDiscarded port => Sys2Proof.Machine.execGoodFrameDiscarded port s
  | .acceptedChange line level => Sys2Proof.Machine.execAcceptedChange line level s
  | .confirmWindowExpiry station => Sys2Proof.Machine.execConfirmWindowExpiry station s
  | .departureEchoExpiry station => Sys2Proof.Machine.execDepartureEchoExpiry station s
  | .overrun station => Sys2Proof.Machine.execOverrun station s
  | .admissionAttempt => Sys2Proof.Machine.execAdmissionAttempt s
  | .stagingRecomputation robot => Sys2Proof.Machine.execStagingRecomputation robot s
  | .selectionAttempt robot => Sys2Proof.Machine.execSelectionAttempt robot s
  | .arbiterChoice bus => Sys2Proof.Machine.execArbiterChoice bus s
  | .pollTimerExpiry robot => Sys2Proof.Machine.execPollTimerExpiry robot s
  | .paceTimerExpiry bus => Sys2Proof.Machine.execPaceTimerExpiry bus s
  | .busyWaitExpiry robot => Sys2Proof.Machine.execBusyWaitExpiry robot s
  | .replyTimeout bus => Sys2Proof.Machine.execReplyTimeout bus s
  | .invalidReply bus => Sys2Proof.Machine.execInvalidReply bus s
  | .statusReply bus drop record => Sys2Proof.Machine.execStatusReply bus drop record s
  | .ack bus drop => Sys2Proof.Machine.execAck bus drop s
  | .nakSlot bus drop => Sys2Proof.Machine.execNakSlot bus drop s
  | .nakBusy bus drop => Sys2Proof.Machine.execNakBusy bus drop s
  | .aborted bus drop slot dispatch welds => Sys2Proof.Machine.execAborted bus drop slot dispatch welds s
  | .slotReport bus drop records => Sys2Proof.Machine.execSlotReport bus drop records s
  | .loadAck bus drop slot => Sys2Proof.Machine.execLoadAck bus drop slot s
  | .loadCheckReply bus drop slot check => Sys2Proof.Machine.execLoadCheckReply bus drop slot check s
  | .frameOpening port => Sys2Proof.Machine.execFrameOpening port s
  | .replySent port => Sys2Proof.Machine.execReplySent port s

end Machine
end Sys2Proof
end

