-- ==== Sys2Proof/Safety.lean ====
section
/-!
DEFINITION. The vocabulary of the claims: when a line port takes a request, what an answered request does to the ports, and
the invariants that every step keeps.
-/
namespace Sys2Proof
namespace Machine

/-- What a request command is: its header, its kind code and the group of the catalogue it belongs to (R177, R190). A
command that is no request has none, nor has one that names a kind of the catalogue as unknown. -/
def requestOf : Instr → Option (Hdr × Byte × Group)
  | .powerOn _ _ => none
  | .resetAssert => none
  | .resetRelease _ _ => none
  | .status h => some (h, 0x01, .query)
  | .queryBody h _ => some (h, 0x02, .query)
  | .queryStation h _ => some (h, 0x03, .query)
  | .queryRobot h _ => some (h, 0x04, .query)
  | .queryProgram h _ _ => some (h, 0x05, .query)
  | .queryStyle h _ => some (h, 0x06, .query)
  | .querySet h _ => some (h, 0x07, .query)
  | .readAttention h => some (h, 0x08, .query)
  | .setAttentionMask h _ => some (h, 0x09, .query)
  | .unknownRequestKind h k => if knownKind k then none else some (h, k, .query)
  | .seqAppend h _ => some (h, 0x10, .sequence)
  | .seqSkip h => some (h, 0x11, .sequence)
  | .seqLoopOn h _ => some (h, 0x12, .sequence)
  | .seqLoopOff h _ => some (h, 0x12, .sequence)
  | .arrive h _ _ => some (h, 0x20, .zone)
  | .depart h _ => some (h, 0x21, .zone)
  | .pull h _ _ => some (h, 0x22, .zone)
  | .reinsert h _ _ => some (h, 0x23, .zone)
  | .scrap h _ => some (h, 0x24, .zone)
  | .hold h _ => some (h, 0x25, .zone)
  | .release h _ => some (h, 0x26, .zone)
  | .clearStation h _ => some (h, 0x27, .zone)
  | .robotEnable h _ => some (h, 0x28, .zone)
  | .robotDisable h _ => some (h, 0x29, .zone)
  | .dressRequest h _ => some (h, 0x2A, .zone)
  | .setSense h _ _ => some (h, 0x2B, .zone)
  | .progOpen h _ _ _ => some (h, 0x30, .library)
  | .progData h _ _ _ => some (h, 0x31, .library)
  | .progClose h _ => some (h, 0x32, .library)
  | .progDelete h _ => some (h, 0x33, .library)
  | .schedWriteDefine h _ _ => some (h, 0x34, .library)
  | .schedWriteClear h _ _ => some (h, 0x34, .library)
  | .stepperWrite h _ _ => some (h, 0x35, .library)
  | .setWrite h _ _ => some (h, 0x36, .library)
  | .setDelete h _ => some (h, 0x37, .library)
  | .styleWrite h _ _ _ => some (h, 0x38, .library)
  | .styleWriteEffectivePsn h _ _ _ _ => some (h, 0x38, .library)
  | .styleCancel h _ => some (h, 0x39, .library)
  | .layoutWrite h _ => some (h, 0x3A, .library)
  | .start h => some (h, 0x3B, .library)
  | .stop h => some (h, 0x3C, .library)
  | .trackReset h => some (h, 0x3D, .library)
  | .frameError _ _ => none
  | .interByteGap _ => none
  | .lineSilence _ => none
  | .portReset _ => none
  | .goodFrameDiscarded _ => none
  | .acceptedChange _ _ => none
  | .confirmWindowExpiry _ => none
  | .departureEchoExpiry _ => none
  | .overrun _ => none
  | .admissionAttempt => none
  | .stagingRecomputation _ => none
  | .selectionAttempt _ => none
  | .arbiterChoice _ => none
  | .pollTimerExpiry _ => none
  | .paceTimerExpiry _ => none
  | .busyWaitExpiry _ => none
  | .replyTimeout _ => none
  | .invalidReply _ => none
  | .statusReply _ _ _ => none
  | .ack _ _ => none
  | .nakSlot _ _ => none
  | .nakBusy _ _ => none
  | .aborted _ _ _ _ _ => none
  | .slotReport _ _ _ => none
  | .loadAck _ _ _ => none
  | .loadCheckReply _ _ _ _ => none
  | .frameOpening _ => none
  | .replySent _ => none

namespace State

/-! ### Requests -/

/-- Port `p` takes a request frame that completes now: the RESET input is not asserted, the port is not SKIPPING, and it
has no reply outstanding (R171, R188). -/
def listens (s : State) (p : Fin 4) : Prop :=
  s.resetInput = false ∧ (s.port p.val).rx ≠ .skipping ∧ (s.port p.val).reply = none

/-- Port `p` hands a request of a group to its block: it holds the group's role and, for SEQUENCE and LIBRARY, is not
DEGRADED once the frame's own fall of E is made (R173, R177). -/
def grants (s : State) (p : Fin 4) : Group → Prop
  | .query => True
  | .zone => (s.port p.val).roles.zone = true
  | .sequence => (s.port p.val).roles.sequence = true ∧ ((s.port p.val).degraded = true → (s.port p.val).errors ≤ 1)
  | .library => (s.port p.val).roles.library = true ∧ ((s.port p.val).degraded = true → (s.port p.val).errors ≤ 1)

/-- The request of header `h` gets as far as its block's own checks, and its payload length agrees: its port listens, grants
the group, and the length is the one its fields and counts give (R171, R177). -/
def takes (s : State) (h : Hdr) (g : Group) : Prop := s.listens h.port ∧ s.grants h.port g ∧ h.lengthOk = true

/-- From `s` to `t` the request of `h` was answered on its port with this kind, code and contents: the receive state is
HUNTING, E fell by one (DEGRADED clearing at 0), the reply, its sending not begun, carries the request id and the attention
bit as it now is, and the other ports are as they were (R171, R173, R178). -/
def answered (h : Hdr) (kind : Byte) (c : Code) (k : Contents) (s t : State) : Prop :=
  t.port h.port.val =
      { s.port h.port.val with
        rx := .hunting
        errors := (s.port h.port.val).errors - 1
        degraded := (s.port h.port.val).degraded && (s.port h.port.val).errors - 1 != 0
        reply := some ⟨kind, h.id, c, (t.attn h.port.val).waiting, k⟩
        sending := false } ∧
    ∀ q, q ≠ h.port.val → t.port q = s.port q

/-! ### Presence reports -/

/-- The command changes the presence of line `i`, which is then `present`, and leaves the line's own fields as `x`: an ACCEPTED
CHANGE to the other level, which brings the level to the pin (log entry 3) and sets the filter timer to 0, or a SET SENSE that
writes the other sense and passes its checks, which keeps all three (R66, R67, R74). -/
def reports (s : State) (i : Nat) (present : Bool) (x : Presence) : Instr → Prop
  | .acceptedChange j level =>
    j = i ∧ s.resetInput = false ∧ level ≠ (s.presence i).accepted ∧
      (present = true ↔ (level = .high ↔ (s.stationRec i).sense = .highPresent)) ∧
      x = { s.presence i with pin := level, accepted := level, filter := 0 }
  | .setSense h j (some sense) =>
    j = i ∧ s.takes h .zone ∧ s.inZone h.port i = true ∧ sense ≠ (s.stationRec i).sense ∧
      (present = true ↔ ((s.presence i).accepted = .high ↔ sense = .highPresent)) ∧ x = s.presence i
  | _ => False

/-- What a command that reports line `i` leaves in the ports and the layout: an ACCEPTED CHANGE nothing, a SET SENSE its reply,
with the body moved, if any, and the new sense (R67, R74). The tag of an OPEN-FRAME window in the reply is log entry 22. -/
def reported (i : Nat) (moved : Option BodyName) (s t : State) : Instr → Prop
  | .setSense h _ (some sense) =>
    answered h 0x2B .done (.sense sense ⟨(t.station i).state, moved,
        decide ((s.presence i).accepted = .high ↔ sense = .highPresent), (t.presence i).window⟩) s t ∧
      t.stationRec i = { s.stationRec i with sense := sense } ∧ (∀ j, j ≠ i → t.stationRec j = s.stationRec j) ∧
      t.layout = { s.layout with stations := t.layout.stations }
  | _ => t.ports = s.ports ∧ t.layout = s.layout

/-! ### STATUS replies -/

/-- The report `x` is in range (R151, R189, R192; log entry 13): the state one of the six, an echo of 0 to 7, welds of 0 to
256, weld faults and a dress counter of one byte, and a fault number of 1 to 255 in a FAULT report and 0 in any other. -/
def inRange (x : StatusRecord) : Prop :=
  x.state ≤ 5 ∧ x.echo ≤ 7 ∧ x.welds ≤ 256 ∧ x.weldFaults ≤ 255 ∧ x.dress ≤ 255 ∧ x.faultNumber ≤ 255 ∧
    (x.state = 4 ↔ 1 ≤ x.faultNumber)

/-- Robot `r` has dressed since it last reported: the report's dress counter differs from the last seen one (R116). -/
def dressed (s : State) (r : Nat) (x : StatusRecord) : Bool := (s.robot r).lastDress.any fun d => d != x.dress

/-- A robot's context with the dress counter and the fault code as the report leaves them, the poll timer restarted: a dress
makes W 0 and clears dress due, a FAULT report stores its number, and any other removes the code (R116, R119, R165). -/
def withReport (b : Robot) (dressed : Bool) (x : StatusRecord) : Robot :=
  { b with
    lastDress := some x.dress
    wear := if dressed then 0 else b.wear
    dressDue := b.dressDue && !dressed
    fault := if x.state = 4 then some (.robot x.faultNumber) else none
    pollTimer := 0 }

/-- What the report of robot `r` raises after what `u` has raised: DRESS DONE for a dress, and ROBOT FAULT for a fault number
that was not the stored code (R116, R119). -/
def withReportRaised (s u : State) (r : Nat) (x : StatusRecord) : State :=
  let v := if s.dressed r x then u.raise .dressDone r else u
  if x.state = 4 ∧ (s.robot r).fault ≠ some (.robot x.faultNumber) then v.raise .robotFault r else v

/-! ### Invariants -/

/-- Every port's threshold is at least 1, its E lies within 0 and the threshold, and it is DEGRADED only while E is above 0
(R173, R174). -/
def portsInv (s : State) : Prop :=
  ∀ p, p < 4 → 1 ≤ s.threshold p ∧ (s.port p).errors ≤ s.threshold p ∧
    ((s.port p).degraded = true → 1 ≤ (s.port p).errors)

/-- The Body Table holds at most 48 records, at most the admission lead of them are ADMITTED, and in SETUP it holds none
(R12, R186). -/
def bodiesInv (s : State) : Prop :=
  s.bodies.length ≤ 48 ∧ s.admittedCount ≤ s.layout.line.lead ∧ (s.mode = .setup → s.bodies = [])

/-- The counters of every robot context lie in the ranges of R107. -/
def robotsInv (s : State) : Prop :=
  ∀ r, r < 32 → (s.robot r).wear ≤ 65535 ∧ (s.robot r).clamps ≤ 65535 ∧ (s.robot r).uses ≤ 4294967295 ∧
    (s.robot r).totalWelds < 4294967296 ∧ (s.robot r).dispatch < 8

/-- The ring's length is one of the three, its indices are positions of the ring, and in loop mode the loop starts at one of
them and has 1 to L−1 entries (R1, R8). -/
def ringInv (s : State) : Prop :=
  (s.layout.line.ringLength = 64 ∨ s.layout.line.ringLength = 128 ∨ s.layout.line.ringLength = 256) ∧
    s.ring.read < s.layout.line.ringLength ∧ s.ring.write < s.layout.line.ringLength ∧
    ∀ l ∈ s.ring.loop, l.start < s.layout.line.ringLength ∧ 1 ≤ l.length ∧ l.length < s.layout.line.ringLength

/-- The layout has 1 to 16 stations, and every robot context, in the layout or not, a station number, a drop address and a
slot count in range (R107, 12.2). -/
def layoutInv (s : State) : Prop :=
  1 ≤ s.stationCount ∧ s.stationCount ≤ 16 ∧
    ∀ r, (s.robotPlace r).station < 16 ∧ (s.robotPlace r).drop < 8 ∧ 2 ≤ (s.robotPlace r).slots ∧
      (s.robotPlace r).slots ≤ 8

/-- Program `n` is LOADING or READY with these fields (R77). -/
def holdsProgram (s : State) (n : Nat) (d : ProgData) : Prop :=
  (∃ p, (s.prog n).state = .loading p d) ∨ ∃ stamp, (s.prog n).state = .ready stamp d

/-- The block store is accounted for: a LOADING or READY program of 1 to 256 points holds exactly the blocks its count asks for,
each held by it alone and filled in order with the points received; a READY one has received them all; every held block is
in its holder's list; and a port owns at most one LOADING program (R77, R79, R83). -/
def libraryInv (s : State) : Prop :=
  (∀ n d, s.holdsProgram n d →
    1 ≤ d.count ∧ d.count ≤ 256 ∧ d.received ≤ d.count ∧ d.blocks.Nodup ∧ d.blocks.length = blocksFor d.count ∧
      (∀ b ∈ d.blocks, b < 512 ∧ (s.block b).holder = some n) ∧
      ∀ i b, d.blocks[i]? = some b → (s.block b).points.length = min 32 (d.received - 32 * i)) ∧
    (∀ n stamp d, (s.prog n).state = .ready stamp d → d.received = d.count) ∧
    (∀ b n, (s.block b).holder = some n → ∃ d, s.holdsProgram n d ∧ b ∈ d.blocks) ∧
    ∀ m n p d d', (s.prog m).state = .loading p d → (s.prog n).state = .loading p d' → m = n

/-- Every pending transaction stands in its own class, and only load transactions in a load channel (R164). -/
def pendInv (s : State) : Prop :=
  ∀ r, (∀ tx, (s.pendOf r).abort = some tx → tx.cls = .abort) ∧ (∀ tx, (s.pendOf r).select = some tx → tx.cls = .select) ∧
    (∀ tx, (s.pendOf r).poll = some tx → tx.cls = .poll) ∧ (∀ tx, (s.pendOf r).query = some tx → tx.cls = .query) ∧
    ∀ tx ∈ (s.stage r).channel, tx.cls = .load

end State
end Machine
end Sys2Proof
end

