-- ==== Sys2Proof/WellFormed.lean ====
section
/-!
DEFINITION. The commands a link or an event of the module can bring. `exec` has a meaning for every command; the checks here
say which of them the frames of Chapter 13 and the module's numbering can spell.
-/
namespace Sys2Proof

/-- A number that one byte carries. -/
def fitsByte (n : Nat) : Bool := n < 256

/-- A number that two bytes carry. -/
def fitsWord (n : Nat) : Bool := n < 65536

/-- Records of `size` bytes after `lead` bytes of payload fit a payload of 512 bytes (R190, R192). -/
def fitsPayload (lead size count : Nat) : Bool := lead + size * count ≤ 512

/-- A dispatch entry whose fields its ten bytes carry (R191). -/
def RawEntry.wellFormed (e : RawEntry) : Bool :=
  fitsByte e.robot && fitsWord e.program && decide (-32768 ≤ e.trim) && decide (e.trim < 32768)

/-- A STATUS record whose fields its nine bytes carry (R192). -/
def StatusRecord.wellFormed (x : StatusRecord) : Bool :=
  fitsByte x.state && fitsByte x.echo && fitsWord x.welds && fitsByte x.weldFaults && fitsByte x.dress &&
    fitsByte x.faultNumber

/-- A robot number of an event of the module (R107). -/
def robotExists (r : Nat) : Bool := r < Config.robotCount

/-- A station or presence line number of an event of the module (R42, R66). -/
def stationExists (i : Nat) : Bool := i < Config.stationCount

/-- A drop address (R160). -/
def dropExists (d : Nat) : Bool := d < 8

/-- The commands that a link or an event can bring. -/
def Instr.wellFormed : Instr → Bool
  | .powerOn _ _ => true
  | .resetAssert => true
  | .resetRelease _ _ => true
  | .status _ => true
  | .queryBody _ _ => true
  | .queryStation _ i => fitsByte i
  | .queryRobot _ r => fitsByte r
  | .queryProgram _ n _ => fitsWord n
  | .queryStyle _ i => fitsWord i
  | .querySet _ n => fitsByte n
  | .readAttention _ => true
  | .setAttentionMask _ _ => true
  | .unknownRequestKind _ k => !Machine.knownKind k
  | .seqAppend _ es => fitsPayload 1 6 es.length
  | .seqSkip _ => true
  | .seqLoopOn _ _ => true
  | .seqLoopOff _ _ => true
  | .arrive _ i _ => fitsByte i
  | .depart _ i => fitsByte i
  | .pull _ _ _ => true
  | .reinsert _ _ i => fitsByte i
  | .scrap _ _ => true
  | .hold _ i => fitsByte i
  | .release _ i => fitsByte i
  | .clearStation _ i => fitsByte i
  | .robotEnable _ r => fitsByte r
  | .robotDisable _ r => fitsByte r
  | .dressRequest _ r => fitsByte r
  | .setSense _ i _ => fitsByte i
  | .progOpen _ n c _ => fitsWord n && fitsWord c
  | .progData _ n i ps => fitsWord n && fitsWord i && fitsPayload 5 6 ps.length
  | .progClose _ n => fitsWord n
  | .progDelete _ n => fitsWord n
  | .schedWriteDefine _ n _ => fitsByte n
  | .schedWriteClear _ n _ => fitsByte n
  | .stepperWrite _ g _ => fitsByte g
  | .setWrite _ n es => fitsByte n && fitsPayload 1 10 es.length && es.all RawEntry.wellFormed
  | .setDelete _ n => fitsByte n
  | .styleWrite _ i _ _ => fitsWord i
  | .styleWriteEffectivePsn _ i _ _ _ => fitsWord i
  | .styleCancel _ i => fitsWord i
  | .layoutWrite _ _ => true
  | .start _ => true
  | .stop _ => true
  | .trackReset _ => true
  | .frameError _ _ => true
  | .interByteGap _ => true
  | .lineSilence _ => true
  | .portReset _ => true
  | .goodFrameDiscarded _ => true
  | .acceptedChange i _ => stationExists i
  | .confirmWindowExpiry i => stationExists i
  | .departureEchoExpiry i => stationExists i
  | .overrun i => stationExists i
  | .admissionAttempt => true
  | .stagingRecomputation r => robotExists r
  | .selectionAttempt r => robotExists r
  | .arbiterChoice _ => true
  | .pollTimerExpiry r => robotExists r
  | .paceTimerExpiry _ => true
  | .busyWaitExpiry r => robotExists r
  | .replyTimeout _ => true
  | .invalidReply _ => true
  | .statusReply _ d x => dropExists d && x.wellFormed
  | .ack _ d => dropExists d
  | .nakSlot _ d => dropExists d
  | .nakBusy _ d => dropExists d
  | .aborted _ d slot n w => dropExists d && fitsByte slot && fitsByte n && fitsWord w
  | .slotReport _ d rs => dropExists d && fitsPayload 0 4 rs.length
  | .loadAck _ d slot => dropExists d && fitsByte slot
  | .loadCheckReply _ d slot _ => dropExists d && fitsByte slot
  | .frameOpening _ => true
  | .replySent _ => true

end Sys2Proof
end

