-- ==== Sys2Proof/Certificates/Slice0/Obligations.lean ====
section
/-!
DEFINITION. The statements for the provers. A statement about a request takes the request on a port that listens and grants
its group (`State.takes`), says the reply (`State.answered`), the new value of everything the request changes, and, by
`t = { s with … }`, that nothing else changes. `due` lists the internal events the rules owe after an event (admission attempts,
staging recomputations, selection attempts), which the step takes once the queue is empty (log entry 1).
-/
open Sys2Proof Sys2Proof.Machine

/-! ### The queue and the commands as a whole -/

/-- A step with a command waiting is `exec` of the command at the front of the queue, on the state with the queue's rest. That
the commands wait in one queue is the model's, log entry 20. -/
def Obligations.StepRunsFrontCommand : Prop :=
  ∀ (s : State) (c : Instr) (rest : List Instr),
    s.pending = c :: rest → step s = exec c { s with pending := rest }

/-- Every command answers a next state, whatever the state, and leaves the queue to the step. That a command completes in every
state, one that nothing can bring there among them, is the model's choice (log entry 19), and that the commands wait in one
queue is too (log entry 20). -/
def Obligations.EveryCommandCompletesAndKeepsQueue : Prop :=
  ∀ (c : Instr) (s : State), ∃ t, exec c s = .next t ∧ t.pending = s.pending

/-- Every request on a listening port is answered with its kind and request id (R178), the other ports staying as they were
unless a LAYOUT WRITE that is taken rewrites their thresholds (R174); refused, it changes nothing but the reply and the port's
error counter (R177). SEQ APPEND keeps the entries taken before the refused one (R5), a PROG CLOSE refused with CHECK abandons its program
(R87), and an ARRIVE that closes an arrival window may then be refused by R48; these three are left out of the last part. -/
def Obligations.RefusedRequestChangesOnlyItsPort : Prop :=
  ∀ (s : State) (i : Instr) (h : Hdr) (kind : Byte) (g : Group),
    requestOf i = some (h, kind, g) → s.listens h.port →
    ∃ t, exec i s = .next t ∧ ∃ (c : Code) (k : Contents),
      (t.port h.port.val).reply = some ⟨kind, h.id, c, (t.attn h.port.val).waiting, k⟩ ∧
      (c ≠ .done ∨ kind ≠ 0x3A#8 → State.answered h kind c k s t) ∧
      (c ≠ .done → kind ≠ 0x10#8 → kind ≠ 0x32#8 → kind ≠ 0x20#8 → t = { s with ports := t.ports })

/-! ### Line ports (Chapter 11) -/

/-- A request is served alike at once, on a port that listens, and later, from the frame held while a reply is outstanding; a
good frame lowers E once, when it completes. While the port sends its reply its receiver is closed and a request is lost
(R171, R173). That a frame is held while a reply waits for its sending to begin is read from R171 as log entry 5 says. -/
def Obligations.RequestIsServedAtOnceOrHeld : Prop :=
  ∀ (s : State) (i : Instr) (h : Hdr) (kind : Byte) (g : Group), requestOf i = some (h, kind, g) →
    (s.listens h.port → exec i s = .next (serveHeld i (s.goodFrameOn h.port.val))) ∧
    (s.resetInput = false → (s.port h.port.val).rx ≠ .skipping → (s.port h.port.val).reply ≠ none →
      (s.port h.port.val).sending = false → (s.port h.port.val).held = none →
      exec i s = .next ((s.goodFrameOn h.port.val).modPort h.port.val fun x => { x with held := some i })) ∧
    ((s.port h.port.val).reply ≠ none → (s.port h.port.val).sending = true → exec i s = .next s) ∧
    (s.resetInput = false → (s.port h.port.val).reply ≠ none → (s.port h.port.val).held = some i →
      exec (.replySent h.port) s =
        .next (serveHeld i (s.modPort h.port.val fun x => { x with reply := none, sending := false, held := none })))

/-- Before its block sees a request, the port refuses a kind outside the catalogue with RANGE, a request whose group's role it
lacks with ROLE, and, on a DEGRADED port whose E the frame does not bring to 0, a SEQUENCE or LIBRARY request with LINK; the
request changes no state, and the reply to a refused SEQ APPEND carries 0 entries taken and Next PSN (R6, R173, R177). -/
def Obligations.PortRefusesByKindRoleThenLink : Prop :=
  (∀ (s : State) (h : Hdr) (kind : Byte), knownKind kind = false → s.listens h.port →
     ∃ t, exec (.unknownRequestKind h kind) s = .next t ∧ State.answered h kind .range .nothing s t ∧
       t = { s with ports := t.ports }) ∧
  (∀ (s : State) (i : Instr) (h : Hdr) (kind : Byte) (g : Group),
     requestOf i = some (h, kind, g) → s.listens h.port →
     (g = .zone ∧ (s.port h.port.val).roles.zone = false ∨ g = .sequence ∧ (s.port h.port.val).roles.sequence = false ∨
       g = .library ∧ (s.port h.port.val).roles.library = false) →
     ∃ t, exec i s = .next t ∧
       State.answered h kind .role (if kind = 0x10#8 then .appended 0 s.ring.nextPsn else .nothing) s t ∧
       t = { s with ports := t.ports }) ∧
  (∀ (s : State) (i : Instr) (h : Hdr) (kind : Byte) (g : Group),
     requestOf i = some (h, kind, g) → s.listens h.port →
     (g = .sequence ∧ (s.port h.port.val).roles.sequence = true ∨ g = .library ∧ (s.port h.port.val).roles.library = true) →
     (s.port h.port.val).degraded = true → 2 ≤ (s.port h.port.val).errors →
     ∃ t, exec i s = .next t ∧
       State.answered h kind .link (if kind = 0x10#8 then .appended 0 s.ring.nextPsn else .nothing) s t ∧
       t = { s with ports := t.ports })

/-- A frame error raises E while it is below T; at T the port is DEGRADED, and LINK DEGRADED is raised if it was not; the port
skips, or hunts where the error was a gap in the frame (R171 to R173). Which events count in which receive state is log entry
5; that a frame error which finds E at T raises nothing and sets no flag, also where the port is not DEGRADED, is the model's
choice, log entry 26. -/
def Obligations.FrameErrorCountsTowardDegraded : Prop :=
  ∀ (s : State) (p : Fin 4) (i : Instr) (rx : RxState), s.resetInput = false →
    ((∃ c, i = .frameError p c ∧ rx = .skipping ∧ (c = .shortBreak ∨
        (s.port p.val).rx ≠ .skipping ∧ ((s.port p.val).reply = none ∨ (s.port p.val).sending = false))) ∨
      i = .interByteGap p ∧ rx = .hunting ∧ (s.port p.val).rx = .receiving) →
    ∃ t, exec i s = .next t ∧ t = { s with ports := t.ports, attention := t.attention } ∧
      t.port p.val =
        { s.port p.val with
          rx := rx
          errors := if (s.port p.val).errors < s.threshold p.val then (s.port p.val).errors + 1 else (s.port p.val).errors
          degraded := (s.port p.val).degraded || decide ((s.port p.val).errors + 1 = s.threshold p.val) } ∧
      (∀ q, q ≠ p.val → t.port q = s.port q) ∧
      t.attention =
        (if (s.port p.val).errors + 1 = s.threshold p.val ∧ (s.port p.val).degraded = false then
          s.raise .linkDegraded p.val else s).attention

/-- The receive state: silence ends SKIPPING, the sync bytes open a frame while HUNTING, a further good frame counts in E and
is discarded while one is held, and a reply sent whole with no frame held leaves none outstanding. While the port sends its
reply the receiver is closed, and no frame opens or ends on it (R171). A reply built begins to be sent in a step on an empty
queue, the lowest-numbered port first (log entry 5). -/
def Obligations.ReceiveStateFollowsTheLine : Prop :=
  (∀ (s : State) (p : Fin 4) (i : Instr) (x : Port), s.resetInput = false →
    (i = .lineSilence p ∧ (s.port p.val).rx = .skipping ∧ x = { s.port p.val with rx := .hunting } ∨
      i = .frameOpening p ∧ (s.port p.val).rx = .hunting ∧
        ((s.port p.val).reply = none ∨ (s.port p.val).sending = false) ∧ x = { s.port p.val with rx := .receiving } ∨
      i = .goodFrameDiscarded p ∧ (s.port p.val).rx = .receiving ∧
        ((s.port p.val).reply = none ∨ (s.port p.val).sending = false) ∧ (s.port p.val).held ≠ none ∧
        x = { s.port p.val with
              rx := .hunting
              errors := (s.port p.val).errors - 1
              degraded := (s.port p.val).degraded && (s.port p.val).errors - 1 != 0 } ∨
      i = .replySent p ∧ (s.port p.val).reply ≠ none ∧ (s.port p.val).held = none ∧
        x = { s.port p.val with reply := none, sending := false }) →
    ∃ t, exec i s = .next t ∧ t = { s with ports := t.ports } ∧ t.port p.val = x ∧
      ∀ q, q ≠ p.val → t.port q = s.port q) ∧
  (∀ (s : State) (p : Fin 4) (i : Instr), (s.port p.val).reply ≠ none → (s.port p.val).sending = true →
    (i = .frameOpening p ∨ i = .goodFrameDiscarded p ∨ ∃ c, c ≠ .shortBreak ∧ i = .frameError p c) →
    exec i s = .next s) ∧
  ∀ (s : State) (p : Fin 4), s.pending = [] → s.resetInput = false → (s.port p.val).reply ≠ none →
    (s.port p.val).sending = false → (∀ q, q < p.val → (s.port q).reply = none ∨ (s.port q).sending = true) →
    ∃ t, step s = .next t ∧ t = { s with ports := t.ports } ∧ t.port p.val = { s.port p.val with sending := true } ∧
      ∀ q, q ≠ p.val → t.port q = s.port q

/-- A port reset clears the port's E, flag, latches and mask, and abandons the LOADING program the port owns: its entry is
EMPTY with its reference count, and its blocks are free (R175, R88). That the reply and the held frame are dropped is read
from "the rest of the reply is not sent" (log entry 5). -/
def Obligations.PortResetActsOnItsPortAlone : Prop :=
  ∀ (s : State) (p : Fin 4), s.resetInput = false →
    ∃ t, exec (.portReset p) s = .next t ∧
      t = { s with ports := t.ports, attention := t.attention, library := t.library } ∧
      t.port p.val = ⟨.skipping, 0, false, (s.port p.val).roles, none, false, none⟩ ∧
      t.attn p.val = ⟨.replicate 16 none, 127⟩ ∧
      (∀ q, q ≠ p.val → t.port q = s.port q ∧ t.attn q = s.attn q) ∧
      ((∀ n d, (s.prog n).state ≠ .loading p d) → t.library = s.library) ∧
      ∀ n d, (s.prog n).state = .loading p d → (∀ m d', (s.prog m).state = .loading p d' → m = n) →
        t.prog n = ⟨.empty, (s.prog n).refs⟩ ∧ (∀ m, m ≠ n → t.prog m = s.prog m) ∧
        t.library.stamp = s.library.stamp ∧
        ∀ b, t.block b = if b ∈ d.blocks then ⟨none, []⟩ else s.block b

/-! ### Attention (Chapter 11) -/

/-- An event raised is latched at every port that has it enabled: count 1 at a clear kind, one more up to 255 at a latched
one, with the event's subject; a port that has it disabled keeps its latches, and masks stay (R180). -/
def Obligations.RaisedEventLatchesAtEnabledPorts : Prop :=
  ∀ (s : State) (k k' : Kind) (subject p : Nat), p < 4 →
    ((s.raise k subject).attn p).mask = (s.attn p).mask ∧
    ((s.raise k subject).attn p).latch k' =
      if k' = k ∧ (∀ i, k.maskBit = some i → (s.attn p).mask.getLsbD i = true) then
        some ⟨match (s.attn p).latch k with
          | none => 1
          | some l => min 255 (l.count + 1), subject⟩
      else (s.attn p).latch k'

/-- READ ATTENTION answers every kind latched on its port with its latch, in table order, and clears them, so that the reply's
attention bit is clear; SET ATTENTION MASK replaces the mask and keeps what is latched, and refuses a mask with bit 7; a
payload of another length is refused with RANGE; bits 0 to 6 stand for the filtered kinds, and no other kind has one (R181).
-/
def Obligations.AttentionRequestsReadAndMask : Prop :=
  (∀ (s : State) (h : Hdr), s.takes h .query →
    (∃ t, exec (.readAttention h) s = .next t ∧ ∃ list : List (Kind × Latch),
      State.answered h 0x08 .done (.attention list) s t ∧
      (∀ k l, (k, l) ∈ list ↔ (s.attn h.port.val).latch k = some l) ∧
      (list.map (·.1)).Sublist [.stationFault, .overrun, .bodyIncomplete, .robotOffline, .robotFault, .linkDegraded,
        .programLate, .admissionStalled, .stagingBlocked, .stationComplete, .arrival, .bodyExit, .changeoverTaken, .ringLow,
        .loadDone, .dressDone] ∧
      t = { s with ports := t.ports, attention := t.attention } ∧
      t.attn h.port.val = ⟨.replicate 16 none, (s.attn h.port.val).mask⟩ ∧
      ((t.port h.port.val).reply.map (·.attention)) = some false ∧
      ∀ q, q ≠ h.port.val → t.attn q = s.attn q) ∧
    ∀ mask : Byte,
      (mask.getLsbD 7 = false →
        ∃ t, exec (.setAttentionMask h mask) s = .next t ∧
          State.answered h 0x09 .done (.mask (mask.setWidth 7)) s t ∧
          t = { s with ports := t.ports, attention := t.attention } ∧
          t.attn h.port.val = ⟨(s.attn h.port.val).latches, mask.setWidth 7⟩ ∧
          ∀ q, q ≠ h.port.val → t.attn q = s.attn q) ∧
      (mask.getLsbD 7 = true →
        ∃ t, exec (.setAttentionMask h mask) s = .next t ∧ State.answered h 0x09 .range .nothing s t ∧
          t = { s with ports := t.ports })) ∧
  (∀ (s : State) (h : Hdr) (mask : Byte), s.listens h.port → h.lengthOk = false →
    (∃ t, exec (.readAttention h) s = .next t ∧ State.answered h 0x08 .range .nothing s t ∧ t = { s with ports := t.ports }) ∧
    ∃ t, exec (.setAttentionMask h mask) s = .next t ∧ State.answered h 0x09 .range .nothing s t ∧
      t = { s with ports := t.ports }) ∧
  ∀ (k : Kind) (i : Nat), k.maskBit = some i ↔
    (k = .stationComplete ∧ i = 0 ∨ k = .arrival ∧ i = 1 ∨ k = .bodyExit ∧ i = 2 ∨ k = .changeoverTaken ∧ i = 3 ∨
      k = .ringLow ∧ i = 4 ∨ k = .loadDone ∧ i = 5 ∨ k = .dressDone ∧ i = 6)

/-! ### Queries -/

/-- STATUS answers, as they stand, the mode, the five items of ring and admission, the records, the library, the pool, the
robots, the port and its latched kinds, and changes nothing; the pool's free count is 2048 less the entries of every set; the
admission condition is the first of R12 that does not hold, then HELD while the stall indication is set, then OPEN; a payload
is refused with RANGE (R15, R28, R179). -/
def Obligations.StatusReportsTheModule : Prop :=
  (∀ (s : State) (h : Hdr), s.takes h .query →
    ∃ t, exec (.status h) s = .next t ∧ ∃ v, State.answered h 0x01 .done (.status v) s t ∧
      t = { s with ports := t.ports } ∧
      v.mode = s.mode ∧ v.ringCount = s.ringEntries.length ∧ v.loop = s.ring.loop.map (·.length) ∧
      v.nextPsn = s.ring.nextPsn ∧ v.admitted = (s.bodies.filter fun b => b.state == .admitted).length ∧
      v.records = s.bodies.length ∧ v.freeBlocks = ((List.range 512).filter fun b => (s.block b).holder == none).length ∧
      v.stamp = s.library.stamp ∧ v.robots = ((List.range 32).filter fun r => (s.place r).isSome).length ∧
      v.onlineRobots = ((List.range 32).filter fun r => (s.place r).isSome && (s.robot r).online).length ∧
      v.roles = (s.port h.port.val).roles ∧ v.threshold = s.threshold h.port.val ∧
      v.errors = (s.port h.port.val).errors - 1 ∧
      v.latched = (s.attn h.port.val).latched.map (·.1) ∧
      v.poolFree = 2048 - ((List.range 128).map fun k => ((s.dispatchSet k).entries.getD []).length).sum ∧
      v.degraded = ((s.port h.port.val).degraded && (s.port h.port.val).errors - 1 != 0) ∧
      v.admission =
        (if s.mode = .setup then .setup
        else if s.ringEntries = [] then .empty
        else if 48 ≤ s.bodies.length then .tableFull
        else if s.line.lead ≤ v.admitted then .lead
        else if s.ring.stalled then .held
        else .openNow)) ∧
  ∀ (s : State) (h : Hdr), s.listens h.port → h.lengthOk = false →
    ∃ t, exec (.status h) s = .next t ∧ State.answered h 0x01 .range .nothing s t ∧ t = { s with ports := t.ports }

/-- QUERY BODY, QUERY STATION, QUERY ROBOT, QUERY PROGRAM, QUERY STYLE and QUERY SET answer the record, station, robot context
or entry as it stands, field by field, and change nothing; a station or robot number the module does not have is refused with
RANGE, a tag no record carries with UNKNOWN, and a point range of an EMPTY program with STATE. A set's entries carry the Last
flag on the final one alone (R29, R36, R41, R64, R67, R93, R123, R191). The zone, source and budget a station's reply gives
are the layout's (log entry 7), and a robot not in the layout has the place its context holds (log entry 6). -/
def Obligations.QueriesAnswerAndChangeNothing : Prop :=
  (∀ (s : State) (h : Hdr), s.takes h .query → ∀ (i : Instr) (kind : Byte) (c : Code) (k : Contents),
     ((∃ tag b rest, i = .queryBody h tag ∧ kind = 0x02#8 ∧ s.bodies.filter (fun b => b.tag == tag) = b :: rest ∧
         c = .done ∧ k = .body (rest.length + 1) b) ∨
       (∃ tag, i = .queryBody h tag ∧ kind = 0x02#8 ∧ (∀ b ∈ s.bodies, b.tag ≠ tag) ∧ c = .unknown ∧ k = .nothing) ∨
       (∃ n, i = .queryStation h n ∧ kind = 0x03#8 ∧ n < s.stationCount ∧ c = .done ∧ k = .station {
           zone := (s.stationRec n).zone
           source := (s.stationRec n).source
           state := (s.station n).state
           hold := (s.station n).hold
           cause := (s.station n).cause
           watch := (s.station n).watch
           running := (s.station n).running
           lastCycle := (s.station n).lastCycle
           budget := (s.stationRec n).budget
           work := (s.station n).work.map fun items => items.map fun w => (w.robot, w.comp)
           sense := (s.stationRec n).sense
           present := decide ((s.presence n).accepted = .high ↔ (s.stationRec n).sense = .highPresent)
           window := (s.presence n).window
           body := ((s.station n).body.bind s.bodyOf).map fun b => ⟨b.tag, b.psn⟩
           expected := (s.expectedBody n).map fun b => ⟨b.tag, b.psn⟩ }) ∨
       (∃ n, i = .queryStation h n ∧ kind = 0x03#8 ∧ s.stationCount ≤ n ∧ c = .range ∧ k = .nothing) ∨
       (∃ r motion, i = .queryRobot h r ∧ kind = 0x04#8 ∧ r < 32 ∧ c = .done ∧
         ((s.robot r).motion = .idle ∧ motion = (.idle, none) ∨
           ∃ sel, (s.robot r).motion = .selecting sel ∧ motion = (.selecting, some (sel.slot, sel.psn)) ∨
             (s.robot r).motion = .selected sel ∧ motion = (.selected, some (sel.slot, sel.psn)) ∨
             (s.robot r).motion = .welding sel ∧ motion = (.welding, some (sel.slot, sel.psn)) ∨
             (s.robot r).motion = .aborting sel ∧ motion = (.aborting, some (sel.slot, sel.psn))) ∧
         k = .robot {
           place := s.robotPlace r
           enabled := (s.robot r).enabled
           online := (s.robot r).online
           motion := motion.1
           selection := motion.2
           dispatch := (s.robot r).dispatch
           wear := (s.robot r).wear
           dressDue := (s.robot r).dressDue
           lastDress := (s.robot r).lastDress
           totalWelds := (s.robot r).totalWelds
           clamps := (s.robot r).clamps
           uses := (s.robot r).uses
           fault := (s.robot r).fault
           slots := (List.range (min (s.robotPlace r).slots 8)).map fun j => (s.robot r).slot j }) ∨
       (∃ r, i = .queryRobot h r ∧ kind = 0x04#8 ∧ 32 ≤ r ∧ c = .range ∧ k = .nothing)) →
     ∃ t, exec i s = .next t ∧ State.answered h kind c k s t ∧ t = { s with ports := t.ports }) ∧
  (∀ (s : State) (h : Hdr), s.takes h .query → ∀ (i : Instr) (kind : Byte) (c : Code) (k : Contents),
     ((∃ n, i = .queryProgram h n none ∧ kind = 0x05#8 ∧ n < 512 ∧ c = .done ∧
         k = .program (s.prog n) s.freeBlocks.length s.library.stamp []) ∨
       (∃ n first m stamp d, i = .queryProgram h n (some (first, m)) ∧ kind = 0x05#8 ∧ n < 512 ∧ 1 ≤ m ∧ m ≤ 16 ∧
         (s.prog n).state = .ready stamp d ∧ first + m ≤ d.received ∧ c = .done ∧
         k = .program (s.prog n) s.freeBlocks.length s.library.stamp
           ((List.range m).map fun j => s.pointAt d.blocks (first + j))) ∨
       (∃ n first m, i = .queryProgram h n (some (first, m)) ∧ kind = 0x05#8 ∧ n < 512 ∧ 1 ≤ m ∧ m ≤ 16 ∧
         (s.prog n).state = .empty ∧ c = .state ∧ k = .nothing) ∨
       (∃ n, i = .queryStyle h n ∧ kind = 0x06#8 ∧ n < activeStyles s.line.m s.line.n ∧ c = .done ∧
         k = .style (s.style n).current (s.style n).pending) ∨
       (∃ n, i = .querySet h n ∧ kind = 0x07#8 ∧ n < 128 ∧ c = .done ∧
         k = .dispatchSet (s.dispatchSet n).inUse s.poolFree ((s.dispatchSet n).entries.map fun es =>
           es.mapIdx fun j e =>
             (⟨e.robot, e.enabled, decide (j + 1 = es.length), e.program, e.value, e.mask, e.trim⟩ : RawEntry)))) →
     ∃ t, exec i s = .next t ∧ State.answered h kind c k s t ∧ t = { s with ports := t.ports })

/-! ### The Sequence Ring and admission (Chapter 1) -/

/-- SEQ APPEND of 1 to 8 entries that fit and whose tags are in neither the ring nor the Body Table takes them all, in order,
with consecutive PSNs from Next PSN, and owes an admission attempt. A SEQ APPEND whose first entry finds the ring with L−1
entries is refused with FULL, and otherwise one whose first entry's tag is in the ring or in the Body Table with DUPLICATE;
nothing is taken, and Next PSN is returned as it was (R2, R5, R6). -/
def Obligations.SeqAppendTakesOrRefusesItsEntries : Prop :=
  (∀ (s : State) (h : Hdr) (es : List SeqEntry), s.takes h .sequence → s.mode = .run → s.ring.loop = none → s.ringInv →
     1 ≤ es.length → es.length ≤ 8 → s.ringCount + es.length ≤ s.line.ringLength - 1 → (es.map (·.tag)).Nodup →
     (∀ e ∈ es, (∀ x ∈ s.ringEntries, x.tag ≠ e.tag) ∧ ∀ b ∈ s.bodies, b.tag ≠ e.tag) →
     ∃ t, exec (.seqAppend h es) s = .next t ∧
       State.answered h 0x10 .done (.appended es.length (s.ring.nextPsn + BitVec.ofNat 16 es.length)) s t ∧
       t.ringEntries = s.ringEntries ++ es.mapIdx (fun i e =>
         ⟨s.ring.nextPsn + BitVec.ofNat 16 i, e.tag, e.model, e.trim, e.option⟩) ∧
       t.ring = { s.ring with cells := t.ring.cells, write := t.ring.write,
                              nextPsn := s.ring.nextPsn + BitVec.ofNat 16 es.length } ∧
       t = { s with ports := t.ports, ring := t.ring, due := s.due ++ [.admission] }) ∧
  ∀ (s : State) (h : Hdr) (e : SeqEntry) (es : List SeqEntry), s.takes h .sequence → s.mode = .run →
    s.ring.loop = none → es.length < 8 → ∀ c : Code,
    (c = .full ∧ s.line.ringLength - 1 ≤ s.ringCount ∨
      c = .duplicate ∧ s.ringCount < s.line.ringLength - 1 ∧
        ((∃ x ∈ s.ringEntries, x.tag = e.tag) ∨ ∃ b ∈ s.bodies, b.tag = e.tag)) →
    ∃ t, exec (.seqAppend h (e :: es)) s = .next t ∧ State.answered h 0x10 c (.appended 0 s.ring.nextPsn) s t ∧
      t = { s with ports := t.ports }

/-- SEQ SKIP removes the head entry and names it, keeps Next PSN, clears the stall indication, raises RING LOW at a fall to
the low mark, and owes an admission attempt; on an empty ring it is refused with STATE, and in loop mode with MODE (R7, R11,
R13, R14). That the attempt is owed after what is owed already is log entry 1. -/
def Obligations.SeqSkipRemovesTheHead : Prop :=
  ∀ (s : State) (h : Hdr), s.takes h .sequence → s.mode = .run →
    (∀ e rest, s.ring.loop = none → s.ringInv → s.ringEntries = e :: rest →
      ∃ t, exec (.seqSkip h) s = .next t ∧ State.answered h 0x11 .done (.bodyName ⟨e.tag, e.psn⟩) s t ∧
        t.ringEntries = rest ∧ t.ring = { s.ring with read := t.ring.read, stalled := false } ∧
        t.attention =
          (if s.line.lowMark = rest.length then s.raise .ringLow rest.length else s).attention ∧
        t = { s with ports := t.ports, ring := t.ring, attention := t.attention, due := s.due ++ [.admission] }) ∧
    (s.ring.loop = none → s.ringEntries = [] →
      ∃ t, exec (.seqSkip h) s = .next t ∧ State.answered h 0x11 .state .nothing s t ∧ t = { s with ports := t.ports }) ∧
    (s.ring.loop ≠ none →
      ∃ t, exec (.seqSkip h) s = .next t ∧ State.answered h 0x11 .mode .nothing s t ∧ t = { s with ports := t.ports })

/-- SEQ LOOP ON, with loop mode off, a ring that holds entries and an empty Body Table, sets the loop start and length from
the ring as it stands; SEQ LOOP OFF in loop mode empties the ring, ends loop mode, clears the stall indication and judges the
low mark; in any other case each is refused with STATE, and an operand that is neither ON nor OFF with RANGE (R8, R10, R11,
R13). That the attempt owed by ON comes after what is owed already is log entry 1. -/
def Obligations.SeqLoopStartsAndEndsReplay : Prop :=
  (∀ (s : State) (h : Hdr), s.takes h .sequence → s.mode = .run →
     (s.ring.loop = none → s.ringCount ≠ 0 → s.bodies = [] →
       ∃ t, exec (.seqLoopOn h true) s = .next t ∧ State.answered h 0x12 .done .nothing s t ∧
         t = { s with ports := t.ports, ring := { s.ring with loop := some ⟨s.ring.read, s.ringCount⟩ },
                      due := s.due ++ [.admission] }) ∧
     (s.ring.loop ≠ none ∨ s.ringCount = 0 ∨ s.bodies ≠ [] →
       ∃ t, exec (.seqLoopOn h true) s = .next t ∧ State.answered h 0x12 .state .nothing s t ∧
         t = { s with ports := t.ports })) ∧
  (∀ (s : State) (h : Hdr), s.takes h .sequence → s.mode = .run →
     (∀ l, s.ring.loop = some l →
       ∃ t, exec (.seqLoopOff h true) s = .next t ∧ State.answered h 0x12 .done .nothing s t ∧ t.ringEntries = [] ∧
         t.ring = { s.ring with read := s.ring.write, loop := none, stalled := false } ∧
         t.attention = (if s.line.lowMark < l.length then s.raise .ringLow 0 else s).attention ∧
         t = { s with ports := t.ports, ring := t.ring, attention := t.attention }) ∧
     (s.ring.loop = none →
       ∃ t, exec (.seqLoopOff h true) s = .next t ∧ State.answered h 0x12 .state .nothing s t ∧
         t = { s with ports := t.ports })) ∧
  ∀ (s : State) (h : Hdr) (i : Instr), s.takes h .sequence → s.mode = .run →
    (i = .seqLoopOn h false ∨ i = .seqLoopOff h false) →
    ∃ t, exec i s = .next t ∧ State.answered h 0x12 .range .nothing s t ∧ t = { s with ports := t.ports }

/-- An admission attempt with room for one more ADMITTED record admits the head entry: a record of its fields and the
disposition its style's current part decides joins the Body Table and the tail of the Line List, a bound set gains a naming,
BODY INCOMPLETE is raised for a REJECT body, and every robot's recomputation is owed. A pending part whose effective PSN the
comparison PSN is at or after is promoted first: it is the current part, the replaced part's set loses a naming and CHANGEOVER
TAKEN is raised; one not yet reached stays pending. The comparison PSN is the head's, and in loop mode Next PSN. Outside loop
mode the entry leaves the ring, which raises RING LOW at a fall to the low mark. In loop mode the entry stays, the body is DRY
with the fresh PSN of Next PSN, and the read index goes on, from the last loop entry to the loop start. The attempt is made
again, as an event of its own (R2, R9, R11 to R13, R16 to R19). That it is owed ahead of what was owed before it, and the
robots' recomputations in ascending number, is the model's (log entry 1), and so are the record's key and stay (log entry 8). -/
def Obligations.AdmissionAttemptAdmitsTheHead : Prop :=
  ∀ (s u : State) (e : RingEntry) (i : Nat) (part : StylePart) (b : Binding) (promoted : Bool), s.resetInput = false →
    s.mode = .run → s.ringInv → s.bodies.length < 48 → s.admittedCount < s.line.lead →
    i = styleIndex s.line.m s.line.n e.model e.trim →
    ((s.style i).pending = none ∧ promoted = false ∨
      ∃ p, (s.style i).pending = some p ∧
        promoted = decide (((if s.ring.loop = none then e.psn else s.ring.nextPsn) - p.effective).toNat < 32768)) →
    part = (if promoted then (s.style i).pending.elim .unknown (·.part) else (s.style i).current) →
    ((∃ k, part = .weld k ∧ b = .weld k) ∨ part = .pass ∧ b = .pass ∨ part = .reject ∧ b = .reject ∨
      part = .unknown ∧ s.line.policy = .pass ∧ b = .pass) →
    u = (if b = .reject then (if promoted then s.raise .changeoverTaken i else s).raise .bodyIncomplete e.tag.toNat
      else if promoted then s.raise .changeoverTaken i else s) →
    (∀ rest, s.ring.loop = none → s.ringEntries = e :: rest →
      ∃ t, exec .admissionAttempt s = .next t ∧
        t.bodies = s.bodies ++ [⟨s.nextKey, e.psn, e.tag, e.model, e.trim, e.option, i, b, false, .admitted,
          .replicate 16 .pending, .replicate 32 none, none, 0, b == .reject, 0⟩] ∧
        t.lineList = s.lineList ++ [s.nextKey] ∧ t.ringEntries = rest ∧
        t.ring = { s.ring with read := t.ring.read, stalled := false } ∧
        (∀ j, t.style j = if j = i ∧ promoted then ⟨part, none⟩ else s.style j) ∧
        (∀ k, k < 128 → t.dispatchSet k = { s.dispatchSet k with
          inUse := (s.dispatchSet k).inUse - (if promoted ∧ (s.style i).current = .weld k then 1 else 0) +
            if b = .weld k then 1 else 0 }) ∧
        t.attention = (if s.line.lowMark = rest.length then u.raise .ringLow rest.length else u).attention ∧
        t.due = .admission :: (s.due.erase .admission ++ s.presentRobots.map .recompute) ∧
        t = { s with bodies := t.bodies, nextKey := s.nextKey + 1, lineList := t.lineList, ring := t.ring, sets := t.sets,
                     styles := t.styles, attention := t.attention, due := t.due }) ∧
    ∀ l, s.ring.loop = some l → s.ring.cells[s.ring.read]? = some e →
      ∃ t, exec .admissionAttempt s = .next t ∧
        t.bodies = s.bodies ++ [⟨s.nextKey, s.ring.nextPsn, e.tag, e.model, e.trim, e.option, i, b, true, .admitted,
          .replicate 16 .pending, .replicate 32 none, none, 0, b == .reject, 0⟩] ∧
        t.lineList = s.lineList ++ [s.nextKey] ∧ t.ringEntries = s.ringEntries ∧
        t.ring = { s.ring with
          read := if (s.ring.read + 1) % s.line.ringLength = s.ring.write then l.start
            else (s.ring.read + 1) % s.line.ringLength
          nextPsn := s.ring.nextPsn + 1
          stalled := false } ∧
        (∀ j, t.style j = if j = i ∧ promoted then ⟨part, none⟩ else s.style j) ∧
        (∀ k, k < 128 → t.dispatchSet k = { s.dispatchSet k with
          inUse := (s.dispatchSet k).inUse - (if promoted ∧ (s.style i).current = .weld k then 1 else 0) +
            if b = .weld k then 1 else 0 }) ∧
        t = { s with bodies := t.bodies, nextKey := s.nextKey + 1, lineList := t.lineList, ring := t.ring, sets := t.sets,
                     styles := t.styles, attention := u.attention
                     due := .admission :: (s.due.erase .admission ++ s.presentRobots.map .recompute) }

/-- A head entry whose style is UNKNOWN under the HOLD policy stays at the head: the attempt sets the stall indication and,
where it was clear, raises ADMISSION STALLED with the entry's tag (R14, R18). Before that a pending part whose effective PSN
the comparison PSN is at or after is promoted, even where the promoted part then holds the entry: the replaced part's set loses
a naming and CHANGEOVER TAKEN is raised. Where the comparison PSN is before the effective PSN the current part is used and the
pending part stays. The comparison PSN is the head's own outside loop mode, and Next PSN in it (R17). An attempt that fails
one of the first four conditions is no longer owed and changes nothing else (R12). -/
def Obligations.AdmissionAttemptHoldsPromotesOrStaysClosed : Prop :=
  (∀ (s : State) (i : Nat) (psn : Word) (promoted : Bool), s.resetInput = false → s.mode = .run → s.ringCount ≠ 0 →
     s.bodies.length < 48 → s.admittedCount < s.line.lead → s.line.policy = .hold → i = s.headStyle →
     (s.ring.loop = none ∧ psn = s.ringHead.psn ∨ s.ring.loop ≠ none ∧ psn = s.ring.nextPsn) →
     (promoted = false ∧ (s.style i).current = .unknown ∧
         (∀ p, (s.style i).pending = some p → 32768 ≤ (psn - p.effective).toNat) ∨
       promoted = true ∧ ∃ p, (s.style i).pending = some p ∧ p.part = .unknown ∧ (psn - p.effective).toNat < 32768) →
     ∃ t, exec .admissionAttempt s = .next t ∧
       (∀ j, t.style j = if j = i ∧ promoted then ⟨.unknown, none⟩ else s.style j) ∧
       (∀ k, k < 128 → t.dispatchSet k = { s.dispatchSet k with
         inUse := (s.dispatchSet k).inUse - if promoted ∧ (s.style i).current = .weld k then 1 else 0 }) ∧
       (∃ u, u = (if promoted then s.raise .changeoverTaken i else s) ∧
         t.attention = (if s.ring.stalled then u else u.raise .admissionStalled s.ringHead.tag.toNat).attention) ∧
       t = { s with ring := { s.ring with stalled := true }, styles := t.styles, sets := t.sets
                    due := s.due.erase .admission, attention := t.attention }) ∧
  ∀ s : State, s.resetInput = false →
    (s.mode = .setup ∨ s.ringCount = 0 ∨ 48 ≤ s.bodies.length ∨ s.line.lead ≤ s.admittedCount →
      exec .admissionAttempt s = .next { s with due := s.due.erase .admission })

/-! ### Styles and sets (Chapter 2) -/

/-- STYLE WRITE without an effective PSN replaces the current part and keeps the pending one; with one it installs the pending
part whole and keeps the current one; STYLE CANCEL drops the pending part, or is refused with STATE where there is none. The
replaced part's set loses a naming, the new part's gains one, and an admission attempt is owed. An index outside the active
table, a disposition not listed and a set number above 127 are refused with RANGE, an undefined set with UNKNOWN (R13, R22 to
R25). That the attempt is owed after what is owed already is log entry 1. -/
def Obligations.StyleWritesMoveTheNamings : Prop :=
  (∀ (s : State) (h : Hdr) (i setNo : Nat) (d : Disposition) (p : StylePart), s.takes h .library →
     i < activeStyles s.line.m s.line.n →
     (d = .weld ∧ setNo < 128 ∧ (s.dispatchSet setNo).entries ≠ none ∧ p = .weld setNo ∨ d = .unknown ∧ p = .unknown ∨
       d = .pass ∧ p = .pass ∨ d = .reject ∧ p = .reject) →
     ∃ t, exec (.styleWrite h i (some d) setNo) s = .next t ∧
       State.answered h 0x38 .done (.style p (s.style i).pending) s t ∧ t.style i = ⟨p, (s.style i).pending⟩ ∧
       (∀ j, j ≠ i → t.style j = s.style j) ∧
       (∀ k, k < 128 → t.dispatchSet k = { s.dispatchSet k with
         inUse := (s.dispatchSet k).inUse + (if p = .weld k then 1 else 0) -
           (if (s.style i).current = .weld k then 1 else 0) }) ∧
       t = { s with ports := t.ports, styles := t.styles, sets := t.sets, due := s.due ++ [.admission] }) ∧
  (∀ (s : State) (h : Hdr) (i : Nat), s.takes h .library → i < activeStyles s.line.m s.line.n →
     (∀ (setNo : Nat) (d : Disposition) (w : Word) (p : StylePart),
       (d = .weld ∧ setNo < 128 ∧ (s.dispatchSet setNo).entries ≠ none ∧ p = .weld setNo ∨ d = .unknown ∧ p = .unknown ∨
         d = .pass ∧ p = .pass ∨ d = .reject ∧ p = .reject) →
       ∃ t, exec (.styleWriteEffectivePsn h i (some d) setNo w) s = .next t ∧
         State.answered h 0x38 .done (.style (s.style i).current (some ⟨p, w⟩)) s t ∧
         t.style i = ⟨(s.style i).current, some ⟨p, w⟩⟩ ∧ (∀ j, j ≠ i → t.style j = s.style j) ∧
         (∀ k, k < 128 → t.dispatchSet k = { s.dispatchSet k with
           inUse := (s.dispatchSet k).inUse + (if p = .weld k then 1 else 0) -
             (if (s.style i).pending.map (·.part) = some (.weld k) then 1 else 0) }) ∧
         t = { s with ports := t.ports, styles := t.styles, sets := t.sets, due := s.due ++ [.admission] }) ∧
     (∀ q, (s.style i).pending = some q →
       ∃ t, exec (.styleCancel h i) s = .next t ∧ State.answered h 0x39 .done (.styleCurrent (s.style i).current) s t ∧
         t.style i = ⟨(s.style i).current, none⟩ ∧ (∀ j, j ≠ i → t.style j = s.style j) ∧
         (∀ k, k < 128 → t.dispatchSet k = { s.dispatchSet k with
           inUse := (s.dispatchSet k).inUse - (if q.part = .weld k then 1 else 0) }) ∧
         t = { s with ports := t.ports, styles := t.styles, sets := t.sets, due := s.due ++ [.admission] }) ∧
     ((s.style i).pending = none →
       ∃ t, exec (.styleCancel h i) s = .next t ∧ State.answered h 0x39 .state .nothing s t ∧ t = { s with ports := t.ports })) ∧
  (∀ (s : State) (h : Hdr) (i setNo : Nat) (d : Option Disposition) (c : Code) (w : Word) (x : Instr), s.takes h .library →
     (activeStyles s.line.m s.line.n ≤ i ∧ c = .range ∨
       i < activeStyles s.line.m s.line.n ∧
         (d = none ∧ c = .range ∨ d = some .weld ∧ 128 ≤ setNo ∧ c = .range ∨
           d = some .weld ∧ setNo < 128 ∧ (s.dispatchSet setNo).entries = none ∧ c = .unknown)) →
     (x = .styleWrite h i d setNo ∨ x = .styleWriteEffectivePsn h i d setNo w) →
     ∃ t, exec x s = .next t ∧ State.answered h 0x38 c .nothing s t ∧ t = { s with ports := t.ports }) ∧
  ∀ (s : State) (h : Hdr) (i : Nat), s.takes h .library → activeStyles s.line.m s.line.n ≤ i →
    ∃ t, exec (.styleCancel h i) s = .next t ∧ State.answered h 0x39 .range .nothing s t ∧ t = { s with ports := t.ports }

/-- SET WRITE that passes its checks replaces the set's entry list, in the order given: each program named by an old entry
loses a reference and each named by a new one gains one. SET DELETE makes a defined set with in-use count 0 undefined, with
the same fall in references; a set number above 127 is refused with RANGE, an undefined set with UNKNOWN, and one in use with
IN-USE (R30, R31, R32). -/
def Obligations.SetWriteAndDeleteKeepReferences : Prop :=
  (∀ (s : State) (h : Hdr) (n : Nat) (es : List RawEntry) (old : List DispatchEntry), s.takes h .library → n < 128 →
     1 ≤ es.length → es.length ≤ 32 →
     (∀ (i : Nat) (e : RawEntry), es[i]? = some e →
       e.robot < 32 ∧ e.program < 512 ∧ -200 ≤ e.trim ∧ e.trim ≤ 200 ∧ (e.last = true ↔ i + 1 = es.length) ∧
         s.ready e.program ≠ none) →
     (s.dispatchSet n).inUse = 0 → old = (s.dispatchSet n).entries.getD [] → es.length ≤ s.poolFree + old.length →
     ∃ t, exec (.setWrite h n es) s = .next t ∧
       ∃ new, new = es.map (fun e => (⟨e.robot, e.program, e.value, e.mask, e.trim, e.enabled⟩ : DispatchEntry)) ∧
       State.answered h 0x36 .done (.free t.poolFree) s t ∧
       t.dispatchSet n = ⟨some new, 0⟩ ∧ (∀ k, k ≠ n → t.dispatchSet k = s.dispatchSet k) ∧
       (∀ m, m < 512 → t.prog m = { s.prog m with
         refs := (s.prog m).refs - (old.filter fun e => e.program == m).length +
           (new.filter fun e => e.program == m).length }) ∧
       t.library = { s.library with progs := t.library.progs } ∧
       t = { s with ports := t.ports, sets := t.sets, library := t.library }) ∧
  (∀ (s : State) (h : Hdr) (n : Nat), s.takes h .library →
     (∀ old, n < 128 → s.dispatchSet n = ⟨some old, 0⟩ →
       ∃ t, exec (.setDelete h n) s = .next t ∧ State.answered h 0x37 .done (.free t.poolFree) s t ∧
         t.dispatchSet n = ⟨none, 0⟩ ∧ (∀ k, k ≠ n → t.dispatchSet k = s.dispatchSet k) ∧
         (∀ m, m < 512 → t.prog m = { s.prog m with
           refs := (s.prog m).refs - (old.filter fun e => e.program == m).length }) ∧
         t.library = { s.library with progs := t.library.progs } ∧
         t = { s with ports := t.ports, sets := t.sets, library := t.library }) ∧
     (∀ c, (c = .range ∧ 128 ≤ n ∨ c = .unknown ∧ n < 128 ∧ (s.dispatchSet n).entries = none ∨
         c = .inUse ∧ n < 128 ∧ (s.dispatchSet n).entries ≠ none ∧ (s.dispatchSet n).inUse ≠ 0) →
       ∃ t, exec (.setDelete h n) s = .next t ∧ State.answered h 0x37 c .nothing s t ∧ t = { s with ports := t.ports }))

/-- Resolution gives none for a PASS or REJECT body, and for a WELD body the first entry of its bound set that is enabled,
names the robot and agrees with the Option Word wherever the mask has a bit (R34). -/
def Obligations.ResolutionTakesTheFirstMatch : Prop :=
  ∀ (s : State) (b : Body) (r : Nat),
    (b.binding = .pass ∨ b.binding = .reject → s.resolve b r = none) ∧
    ∀ k es, b.binding = .weld k → (s.dispatchSet k).entries = some es →
      (∀ e, s.resolve b r = some e ↔ ∃ i, i < es.length ∧ es[i]? = some e ∧ e.robot = r ∧ e.enabled = true ∧
        (∀ n, e.mask.getLsbD n = true → b.option.getLsbD n = e.value.getLsbD n) ∧
        ∀ j e', j < i → es[j]? = some e' →
          e'.robot ≠ r ∨ e'.enabled = false ∨
            ∃ n, e'.mask.getLsbD n = true ∧ b.option.getLsbD n ≠ e'.value.getLsbD n) ∧
      (s.resolve b r = none ↔ ∀ e ∈ es, e.robot ≠ r ∨ e.enabled = false ∨
        ∃ n, e.mask.getLsbD n = true ∧ b.option.getLsbD n ≠ e.value.getLsbD n)

/-! ### Line tracking (Chapter 3) -/

/-- An ARRIVE of the expected body's tag at an EMPTY station is taken, at a BOTH station where the window is OPEN-LINE, which it
closes: the body is AT the station with its per-robot welds empty, each station bypassed on the way records SKIPPED, marking
the body Incomplete where a robot there would have welded it, the station is ARRIVED with the body and a stopwatch running
from 0, ARRIVAL is raised, and recomputations (and, for an ADMITTED body, an admission attempt) are owed. A body still AT a
COMPLETE station departs from it first. At a station that is not held the work is opened at once: a component for each robot
of the station, and COMPLETE where none is OWED. At a BOTH station the window opens OPEN-FRAME with the tag where it is CLOSED
and the station EMPTY, and otherwise ARRIVE is refused with STATE (R48 to R52, R68 to R71). The record's last station and stay
and the stopwatch's milliseconds are fields of the model (log entry 8); the window tag in a reply is log entry 22; that a window
that closes leaves its confirm timer at 0 is log entry 28. -/
def Obligations.ArriveTakesTheExpectedBody : Prop :=
  (∀ (s : State) (h : Hdr) (i : Nat) (b : Body), s.takes h .zone → s.mode = .run → i < s.stationCount → i < 16 →
    s.inZone h.port i = true → (s.station i).state = .empty → s.expectedBody i = some b → s.bodyOf b.key = some b →
    (∀ (u : Nat) (x : Presence) (mark : Bool), (s.station i).hold = true → u ≤ i →
      (b.state = .onLine (.before u) ∨ b.state = .admitted ∧ u = 0) →
      ((s.station i).source ≠ .both ∧ x = s.presence i ∨
        (s.station i).source = .both ∧ (s.presence i).window = .openLine ∧
          x = { s.presence i with window := .closed, confirm := 0 }) →
      (mark = true ↔ ∃ j, u ≤ j ∧ j < i ∧ b.result j ≠ .welded ∧ b.result j ≠ .passed ∧
        ∃ r ∈ s.robotsAt j, s.resolve b r ≠ none) →
      ∃ t, exec (.arrive h i b.tag) s = .next t ∧
        State.answered h 0x20 .done (.report ⟨.arrived, some ⟨b.tag, b.psn⟩, s.present i, x.window⟩) s t ∧
        (∃ b', t.bodyOf b.key = some b' ∧
          b' = { b with
            state := .onLine (.atStation i), results := b'.results, welds := .replicate 32 none, lastStation := some i
            stay := if b.lastStation = some i then b.stay else b.stay + 1
            incomplete := b.incomplete || mark } ∧
          ∀ j, j < 16 → b'.result j =
            if u ≤ j ∧ j < i ∧ b.result j ≠ .welded ∧ b.result j ≠ .passed then .skipped else b.result j) ∧
        (∀ k, k ≠ b.key → t.bodyOf k = s.bodyOf k) ∧
        t.station i = { s.station i with
          state := .arrived, body := some b.key, work := none, cause := none, overrunRaised := false, watch := 0,
          watchMs := 0, running := true } ∧
        (∀ j, j ≠ i → t.station j = s.station j) ∧ t.presence i = x ∧ (∀ j, j ≠ i → t.presence j = s.presence j) ∧
        t.attention =
          ((if mark then s.raise .bodyIncomplete b.tag.toNat else s).raise .arrival i).attention ∧
        (∀ d, d ∈ t.due ↔ d ∈ s.due ∨ (∃ r ∈ s.presentRobots, d = .recompute r) ∨
          d = .admission ∧ b.state = .admitted) ∧
        t = { s with ports := t.ports, bodies := t.bodies, stations := t.stations, lines := t.lines,
                     attention := t.attention, due := t.due }) ∧
    (∀ u, (s.station i).source ≠ .both → (s.station i).hold = true → u + 1 = i → b.state = .onLine (.atStation u) →
      (s.station u).state = .complete → (s.station u).body = some b.key →
      ∃ t, exec (.arrive h i b.tag) s = .next t ∧
        State.answered h 0x20 .done
          (.report ⟨.arrived, some ⟨b.tag, b.psn⟩, s.present i, (s.presence i).window⟩) s t ∧
        t.bodyOf b.key = some { b with
          state := .onLine (.atStation i), welds := .replicate 32 none, lastStation := some i
          stay := if b.lastStation = some i then b.stay else b.stay + 1 } ∧
        (∀ k, k ≠ b.key → t.bodyOf k = s.bodyOf k) ∧
        t.station i = { s.station i with
          state := .arrived, body := some b.key, work := none, cause := none, overrunRaised := false, watch := 0,
          watchMs := 0, running := true } ∧
        t.station u = { s.station u with
          state := .empty, body := none, work := none, cause := none, running := false, abortWait := [] } ∧
        (∀ j, j ≠ i → j ≠ u → t.station j = s.station j) ∧ t.attention = (s.raise .arrival i).attention ∧
        (∀ d, d ∈ t.due ↔ d ∈ s.due ∨ ∃ r ∈ s.presentRobots, d = .recompute r) ∧
        t = { s with ports := t.ports, bodies := t.bodies, stations := t.stations, attention := t.attention,
                     due := t.due }) ∧
    ∀ (items : List WorkItem) (result : Result), (s.station i).source ≠ .both → (s.station i).hold = false →
      (b.state = .onLine (.before i) ∨ b.state = .admitted ∧ i = 0) →
      items = (s.robotsAt i).map (fun r => ⟨r,
        if b.result i = .welded ∨ b.result i = .passed ∨ s.resolve b r = none then .none
        else if (s.robot r).enabled then .owed else .skipped, false⟩) →
      result = (if b.result i = .welded ∨ b.result i = .passed then b.result i
        else if ∃ w ∈ items, w.comp = .skipped then .skipped else .passed) →
      ∃ t, exec (.arrive h i b.tag) s = .next t ∧
        State.answered h 0x20 .done
          (.report ⟨if ∃ w ∈ items, w.comp = .owed then .arrived else .complete, some ⟨b.tag, b.psn⟩, s.present i,
            (s.presence i).window⟩) s t ∧
        t.bodyOf b.key = some { b with
          state := .onLine (.atStation i), welds := .replicate 32 none, lastStation := some i
          stay := if b.lastStation = some i then b.stay else b.stay + 1
          results := if ∃ w ∈ items, w.comp = .owed then b.results else tset b.results i result
          incomplete := b.incomplete || decide (∃ w ∈ items, w.comp = .skipped) } ∧
        (∀ k, k ≠ b.key → t.bodyOf k = s.bodyOf k) ∧
        t.station i = { s.station i with
          state := if ∃ w ∈ items, w.comp = .owed then .arrived else .complete
          body := some b.key, work := some items, cause := none, overrunRaised := false, watch := 0, watchMs := 0
          running := decide (∃ w ∈ items, w.comp = .owed)
          lastCycle := if ∃ w ∈ items, w.comp = .owed then (s.station i).lastCycle else 0 } ∧
        (∀ j, j ≠ i → t.station j = s.station j) ∧
        (∃ u, u = (if ∃ w ∈ items, w.comp = .skipped then (s.raise .arrival i).raise .bodyIncomplete b.tag.toNat
            else s.raise .arrival i) ∧
          t.attention = (if ∃ w ∈ items, w.comp = .owed then u else u.raise .stationComplete i).attention) ∧
        (∀ d, d ∈ t.due ↔ d ∈ s.due ∨ (∃ r ∈ s.presentRobots, d = .recompute r) ∨
          d = .admission ∧ b.state = .admitted ∨ ∃ w ∈ items, w.comp = .owed ∧ d = .selection w.robot) ∧
        t = { s with ports := t.ports, bodies := t.bodies, stations := t.stations, attention := t.attention,
                     due := t.due }) ∧
  ∀ (s : State) (h : Hdr) (i : Nat) (tag : Word), s.takes h .zone → s.mode = .run → i < s.stationCount → i < 16 →
    s.inZone h.port i = true → (s.station i).source = .both →
    ((s.presence i).window = .closed → (s.station i).state = .empty →
      ∃ t, exec (.arrive h i tag) s = .next t ∧
        State.answered h 0x20 .done (.report ⟨.empty, none, s.present i, .openFrame tag⟩) s t ∧
        t.presence i = { s.presence i with window := .openFrame tag, confirm := 0 } ∧
        (∀ j, j ≠ i → t.presence j = s.presence j) ∧ t = { s with ports := t.ports, lines := t.lines }) ∧
    ((s.presence i).window = .closed ∧ (s.station i).state ≠ .empty ∨
        (∃ tag', (s.presence i).window = .openFrame tag') →
      ∃ t, exec (.arrive h i tag) s = .next t ∧
        State.answered h 0x20 .state
          (.report ⟨(s.station i).state, none, s.present i, (s.presence i).window⟩) s t ∧
        t = { s with ports := t.ports })

/-- An ARRIVE that fails check 2, 3 or 4 of R48 at an EMPTY station moves nothing, sends the station to FAULT with the check's
cause and raises STATION FAULT; one at a station that is not EMPTY is refused with STATE and changes nothing. The expected
body at a station is the first record of the Line List that is not yet past it (R39, R41, R45, R48, R69). The window tag in a
reply is log entry 22. -/
def Obligations.ArriveFaultsOrIsRefused : Prop :=
  (∀ (s : State) (i : Nat) (b : Body),
    s.expectedBody i = some b ↔ ∃ front k back, s.lineList = front ++ k :: back ∧ s.bodyOf k = some b ∧
      (b.state = .admitted ∨ ∃ t, b.state = .onLine (.atStation t) ∧ t < i ∨ b.state = .onLine (.before t) ∧ t ≤ i) ∧
      ∀ j ∈ front, ∀ c, s.bodyOf j = some c → c.state ≠ .admitted ∧ ∀ t,
        (c.state = .onLine (.atStation t) → i ≤ t) ∧ (c.state = .onLine (.before t) → i < t)) ∧
  ∀ (s : State) (h : Hdr) (i : Nat) (tag : Word), s.takes h .zone → s.mode = .run → i < s.stationCount → i < 16 →
    s.inZone h.port i = true → (s.station i).source ≠ .both →
    (∀ c, (s.station i).state = .empty →
      (c = .unknownBody ∧ (∀ b ∈ s.bodies, b.tag ≠ tag) ∨
        c = .noBodyExpected ∧ (∃ b ∈ s.bodies, b.tag = tag) ∧ s.expectedBody i = none ∨
        c = .sequenceMismatch ∧ (∃ b ∈ s.bodies, b.tag = tag) ∧ ∃ b, s.expectedBody i = some b ∧ b.tag ≠ tag) →
      ∃ t, exec (.arrive h i tag) s = .next t ∧
        State.answered h 0x20 .done (.report ⟨.fault, none, s.present i, (s.presence i).window⟩) s t ∧
        t.station i = { s.station i with state := .fault, cause := some c } ∧
        (∀ j, j ≠ i → t.station j = s.station j) ∧ t.attention = (s.raise .stationFault i).attention ∧
        t = { s with ports := t.ports, stations := t.stations, attention := t.attention }) ∧
    ((s.station i).state ≠ .empty →
      ∃ t, exec (.arrive h i tag) s = .next t ∧
        State.answered h 0x20 .state
          (.report ⟨(s.station i).state, none, s.present i, (s.presence i).window⟩) s t ∧
        t = { s with ports := t.ports })

/-- A DEPART from a COMPLETE station moves its body to BEFORE the next station, or out of the line from the last one: the
station is EMPTY without a body, an exit frees the record, raises BODY EXIT with its PSN (and BODY INCOMPLETE with its tag
when it is Incomplete) and owes an admission attempt (R39, R54, R57). -/
def Obligations.DepartFromCompleteMovesTheBody : Prop :=
  ∀ (s : State) (h : Hdr) (i : Nat) (b : Body), s.takes h .zone → s.mode = .run → i < s.stationCount → i < 16 →
    s.inZone h.port i = true → (s.station i).source ≠ .both → (s.station i).state = .complete →
    (s.station i).body = some b.key → s.bodyOf b.key = some b →
    ∃ t, exec (.depart h i) s = .next t ∧
      State.answered h 0x21 .done (.report ⟨.empty, some ⟨b.tag, b.psn⟩, s.present i, (s.presence i).window⟩) s t ∧
      t.station i = { s.station i with
        state := .empty, body := none, work := none, cause := none, running := false, abortWait := [] } ∧
      (∀ j, j ≠ i → t.station j = s.station j) ∧
      (∀ d, d ∈ t.due ↔ d ∈ s.due ∨ (∃ r ∈ s.presentRobots, d = .recompute r) ∨
        d = .admission ∧ i + 1 = s.stationCount) ∧
      (i + 1 < s.stationCount →
        t.bodyOf b.key = some { b with state := .onLine (.before (i + 1)) } ∧
        (∀ k, k ≠ b.key → t.bodyOf k = s.bodyOf k) ∧
        t = { s with ports := t.ports, bodies := t.bodies, stations := t.stations, due := t.due }) ∧
      (i + 1 = s.stationCount →
        t.bodies = s.bodies.filter (fun c => c.key != b.key) ∧ t.lineList = s.lineList.filter (fun k => k != b.key) ∧
        (∀ k, t.dispatchSet k =
          { s.dispatchSet k with inUse := (s.dispatchSet k).inUse - if b.binding = .weld k then 1 else 0 }) ∧
        t.attention = (if b.incomplete then (s.raise .bodyExit b.psn.toNat).raise .bodyIncomplete b.tag.toNat
          else s.raise .bodyExit b.psn.toNat).attention ∧
        t = { s with ports := t.ports, bodies := t.bodies, lineList := t.lineList, sets := t.sets, stations := t.stations,
                     attention := t.attention, due := t.due })

/-- A DEPART from a WELDING station is an unwelded departure: the result there is INCOMPLETE, the body is Incomplete and BODY
INCOMPLETE raised, the station is CLEARING for the robots working on the body, and each of them is ABORTING with an ABORT
pending and its BUSY wait and unsent SELECT gone (R54, R55, R155). That the ABORT takes the place of one still pending is log
entry 23. -/
def Obligations.UnweldedDepartureAbortsItsRobots : Prop :=
  ∀ (s : State) (h : Hdr) (i : Nat) (b : Body), s.takes h .zone → s.mode = .run → i + 1 < s.stationCount → i < 16 →
    s.inZone h.port i = true → (s.station i).source ≠ .both → (s.station i).state = .welding →
    (s.station i).body = some b.key → s.bodyOf b.key = some b →
    ∃ t, exec (.depart h i) s = .next t ∧
      State.answered h 0x21 .done
        (.report ⟨if s.abortSet i b.key = [] then .empty else .clearing, some ⟨b.tag, b.psn⟩, s.present i,
          (s.presence i).window⟩) s t ∧
      t.bodyOf b.key =
        some { b with state := .onLine (.before (i + 1)), results := tset b.results i .incomplete, incomplete := true } ∧
      (∀ k, k ≠ b.key → t.bodyOf k = s.bodyOf k) ∧
      t.station i = { s.station i with
        state := if s.abortSet i b.key = [] then .empty else .clearing
        body := none, work := none, cause := none, running := false, abortWait := s.abortSet i b.key } ∧
      (∀ j, j ≠ i → t.station j = s.station j) ∧ t.attention = (s.raise .bodyIncomplete b.tag.toNat).attention ∧
      (∀ r, r ∉ s.abortSet i b.key → t.robot r = s.robot r ∧ t.pendOf r = s.pendOf r) ∧
      (∀ r sel, r < 32 → s.stationOf r = some i → sel.key = b.key →
        ((s.robot r).motion = .selecting sel ∨ (s.robot r).motion = .selected sel ∨ (s.robot r).motion = .welding sel) →
        t.robot r = { s.robot r with motion := .aborting sel, busy := none, pollTimer := 0 } ∧
        t.pendOf r = { s.pendOf r with
          select := none
          abort := some ⟨.abort, .abort sel.slot (s.robot r).dispatch false, s.line.replyTimeout, s.line.retryLimit⟩ }) ∧
      (∀ d, d ∈ t.due ↔ d ∈ s.due ∨ ∃ r ∈ s.presentRobots, d = .recompute r) ∧
      t = { s with ports := t.ports, bodies := t.bodies, stations := t.stations, attention := t.attention, due := t.due,
                   robots := t.robots, pend := t.pend }

/-- PULL of a record takes it off the Line List as PULLED with its reason and names its former state. At a COMPLETE station the
station is EMPTY and the result kept; at an ARRIVED one that owes nothing the result is PASSED or SKIPPED, or kept where it was
decided; at any other with the body the result is INCOMPLETE, BODY INCOMPLETE raised, and its robots are aborted, the station
CLEARING for them. A station outside the port's zone is refused with ROLE, a tag no record carries with UNKNOWN, and one whose
records are all PULLED with STATE. SCRAP frees the PULLED record: it leaves the Body Table, its bound set loses the naming, and
the reply carries its PSN and its per-station results; a tag whose records are all ADMITTED or ON-LINE is refused with STATE
(R33, R38, R46, R54, R55, R58, R60, R155). The Incomplete mark of a body pulled with a SKIPPED component is log entry 17; that
an ABORT placed takes the place of one pending is log entry 23; the order of the events owed is log entry 1. -/
def Obligations.PullAndScrapTakeTheBodyAway : Prop :=
  (∀ (s : State) (h : Hdr) (tag : Word) (reason : Byte), s.takes h .zone → s.mode = .run →
     (∀ b, (s.tagged tag).find? (fun b => !State.isPulled b) = some b → s.bodyOf b.key = some b →
       (∀ i, b.state ≠ .onLine (.atStation i)) →
       ∃ t, exec (.pull h tag reason) s = .next t ∧ State.answered h 0x22 .done (.former b.state) s t ∧
         t.bodyOf b.key = some { b with state := .pulled reason } ∧ (∀ k, k ≠ b.key → t.bodyOf k = s.bodyOf k) ∧
         t.lineList = s.lineList.filter (fun k => k != b.key) ∧
         (∀ d, d ∈ t.due ↔ d ∈ s.due ∨ (∃ r ∈ s.presentRobots, d = .recompute r) ∨
           d = .admission ∧ b.state = .admitted) ∧
         t = { s with ports := t.ports, bodies := t.bodies, lineList := t.lineList, due := t.due }) ∧
     (∀ (b : Body) (i : Nat), (s.tagged tag).find? (fun b => !State.isPulled b) = some b → s.bodyOf b.key = some b →
       b.state = .onLine (.atStation i) → i < 16 →
       (s.inZone h.port i = false →
         ∃ t, exec (.pull h tag reason) s = .next t ∧ State.answered h 0x22 .role .nothing s t ∧
           t = { s with ports := t.ports }) ∧
       (s.inZone h.port i = true →
         (∀ (result : Result) (skipped : Bool),
           ((s.station i).state = .complete ∧ skipped = false ∧ result = b.result i ∨
             (s.station i).state = .arrived ∧ ∃ items, (∀ w ∈ items, w.comp ≠ .owed) ∧
               ((s.station i).work = some items ∨ (s.station i).work = none ∧ items = (s.robotsAt i).map (fun r => ⟨r,
                 if b.result i = .welded ∨ b.result i = .passed ∨ s.resolve b r = none then .none
                 else if (s.robot r).enabled then .owed else .skipped, false⟩)) ∧
               (skipped = true ↔ ∃ w ∈ items, w.comp = .skipped) ∧
               result = if b.result i = .welded ∨ b.result i = .passed then b.result i
                 else if skipped then .skipped else .passed) →
           ∃ t, exec (.pull h tag reason) s = .next t ∧ State.answered h 0x22 .done (.former b.state) s t ∧
             t.bodyOf b.key = some { b with
               state := .pulled reason, results := tset b.results i result, incomplete := b.incomplete || skipped } ∧
             (∀ k, k ≠ b.key → t.bodyOf k = s.bodyOf k) ∧ t.lineList = s.lineList.filter (fun k => k != b.key) ∧
             t.station i = { s.station i with
               state := .empty, body := none, work := none, cause := none, running := false, abortWait := [] } ∧
             (∀ j, j ≠ i → t.station j = s.station j) ∧
             t.attention = (if skipped then s.raise .bodyIncomplete b.tag.toNat else s).attention ∧
             (∀ d, d ∈ t.due ↔ d ∈ s.due ∨ ∃ r ∈ s.presentRobots, d = .recompute r) ∧
             t = { s with ports := t.ports, bodies := t.bodies, lineList := t.lineList, stations := t.stations,
                          attention := t.attention, due := t.due }) ∧
         ((s.station i).state = .welding ∨ (s.station i).state = .fault ∨
             (s.station i).state = .arrived ∧ ((∃ items, (s.station i).work = some items ∧ ∃ w ∈ items, w.comp = .owed) ∨
               (s.station i).work = none ∧ b.result i ≠ .welded ∧ b.result i ≠ .passed ∧
                 ∃ r ∈ s.robotsAt i, s.resolve b r ≠ none ∧ (s.robot r).enabled = true) →
           ∃ t, exec (.pull h tag reason) s = .next t ∧ State.answered h 0x22 .done (.former b.state) s t ∧
             t.bodyOf b.key = some { b with
               state := .pulled reason, results := tset b.results i .incomplete, incomplete := true } ∧
             (∀ k, k ≠ b.key → t.bodyOf k = s.bodyOf k) ∧ t.lineList = s.lineList.filter (fun k => k != b.key) ∧
             t.station i = { s.station i with
               state := if s.abortSet i b.key = [] then .empty else .clearing
               body := none, work := none, cause := none, running := false, abortWait := s.abortSet i b.key } ∧
             (∀ j, j ≠ i → t.station j = s.station j) ∧ t.attention = (s.raise .bodyIncomplete b.tag.toNat).attention ∧
             (∀ r, r ∉ s.abortSet i b.key → t.robot r = s.robot r ∧ t.pendOf r = s.pendOf r) ∧
             (∀ r sel, r < 32 → s.stationOf r = some i → sel.key = b.key →
               ((s.robot r).motion = .selecting sel ∨ (s.robot r).motion = .selected sel ∨
                 (s.robot r).motion = .welding sel) →
               t.robot r = { s.robot r with motion := .aborting sel, busy := none, pollTimer := 0 } ∧
               t.pendOf r = { s.pendOf r with
                 select := none
                 abort := some ⟨.abort, .abort sel.slot (s.robot r).dispatch false, s.line.replyTimeout,
                   s.line.retryLimit⟩ }) ∧
             (∀ d, d ∈ t.due ↔ d ∈ s.due ∨ ∃ r ∈ s.presentRobots, d = .recompute r) ∧
             t = { s with ports := t.ports, bodies := t.bodies, lineList := t.lineList, stations := t.stations,
                          attention := t.attention, due := t.due, robots := t.robots, pend := t.pend }))) ∧
     (∀ c, (c = .unknown ∧ (∀ b ∈ s.bodies, b.tag ≠ tag) ∨
         c = .state ∧ (∃ b ∈ s.bodies, b.tag = tag) ∧ ∀ b ∈ s.bodies, b.tag = tag → ∃ x, b.state = .pulled x) →
       ∃ t, exec (.pull h tag reason) s = .next t ∧ State.answered h 0x22 c .nothing s t ∧ t = { s with ports := t.ports })) ∧
  (∀ (s : State) (h : Hdr) (tag : Word) (b : Body), s.takes h .zone → s.mode = .run →
     (s.tagged tag).find? State.isPulled = some b → s.bodyOf b.key = some b →
     ∃ t, exec (.scrap h tag) s = .next t ∧ State.answered h 0x24 .done (.scrapped b.psn b.results) s t ∧
       t.bodies = s.bodies.filter (fun c => c.key != b.key) ∧ t.lineList = s.lineList.filter (fun k => k != b.key) ∧
       (∀ k, t.dispatchSet k =
         { s.dispatchSet k with inUse := (s.dispatchSet k).inUse - if b.binding = .weld k then 1 else 0 }) ∧
       t.due = s.due ++ s.presentRobots.map .recompute ++ [.admission] ∧
       t = { s with ports := t.ports, bodies := t.bodies, lineList := t.lineList, sets := t.sets, due := t.due }) ∧
  ∀ (s : State) (h : Hdr) (tag : Word), s.takes h .zone → s.mode = .run → (∃ b ∈ s.bodies, b.tag = tag) →
    (∀ b ∈ s.bodies, b.tag = tag → b.state = .admitted ∨ ∃ pos, b.state = .onLine pos) →
    ∃ t, exec (.scrap h tag) s = .next t ∧ State.answered h 0x24 .state .nothing s t ∧ t = { s with ports := t.ports }

/-- REINSERT puts the PULLED record back at BEFORE(i), with one more reinsertion and every result at station i and beyond that
is not WELDED or PASSED reopened; in the Line List it stands immediately ahead of the first record not yet past i, or, at
station 0, immediately behind the last ON-LINE record. A station outside the port's zone is refused with ROLE, and a tag whose
records are all ADMITTED or ON-LINE with STATE (R59, R128). The order of the recomputations owed is the model's, log entry 1. -/
def Obligations.ReinsertPlacesTheBody : Prop :=
  (∀ (s : State) (h : Hdr) (tag : Word) (i : Nat) (b : Body), s.takes h .zone → s.mode = .run → i < s.stationCount →
     s.stationCount ≤ 16 → s.inZone h.port i = true → (s.tagged tag).find? State.isPulled = some b →
     s.bodyOf b.key = some b →
     ∃ t, exec (.reinsert h tag i) s = .next t ∧
       State.answered h 0x23 .done (.behind ((following b.key t.lineList).bind t.nameOf)) s t ∧
       ∃ b', t.bodyOf b.key = some b' ∧
       b' = { b with state := .onLine (.before i), results := b'.results, reinserts := min 255 (b.reinserts + 1) } ∧
       (∀ j, j < 16 → b'.result j =
         if i ≤ j ∧ j < s.stationCount ∧ b.result j ≠ .welded ∧ b.result j ≠ .passed then .pending else b.result j) ∧
       (∀ k, k ≠ b.key → t.bodyOf k = s.bodyOf k) ∧
       (∃ front back, s.lineList = front ++ back ∧ t.lineList = front ++ b.key :: back ∧
         if i = 0 then
           (∀ j ∈ back, ∀ c pos, s.bodyOf j = some c → c.state ≠ .onLine pos) ∧
             (front = [] ∨ ∃ j c pos, front.getLast? = some j ∧ s.bodyOf j = some c ∧ c.state = .onLine pos)
         else
           (∀ j ∈ front, ∀ c, s.bodyOf j = some c → c.notYetPast i = false) ∧
             (back = [] ∨ ∃ j c, back.head? = some j ∧ s.bodyOf j = some c ∧ c.notYetPast i = true)) ∧
       t = { s with ports := t.ports, bodies := t.bodies, lineList := t.lineList,
                    due := s.due ++ s.presentRobots.map .recompute }) ∧
  ∀ (s : State) (h : Hdr) (tag : Word) (i : Nat) (c : Code), s.takes h .zone → s.mode = .run → i < s.stationCount →
    (c = .role ∧ s.inZone h.port i = false ∨
      c = .state ∧ s.inZone h.port i = true ∧ (∃ b ∈ s.bodies, b.tag = tag) ∧
        ∀ b ∈ s.bodies, b.tag = tag → b.state = .admitted ∨ ∃ pos, b.state = .onLine pos) →
    ∃ t, exec (.reinsert h tag i) s = .next t ∧ State.answered h 0x23 c .nothing s t ∧ t = { s with ports := t.ports }

/-- HOLD sets the station's hold flag and nothing else. RELEASE clears it; at a held ARRIVED station whose work was not opened
it opens the work: a robot that resolves to a program for the body owes it where it is enabled, every other component is NONE,
and each robot that owes is owed a selection attempt (R52, R61, R145). CLEAR STATION at a FAULT station without a body makes
it EMPTY; with a body that no robot works for it makes it COMPLETE with the result FAULTED, owed components FAULTED and the
body Incomplete; at any other station it is refused with STATE (R62). -/
def Obligations.HoldReleaseAndClearActOnTheStation : Prop :=
  (∀ (s : State) (h : Hdr) (i : Nat), s.takes h .zone → s.mode = .run → i < s.stationCount → i < 16 →
     s.inZone h.port i = true →
     (∃ t, exec (.hold h i) s = .next t ∧ State.answered h 0x25 .done (.held (s.station i).state true) s t ∧
       t.station i = { s.station i with hold := true } ∧ (∀ j, j ≠ i → t.station j = s.station j) ∧
       t = { s with ports := t.ports, stations := t.stations }) ∧
     ((s.station i).hold = false ∨ (s.station i).state ≠ .arrived ∨ (s.station i).work ≠ none →
       ∃ t, exec (.release h i) s = .next t ∧ State.answered h 0x26 .done (.held (s.station i).state false) s t ∧
         t.station i = { s.station i with hold := false } ∧ (∀ j, j ≠ i → t.station j = s.station j) ∧
         t = { s with ports := t.ports, stations := t.stations }) ∧
     ∀ b, (s.station i).hold = true → (s.station i).state = .arrived → (s.station i).work = none →
       (s.station i).body = some b.key → s.bodyOf b.key = some b → b.result i ≠ .welded → b.result i ≠ .passed →
       (∀ r ∈ s.robotsAt i, s.resolve b r ≠ none → (s.robot r).enabled = true) →
       (∃ r ∈ s.robotsAt i, s.resolve b r ≠ none) →
       ∃ t, exec (.release h i) s = .next t ∧ State.answered h 0x26 .done (.held .arrived false) s t ∧
         t.station i = { s.station i with
           hold := false
           work := some ((s.robotsAt i).map fun r => ⟨r, if s.resolve b r = none then .none else .owed, false⟩) } ∧
         (∀ j, j ≠ i → t.station j = s.station j) ∧
         (∀ d, d ∈ t.due ↔ d ∈ s.due ∨ (∃ r ∈ s.presentRobots, d = .recompute r) ∨
           ∃ r ∈ s.robotsAt i, s.resolve b r ≠ none ∧ d = .selection r) ∧
         t = { s with ports := t.ports, stations := t.stations, due := t.due }) ∧
  (∀ (s : State) (h : Hdr) (i : Nat), s.takes h .zone → s.mode = .run → i < s.stationCount → i < 16 →
     s.inZone h.port i = true →
     ((s.station i).state ≠ .fault →
       ∃ t, exec (.clearStation h i) s = .next t ∧ State.answered h 0x27 .state .nothing s t ∧
         t = { s with ports := t.ports }) ∧
     ((s.station i).state = .fault → (s.station i).body = none →
       ∃ t, exec (.clearStation h i) s = .next t ∧ State.answered h 0x27 .done (.stationState .empty) s t ∧
         t.station i = { s.station i with state := .empty, cause := none } ∧
         (∀ j, j ≠ i → t.station j = s.station j) ∧ t = { s with ports := t.ports, stations := t.stations }) ∧
     ∀ b, (s.station i).state = .fault → (s.station i).body = some b.key → s.bodyOf b.key = some b →
       s.abortSet i b.key = [] →
       ∃ t, exec (.clearStation h i) s = .next t ∧ State.answered h 0x27 .done (.stationState .complete) s t ∧
         t.bodyOf b.key = some { b with results := tset b.results i .faulted, incomplete := true } ∧
         (∀ k, k ≠ b.key → t.bodyOf k = s.bodyOf k) ∧
         t.station i = { s.station i with
           state := .complete, cause := none, running := false, lastCycle := (s.station i).watch
           work := (s.station i).work.map fun items =>
             items.map fun w => if w.comp = .owed then { w with comp := .faulted } else w } ∧
         (∀ j, j ≠ i → t.station j = s.station j) ∧
         t.attention = ((s.raise .bodyIncomplete b.tag.toNat).raise .stationComplete i).attention ∧
         t = { s with ports := t.ports, bodies := t.bodies, stations := t.stations, attention := t.attention })

/-! ### Presence inputs (Chapter 4) -/

/-- An accepted change sets the accepted level and the filter timer to 0; SET SENSE rewrites the sense and keeps them, and makes
the same report where the presence so judged has changed (R74). In RUN a change to PRESENT at a LINE station is an arrival
without tag, and at a BOTH station with its window OPEN-FRAME it closes the window and is an arrival with the stored tag: the
expected body is taken, or the station faults, or, where it is not EMPTY, nothing arrives. A change to ABSENT is a departure,
which at a BOTH station an echo OWED-LINE discards and a moved body answers with the echo OWED-FRAME. At a BOTH station a
change to PRESENT opens a CLOSED window OPEN-LINE where the station is EMPTY, and one to ABSENT withdraws an OPEN-LINE window.
In SETUP and at a FRAME station a report changes nothing more (R48, R51, R54, R66 to R68, R70, R71, R73). The reply to SET
SENSE names the body moved, if any; a station at or above S is refused with RANGE, then one outside the zone with ROLE, then a
sense that is neither with RANGE. ACCEPTED CHANGE brings the line's level with it (log entry 3), the record's last station and
stay are the model's (log entry 8); that the reply to SET SENSE gives an OPEN-FRAME window with its stored tag (log entry 22),
and that a window that closes and an echo that ends leave their timers at 0 (log entry 28), are the model's choices. -/
def Obligations.PresenceChangesAreReportedBySource : Prop :=
  (∀ (s : State) (i : Nat) (cmd : Instr) (x : Presence), s.mode = .run → i < 16 → i < s.stationCount →
     (s.reports i true x cmd →
       (∀ (tag : Option Word) (y : Presence),
         ((s.station i).source = .line ∧ tag = none ∧ y = x ∨
           (s.station i).source = .both ∧ (∃ w, (s.presence i).window = .openFrame w ∧ tag = some w) ∧
             y = { x with window := .closed, confirm := 0 }) →
         (∀ b, (s.station i).state = .empty → (s.station i).hold = true → s.expectedBody i = some b →
           s.bodyOf b.key = some b → (∀ w, tag = some w → b.tag = w) →
           (b.state = .onLine (.before i) ∨ b.state = .admitted ∧ i = 0) →
           ∃ t, exec cmd s = .next t ∧ State.reported i (some ⟨b.tag, b.psn⟩) s t cmd ∧
             t.bodyOf b.key = some { b with
               state := .onLine (.atStation i), welds := .replicate 32 none, lastStation := some i
               stay := if b.lastStation = some i then b.stay else b.stay + 1 } ∧
             (∀ k, k ≠ b.key → t.bodyOf k = s.bodyOf k) ∧
             t.station i = { s.station i with
               state := .arrived, body := some b.key, work := none, cause := none, overrunRaised := false, watch := 0,
               watchMs := 0, running := true } ∧
             (∀ j, j ≠ i → t.station j = s.station j) ∧ t.presence i = y ∧
             (∀ j, j ≠ i → t.presence j = s.presence j) ∧ t.attention = (s.raise .arrival i).attention ∧
             (∀ d, d ∈ t.due ↔ d ∈ s.due ∨ (∃ r ∈ s.presentRobots, d = .recompute r) ∨
               d = .admission ∧ b.state = .admitted) ∧
             t = { s with bodies := t.bodies, stations := t.stations, lines := t.lines, attention := t.attention,
                          due := t.due, ports := t.ports, layout := t.layout }) ∧
         (∀ c, (s.station i).state = .empty →
           (c = .unknownBody ∧ (∃ w, tag = some w ∧ ∀ b ∈ s.bodies, b.tag ≠ w) ∨
             c = .noBodyExpected ∧ (∀ w, tag = some w → ∃ b ∈ s.bodies, b.tag = w) ∧ s.expectedBody i = none ∨
             c = .sequenceMismatch ∧ ∃ w b, tag = some w ∧ (∃ e ∈ s.bodies, e.tag = w) ∧ s.expectedBody i = some b ∧
               b.tag ≠ w) →
           ∃ t, exec cmd s = .next t ∧ State.reported i none s t cmd ∧
             t.station i = { s.station i with state := .fault, cause := some c } ∧
             (∀ j, j ≠ i → t.station j = s.station j) ∧ t.presence i = y ∧
             (∀ j, j ≠ i → t.presence j = s.presence j) ∧
             t = { s with stations := t.stations, lines := t.lines, attention := (s.raise .stationFault i).attention,
                          ports := t.ports, layout := t.layout }) ∧
         ((s.station i).state ≠ .empty →
           ∃ t, exec cmd s = .next t ∧ State.reported i none s t cmd ∧ t.presence i = y ∧
             (∀ j, j ≠ i → t.presence j = s.presence j) ∧
             t = { s with lines := t.lines, ports := t.ports, layout := t.layout })) ∧
       ((s.station i).source = .both → (s.presence i).window = .closed → (s.station i).state = .empty →
         ∃ t, exec cmd s = .next t ∧ State.reported i none s t cmd ∧
           t.presence i = { x with window := .openLine, confirm := 0 } ∧ (∀ j, j ≠ i → t.presence j = s.presence j) ∧
           t = { s with lines := t.lines, ports := t.ports, layout := t.layout })) ∧
     (s.reports i false x cmd →
       (∀ (b : Body) (y : Presence), (s.station i).state = .complete → (s.station i).body = some b.key →
         s.bodyOf b.key = some b → i + 1 < s.stationCount →
         ((s.station i).source = .line ∧ y = x ∨
           (s.station i).source = .both ∧ (s.presence i).window ≠ .openLine ∧ (s.presence i).echo ≠ .owedLine ∧
             y = { x with echo := .owedFrame, echoTimer := 0 }) →
         ∃ t, exec cmd s = .next t ∧ State.reported i (some ⟨b.tag, b.psn⟩) s t cmd ∧
           t.bodyOf b.key = some { b with state := .onLine (.before (i + 1)) } ∧
           (∀ k, k ≠ b.key → t.bodyOf k = s.bodyOf k) ∧
           t.station i = { s.station i with
             state := .empty, body := none, work := none, cause := none, running := false, abortWait := [] } ∧
           (∀ j, j ≠ i → t.station j = s.station j) ∧ t.presence i = y ∧
           (∀ j, j ≠ i → t.presence j = s.presence j) ∧
           (∀ d, d ∈ t.due ↔ d ∈ s.due ∨ ∃ r ∈ s.presentRobots, d = .recompute r) ∧
           t = { s with bodies := t.bodies, stations := t.stations, lines := t.lines, due := t.due, ports := t.ports,
                        layout := t.layout }) ∧
       ((s.station i).source = .both →
         ∀ y, ((s.presence i).window = .openLine ∧ y = { x with window := .closed, confirm := 0 } ∨
             (s.presence i).window ≠ .openLine ∧ (s.presence i).echo = .owedLine ∧
               y = { x with echo := .none, echoTimer := 0 }) →
         ∃ t, exec cmd s = .next t ∧ State.reported i none s t cmd ∧ t.presence i = y ∧
           (∀ j, j ≠ i → t.presence j = s.presence j) ∧
           t = { s with lines := t.lines, ports := t.ports, layout := t.layout }))) ∧
  (∀ (s : State) (i : Nat) (level : Level), s.resetInput = false → i < 16 →
     (s.mode = .setup ∨ s.stationCount ≤ i ∨ (s.station i).source = .frame) →
     ∃ t, exec (.acceptedChange i level) s = .next t ∧
       t.presence i = { s.presence i with pin := level, accepted := level, filter := 0 } ∧
       (∀ j, j ≠ i → t.presence j = s.presence j) ∧ t = { s with lines := t.lines }) ∧
  (∀ (s : State) (h : Hdr) (i : Nat), s.takes h .zone → s.stationCount ≤ 16 →
     (∀ x, i < s.stationCount → s.inZone h.port i = true →
       (s.mode = .setup ∨ (s.station i).source = .frame ∨ x = (s.stationRec i).sense) →
       ∃ t, exec (.setSense h i (some x)) s = .next t ∧
         State.answered h 0x2B .done (.sense x ⟨(s.station i).state, none,
           decide (((s.presence i).accepted = .high) ↔ (x = .highPresent)), (s.presence i).window⟩) s t ∧
         t.stationRec i = { s.stationRec i with sense := x } ∧ (∀ j, j ≠ i → t.stationRec j = s.stationRec j) ∧
         t = { s with ports := t.ports, layout := { s.layout with stations := t.layout.stations } }) ∧
     ∀ c x, (s.stationCount ≤ i ∧ c = .range ∨ i < s.stationCount ∧ s.inZone h.port i = false ∧ c = .role ∨
         i < s.stationCount ∧ s.inZone h.port i = true ∧ x = none ∧ c = .range) →
       ∃ t, exec (.setSense h i x) s = .next t ∧ State.answered h 0x2B c .nothing s t ∧ t = { s with ports := t.ports })

/-- A window still open at the confirm time closes, and its EMPTY station enters FAULT with cause UNCONFIRMED and no body,
STATION FAULT raised; a departure echo at its time becomes NONE. A running stopwatch at its budget raises OVERRUN, once. A
poll timer at its interval makes a poll pending for an ONLINE robot, and for an OFFLINE one a probe with a single sending; a
pace timer is brought to its interval. One millisecond with nothing waiting counts each filter timer, open confirm window,
echo, running stopwatch, running poll timer, BUSY wait, pace timer and reply wait once; one that reaches its limit acts: a line
is accepted, an echo ends, a poll or probe becomes pending, a held SELECT is placed, a frame is sent again (R44, R66, R70,
R72, R73, R150, R161, R162, R164, R165, R168). That the command of a timer is its expiry, and brings the timer to its limit, is
log entry 3; that a step on an empty queue with nothing owed is the millisecond is log entry 1; that the pace count stops at
250 is log entry 8. That a running poll timer is held against the interval in force at each millisecond, also after a LAYOUT
WRITE that made the interval shorter or longer, is the model's choice, log entry 24; that the SELECT of a BUSY wait takes the
place of one still pending is log entry 23; that a window that closes and an echo that ends leave their timers at 0 is log entry
28. -/
def Obligations.TimersExpire : Prop :=
  (∀ (s : State) (interval : Nat → Nat), s.pending = [] → s.resetInput = false → s.due = [] →
     (∀ p, p < 4 → (s.port p).reply = none ∨ (s.port p).sending = true) →
     (∀ b : Fin 4, (s.bus b.val).cur ≠ none ∨ ∀ c r, s.eligibleTx b c r = none) →
     (∀ i, i < 16 →
       ((s.presence i).window = .closed ∨ (s.presence i).confirm + 1 < (s.stationRec i).confirm) ∧
       ((s.station i).running = true → (s.station i).watch + 1 < (s.station i).budget ∨ (s.station i).overrunRaised = true) ∧
       ((s.presence i).pin = (s.presence i).accepted ∨ (s.presence i).filter + 1 < (s.stationRec i).filter ∨
         s.mode = .setup ∨ s.stationCount ≤ i ∨ (s.station i).source = .frame)) →
     (∀ b o, b < 4 → (s.bus b).cur = some o → o.waited + 1 < o.tx.timeout ∨ o.sendings ≤ o.tx.retries) →
     (∀ r, interval r = if (s.robot r).online = true ∧ (s.robot r).motion ≠ .idle then s.line.pollInterval
       else s.line.probeInterval) →
     ∃ t, step s = .next t ∧
       (∀ i, i < 16 → t.presence i = { s.presence i with
         accepted := if (s.stationRec i).filter ≤ (s.presence i).filter + 1 then (s.presence i).pin
           else (s.presence i).accepted
         filter := if (s.presence i).pin = (s.presence i).accepted ∨ (s.stationRec i).filter ≤ (s.presence i).filter + 1
           then 0 else (s.presence i).filter + 1
         confirm := if (s.presence i).window = .closed then (s.presence i).confirm else (s.presence i).confirm + 1
         echo := if (s.stationRec i).confirm ≤ (s.presence i).echoTimer + 1 then .none else (s.presence i).echo
         echoTimer := if (s.presence i).echo = .none then (s.presence i).echoTimer
           else if (s.stationRec i).confirm ≤ (s.presence i).echoTimer + 1 then 0 else (s.presence i).echoTimer + 1 }) ∧
       (∀ i, i < 16 → t.station i =
         if (s.station i).running then { s.station i with
           watch := if (s.station i).watchMs + 1 < 10 then (s.station i).watch else min 65535 ((s.station i).watch + 1)
           watchMs := if (s.station i).watchMs + 1 < 10 then (s.station i).watchMs + 1 else 0 }
         else s.station i) ∧
       (∀ r, r < 32 →
         t.robot r = { s.robot r with
           pollTimer := if s.pollTimerRuns r then min (interval r) ((s.robot r).pollTimer + 1) else (s.robot r).pollTimer
           busy := match (s.robot r).busy with
             | none => none
             | some w => if s.line.pollInterval ≤ w.timer + 1 then none else some ⟨w.frame, w.timer + 1⟩ } ∧
         t.pendOf r =
           { abort := (s.pendOf r).abort
             select := match (s.robot r).busy with
               | none => (s.pendOf r).select
               | some w => if s.line.pollInterval ≤ w.timer + 1 then
                   some ⟨.select, .select w.frame, s.line.replyTimeout, s.line.retryLimit⟩ else (s.pendOf r).select
             poll := if s.pollTimerRuns r = true ∧ (s.robot r).online = true ∧ interval r ≤ (s.robot r).pollTimer + 1 then
                 some ⟨.poll, .poll, s.line.replyTimeout, s.line.retryLimit⟩ else (s.pendOf r).poll
             query := if s.pollTimerRuns r = true ∧ (s.robot r).online = false ∧ interval r ≤ (s.robot r).pollTimer + 1
                 then some ⟨.query, .poll, s.line.replyTimeout, 0⟩ else (s.pendOf r).query }) ∧
       (∀ b, b < 4 → t.bus b = match (s.bus b).cur with
         | none => { s.bus b with pace := min 250 ((s.bus b).pace + 1) }
         | some o =>
           if o.tx.timeout ≤ o.waited + 1 then
             { s.bus b with
               cur := some { o with sendings := o.sendings + 1, waited := 0 }
               pace := if State.isLoadData o.tx.req then 0 else min 250 ((s.bus b).pace + 1) }
           else { s.bus b with cur := some { o with waited := o.waited + 1 }, pace := min 250 ((s.bus b).pace + 1) }) ∧
       t = { s with stations := t.stations, lines := t.lines, robots := t.robots, pend := t.pend, buses := t.buses }) ∧
  (∀ (s : State) (r : Nat), s.pollTimerRuns r = true ↔
     (∃ p, s.place r = some p ∧ ∀ q p', q < 32 → q ≠ r → s.place q = some p' → p'.bus ≠ p.bus ∨ p'.drop ≠ p.drop) ∧
     (∀ sel, (s.robot r).motion ≠ .selecting sel) ∧ (s.pendOf r).poll = none ∧
     (∀ tx, (s.pendOf r).query = some tx → tx.req ≠ .poll) ∧
     ∀ b o, b < 4 → (s.bus b).cur = some o → o.robot = r → o.tx.req ≠ .poll) ∧
  (∀ (s : State) (i : Nat), s.resetInput = false → i < 16 →
     ((s.presence i).window ≠ .closed → (s.station i).state = .empty →
       ∃ t, exec (.confirmWindowExpiry i) s = .next t ∧
         t.presence i = { s.presence i with window := .closed, confirm := 0 } ∧
         (∀ j, j ≠ i → t.presence j = s.presence j) ∧
         t.station i = { s.station i with state := .fault, cause := some .unconfirmed } ∧
         (∀ j, j ≠ i → t.station j = s.station j) ∧
         t = { s with lines := t.lines, stations := t.stations, attention := (s.raise .stationFault i).attention }) ∧
     ((s.presence i).echo ≠ .none →
       ∃ t, exec (.departureEchoExpiry i) s = .next t ∧
         t.presence i = { s.presence i with echo := .none, echoTimer := 0 } ∧
         (∀ j, j ≠ i → t.presence j = s.presence j) ∧ t = { s with lines := t.lines })) ∧
  (∀ (s : State) (i : Nat), s.resetInput = false → i < 16 →
     ((s.station i).running = true → (s.station i).overrunRaised = false →
       ∃ t, exec (.overrun i) s = .next t ∧
         t.station i = { s.station i with watch := max (s.station i).watch (s.station i).budget, overrunRaised := true } ∧
         (∀ j, j ≠ i → t.station j = s.station j) ∧
         t = { s with stations := t.stations, attention := (s.raise .overrun i).attention }) ∧
     ((s.station i).running = false ∨ (s.station i).overrunRaised = true → exec (.overrun i) s = .next s)) ∧
  (∀ (s : State), s.resetInput = false →
     (∀ r, r < 32 → s.pollTimerRuns r = true →
       ∃ t, exec (.pollTimerExpiry r) s = .next t ∧ t.robot r = { s.robot r with pollTimer := s.pollInterval r } ∧
         (∀ q, q ≠ r → t.robot q = s.robot q) ∧
         t.pendOf r = (if (s.robot r).online then
             { s.pendOf r with poll := some ⟨.poll, .poll, s.line.replyTimeout, s.line.retryLimit⟩ }
           else { s.pendOf r with query := some ⟨.query, .poll, s.line.replyTimeout, 0⟩ }) ∧
         (∀ q, q ≠ r → t.pendOf q = s.pendOf q) ∧ t = { s with robots := t.robots, pend := t.pend }) ∧
     ∀ b : Fin 4,
       ∃ t, exec (.paceTimerExpiry b) s = .next t ∧
         t.bus b.val = { s.bus b.val with pace := max (s.bus b.val).pace (s.busRec b.val).interval } ∧
         (∀ c, c ≠ b.val → t.bus c = s.bus c) ∧ t = { s with buses := t.buses })

/-! ### The Program Library (Chapter 5) -/

/-- PROG OPEN of an EMPTY entry for 1 to 256 points, with blocks enough free, makes it LOADING for its port with the lowest
free blocks and abandons the program the port had open: its entry is EMPTY and its blocks become free. Every other block keeps its
holder and points. Where too few blocks are free it is refused with FULL, a count outside 1 to 256 with RANGE, and an entry
that is LOADING or READY with STATE and the entry's state and owner (R79, R82, R83, R88). -/
def Obligations.ProgOpenTakesBlocks : Prop :=
  ∀ (s : State) (h : Hdr) (n count : Nat) (check : Word), s.takes h .library → n < 512 →
    (∀ (c : Code) (k : Contents),
      (count < 1 ∨ 256 < count) ∧ c = .range ∧ k = .nothing ∨
        1 ≤ count ∧ count ≤ 256 ∧ c = .state ∧
          ((∃ p d, (s.prog n).state = .loading p d ∧ k = .progState .loading (some p) none) ∨
            ∃ stamp d, (s.prog n).state = .ready stamp d ∧ k = .progState .ready none none) →
      ∃ t, exec (.progOpen h n count check) s = .next t ∧ State.answered h 0x30 c k s t ∧ t = { s with ports := t.ports }) ∧
    (1 ≤ count → count ≤ 256 → (s.prog n).state = .empty → s.libraryInv → s.freeBlocks.length < (count + 31) / 32 →
      ∃ t, exec (.progOpen h n count check) s = .next t ∧
        State.answered h 0x30 .full (.free s.freeBlocks.length) s t ∧ t = { s with ports := t.ports }) ∧
    (1 ≤ count → count ≤ 256 → (s.prog n).state = .empty → s.libraryInv → (count + 31) / 32 ≤ s.freeBlocks.length →
      ∃ t, exec (.progOpen h n count check) s = .next t ∧ ∃ blocks abandoned,
        State.answered h 0x30 .done (.opened ((count + 31) / 32) t.freeBlocks.length abandoned) s t ∧
        t.prog n = ⟨.loading h.port ⟨count, check, 0, [], blocks⟩, (s.prog n).refs⟩ ∧
        blocks.length = (count + 31) / 32 ∧
        (∀ b, (b ∈ blocks → t.block b = ⟨some n, []⟩) ∧
          (b ∉ blocks → (∃ m d, (s.prog m).state = .loading h.port d ∧ b ∈ d.blocks) → t.block b = ⟨none, []⟩) ∧
          (b ∉ blocks → (∀ m d, (s.prog m).state = .loading h.port d → b ∉ d.blocks) → t.block b = s.block b)) ∧
        (∀ b ∉ blocks, (t.block b).holder = none → ∀ c ∈ blocks, c < b) ∧
        (∀ m, abandoned = some m ↔ ∃ d, (s.prog m).state = .loading h.port d) ∧
        (∀ m, m ≠ n → t.prog m = if abandoned = some m then ⟨.empty, (s.prog m).refs⟩ else s.prog m) ∧
        t.library.stamp = s.library.stamp ∧ t = { s with ports := t.ports, library := t.library })

/-- PROG DATA from the owner at the expected index, with points in range and at most 16 distinct schedules, stores the points
with their reserved flag bits 0 and adds their schedules to the list; another index is refused with STATE, naming the expected
one (R78, R84, R85). -/
def Obligations.ProgDataStoresPoints : Prop :=
  ∀ (s : State) (h : Hdr) (n first : Nat) (points : List RawPoint) (d : ProgData), s.takes h .library → n < 512 →
    s.libraryInv → (s.prog n).state = .loading h.port d → 1 ≤ points.length → points.length ≤ 16 →
    (first ≠ d.received →
      ∃ t, exec (.progData h n first points) s = .next t ∧ State.answered h 0x31 .state (.received d.received) s t ∧
        t = { s with ports := t.ports }) ∧
    (first = d.received → d.received + points.length ≤ d.count →
      (∀ p ∈ points, p.pose.toNat ≤ 4095 ∧ p.schedule.toNat ≤ 63) →
      ∀ list, list = points.foldl
          (fun l p => if p.schedule.toNat ∈ l then l else l ++ [p.schedule.toNat]) d.schedules → list.length ≤ 16 →
      ∃ t, exec (.progData h n first points) s = .next t ∧
        State.answered h 0x31 .done (.received (d.received + points.length)) s t ∧
        t.prog n = ⟨.loading h.port { d with received := d.received + points.length, schedules := list }, (s.prog n).refs⟩ ∧
        (∀ m, m ≠ n → t.prog m = s.prog m) ∧
        (∀ j p, points[j]? = some p → t.pointAt d.blocks (d.received + j) =
          ⟨p.pointId, p.pose.toNat, p.schedule.toNat, p.flags.getLsbD 0, p.flags.getLsbD 1⟩) ∧
        (∀ j, j < d.received → t.pointAt d.blocks j = s.pointAt d.blocks j) ∧
        (∀ b ∉ d.blocks, t.block b = s.block b) ∧ t.library.stamp = s.library.stamp ∧
        t = { s with ports := t.ports, library := t.library })

/-- PROG CLOSE from the owner makes a complete program whose check agrees READY under the stamp counter, which goes on from
65535 to 1; a close that fails abandons the program and is refused with CHECK. A close of an entry that is not LOADING for the
port is refused with STATE and the entry's state and owner (R80, R86, R87). -/
def Obligations.ProgCloseChecksTheProgram : Prop :=
  (∀ (s : State) (h : Hdr) (n : Nat) (k : Contents), s.takes h .library → n < 512 →
    ((s.prog n).state = .empty ∧ k = .progState .empty none none ∨
      (∃ p d, (s.prog n).state = .loading p d ∧ p ≠ h.port ∧ k = .progState .loading (some p) none) ∨
      (∃ stamp d, (s.prog n).state = .ready stamp d ∧ k = .progState .ready none none)) →
    ∃ t, exec (.progClose h n) s = .next t ∧ State.answered h 0x32 .state k s t ∧ t = { s with ports := t.ports }) ∧
  ∀ (s : State) (h : Hdr) (n : Nat) (d : ProgData), s.takes h .library → n < 512 →
    (s.prog n).state = .loading h.port d →
    (d.received = d.count → programCheck (s.pointsFrom d 0 d.count) = d.check →
      ∃ t, exec (.progClose h n) s = .next t ∧
        State.answered h 0x32 .done (.closed s.library.stamp d.count d.schedules) s t ∧
        t.prog n = ⟨.ready s.library.stamp d, 0⟩ ∧ (∀ m, m ≠ n → t.prog m = s.prog m) ∧
        t.library = { s.library with
          progs := t.library.progs
          stamp := if s.library.stamp = 65535#16 then 1#16 else s.library.stamp + 1#16 } ∧
        t = { s with ports := t.ports, library := t.library }) ∧
    ∀ computed, (d.received ≠ d.count ∧ computed = none ∨
        d.received = d.count ∧ programCheck (s.pointsFrom d 0 d.count) ≠ d.check ∧
          computed = some (programCheck (s.pointsFrom d 0 d.count))) →
      ∃ t, exec (.progClose h n) s = .next t ∧
        State.answered h 0x32 .check (.mismatch d.received d.count computed) s t ∧
        t.prog n = ⟨.empty, (s.prog n).refs⟩ ∧ (∀ m, m ≠ n → t.prog m = s.prog m) ∧
        (∀ b, t.block b = if b ∈ d.blocks then ⟨none, []⟩ else s.block b) ∧ t.library.stamp = s.library.stamp ∧
        t = { s with ports := t.ports, library := t.library }

/-- PROG DELETE of a READY program no one refers to makes it EMPTY, frees its blocks and makes every slot VALID with it STALE;
one with references is refused with IN-USE and their number, an EMPTY one with UNKNOWN. A LOADING one is abandoned where the
port owns it, and is refused with STATE and its owner where another does (R88, R89, R91). -/
def Obligations.ProgDeleteNeedsNoReference : Prop :=
  ∀ (s : State) (h : Hdr) (n : Nat), s.takes h .library → n < 512 →
    (∀ stamp d, s.prog n = ⟨.ready stamp d, 0⟩ →
      ∃ t, exec (.progDelete h n) s = .next t ∧ State.answered h 0x33 .done (.deleted stamp t.freeBlocks.length) s t ∧
        t.prog n = ⟨.empty, 0⟩ ∧ (∀ m, m ≠ n → t.prog m = s.prog m) ∧
        (∀ b, t.block b = if b ∈ d.blocks then ⟨none, []⟩ else s.block b) ∧ t.library.stamp = s.library.stamp ∧
        (∀ r i, r < 32 → i < 8 → (t.robot r).slot i =
          if ((s.robot r).slot i).content = .valid n stamp then ⟨.stale n stamp, ((s.robot r).slot i).lastUse⟩
          else (s.robot r).slot i) ∧
        (∀ r, r < 32 → t.robot r = { s.robot r with slots := (t.robot r).slots }) ∧
        (∀ e, e ∈ t.due ↔ e ∈ s.due ∨ ∃ r i, r < 32 ∧ i < 8 ∧ ((s.robot r).slot i).content = .valid n stamp ∧
          (e = .recompute r ∨ e = .selection r)) ∧
        t = { s with ports := t.ports, library := t.library, robots := t.robots, due := t.due }) ∧
    (∀ stamp d refs, s.prog n = ⟨.ready stamp d, refs + 1⟩ →
      ∃ t, exec (.progDelete h n) s = .next t ∧ State.answered h 0x33 .inUse (.references (refs + 1)) s t ∧
        t = { s with ports := t.ports }) ∧
    ((s.prog n).state = .empty →
      ∃ t, exec (.progDelete h n) s = .next t ∧ State.answered h 0x33 .unknown .nothing s t ∧ t = { s with ports := t.ports }) ∧
    ∀ p d, (s.prog n).state = .loading p d →
      (p = h.port →
        ∃ t, exec (.progDelete h n) s = .next t ∧ State.answered h 0x33 .done (.abandoned .empty t.freeBlocks.length) s t ∧
          t.prog n = ⟨.empty, (s.prog n).refs⟩ ∧ (∀ m, m ≠ n → t.prog m = s.prog m) ∧
          (∀ b, t.block b = if b ∈ d.blocks then ⟨none, []⟩ else s.block b) ∧ t.library.stamp = s.library.stamp ∧
          t = { s with ports := t.ports, library := t.library }) ∧
      (p ≠ h.port →
        ∃ t, exec (.progDelete h n) s = .next t ∧
          State.answered h 0x33 .state (.progState .loading (some p) none) s t ∧ t = { s with ports := t.ports })

/-! ### Schedules, curves and currents (Chapter 6) -/

/-- SCHED WRITE stores or clears a schedule, STEPPER WRITE a curve, each answered as stored; a schedule whose group names an
undefined curve is refused with UNKNOWN and the curve's number (R96, R99). -/
def Obligations.ScheduleAndCurveWritesAreStored : Prop :=
  ∀ (s : State) (h : Hdr) (n : Nat), s.takes h .library → n < 64 →
    (∀ f : SchedFields, 1000 ≤ f.base → f.base ≤ 24000 → 300 ≤ f.imin → f.imin ≤ f.imax → f.imax ≤ 2400 →
      f.squeeze ≤ 2000 → 1 ≤ f.weldTime → f.weldTime ≤ 2000 → f.hold ≤ 2000 → (∀ g, f.group = some g → g < 8) →
      ((∀ g, f.group = some g → s.curve g ≠ none) →
        ∃ t, exec (.schedWriteDefine h n f) s = .next t ∧ State.answered h 0x34 .done (.schedule (some f)) s t ∧
          t.schedule n = some f ∧ (∀ m, m ≠ n → t.schedule m = s.schedule m) ∧
          t = { s with ports := t.ports, schedules := t.schedules }) ∧
      ∀ g, f.group = some g → s.curve g = none →
        ∃ t, exec (.schedWriteDefine h n f) s = .next t ∧ State.answered h 0x34 .unknown (.curveNumber g) s t ∧
          t = { s with ports := t.ports }) ∧
    (∃ t, exec (.schedWriteClear h n true) s = .next t ∧ State.answered h 0x34 .done (.schedule none) s t ∧
      t.schedule n = none ∧ (∀ m, m ≠ n → t.schedule m = s.schedule m) ∧
      t = { s with ports := t.ports, schedules := t.schedules }) ∧
    ∀ steps : List CurveStep, n < 8 → 1 ≤ steps.length → steps.length ≤ 8 →
      (∀ x ∈ steps, 1 ≤ x.threshold ∧ x.threshold ≤ 65535 ∧ x.increment ≤ 500) →
      (steps.map (·.threshold)).Pairwise (· < ·) →
      ∃ t, exec (.stepperWrite h n steps) s = .next t ∧
        State.answered h 0x35 .done (.curve steps
          ((List.range 64).filter fun m => (s.schedule m).any fun x => x.group == some n).length) s t ∧
        t.curve n = some steps ∧ (∀ m, m ≠ n → t.curve m = s.curve m) ∧
        t = { s with ports := t.ports, curves := t.curves }

/-- Stage 1 (R101): no group gives 0; at or above the last threshold the curve is saturated with the last increment; between
two steps, the first of them (0, 0) below the first threshold, the increment is the lower step's plus the truncated share of
the difference, and lies between the two. -/
def Obligations.WearIncrementFollowsTheCurve : Prop :=
  ∀ w : Nat, wearIncrement none w = (0, false) ∧
    ∀ steps : List CurveStep, steps ≠ [] → (∀ x ∈ steps, 1 ≤ x.threshold ∧ x.increment ≤ 500) →
      (steps.map (·.threshold)).Pairwise (· < ·) →
      (∀ x, steps.getLast? = some x → x.threshold ≤ w → wearIncrement (some steps) w = ((x.increment : Int), true)) ∧
      ∀ (k : Nat) (a b : CurveStep), (⟨0, 0⟩ :: steps)[k]? = some a → steps[k]? = some b →
        a.threshold ≤ w → w < b.threshold →
        ∃ p : Int, wearIncrement (some steps) w = (p, false) ∧
          p = a.increment + (((b.increment : Int) - a.increment) * ((w : Int) - a.threshold)).tdiv
            ((b.threshold : Int) - a.threshold) ∧
          min (a.increment : Int) b.increment ≤ p ∧ p ≤ max (a.increment : Int) b.increment ∧ 0 ≤ p ∧ p ≤ 500

/-- Stages 2 to 5: the converted current is the raw product over 10000 rounded by the mode, the row's current is that kept
within the schedule's limits, and the row is marked clamped exactly when the limits changed it (R103, R104). -/
def Obligations.RowCurrentIsRoundedAndClamped : Prop :=
  ∀ (mode : Rounding) (n : Nat) (sc : Schedule) (p trim : Int), sc.imin ≤ sc.imax → 0 ≤ (1000 + p + trim) →
    ∃ c : Int,
      (mode = .down → 10000 * c ≤ sc.base * (1000 + p + trim) ∧ sc.base * (1000 + p + trim) < 10000 * (c + 1)) ∧
      (mode = .up → 10000 * (c - 1) < sc.base * (1000 + p + trim) ∧ sc.base * (1000 + p + trim) ≤ 10000 * c) ∧
      (mode = .halfUp → 10000 * c - 5000 ≤ sc.base * (1000 + p + trim) ∧
        sc.base * (1000 + p + trim) < 10000 * c + 5000) ∧
      (mode = .nearestEven → 10000 * c - 5000 ≤ sc.base * (1000 + p + trim) ∧
        sc.base * (1000 + p + trim) ≤ 10000 * c + 5000 ∧
        (sc.base * (1000 + p + trim) = 10000 * c - 5000 ∨ sc.base * (1000 + p + trim) = 10000 * c + 5000 → c % 2 = 0)) ∧
      sc.imin ≤ (scheduleRow mode n sc p trim).current ∧ (scheduleRow mode n sc p trim).current ≤ sc.imax ∧
      ((scheduleRow mode n sc p trim).current : Int) = min (max c sc.imin) sc.imax ∧
      ((scheduleRow mode n sc p trim).clamped = true ↔ c < sc.imin ∨ (sc.imax : Int) < c)

/-! ### Robots (Chapter 7) -/

/-- ROBOT ENABLE sets and ROBOT DISABLE clears the enabled flag, each owing the robot's recomputation where it changes it;
DISABLE clears the blocked indication, and leaves the station of a robot that is working, or owes nothing, as it was. The OWED
component of an enabled IDLE robot that is disabled becomes SKIPPED and its body Incomplete, with BODY INCOMPLETE raised, and
the station is judged by the components as they then stand: an ARRIVED station stays so while an OWED robot is unselected,
becomes WELDING when every OWED robot is selected, and COMPLETE when none is OWED, with the result WELDED where a component is
DONE and SKIPPED where none is; a FAULT station stays so. DRESS REQUEST sets the dress due flag alone (R52, R53, R120 to R122,
R128, R133). -/
def Obligations.RobotRequestsSetTheirFlags : Prop :=
  (∀ (s : State) (h : Hdr) (r i : Nat), s.takes h .zone → r < 32 → s.stationOf r = some i → s.inZone h.port i = true →
     (∃ t, exec (.robotEnable h r) s = .next t ∧
       State.answered h 0x28 .done (.robotFlags true (s.robot r).online (s.robot r).motion.name) s t ∧
       t.robot r = { s.robot r with enabled := true } ∧ (∀ q, q ≠ r → t.robot q = s.robot q) ∧
       t = { s with ports := t.ports, robots := t.robots,
                    due := s.due ++ if (s.robot r).enabled then [] else [.recompute r] }) ∧
     (¬ ((s.robot r).motion = .idle ∧ s.owed i r = true) →
       ∃ t, exec (.robotDisable h r) s = .next t ∧
         State.answered h 0x29 .done (.robotFlags false (s.robot r).online (s.robot r).motion.name) s t ∧
         t.robot r = { s.robot r with enabled := false } ∧ (∀ q, q ≠ r → t.robot q = s.robot q) ∧
         t.stage r = { s.stage r with blocked := (s.stage r).blocked && !(s.robot r).enabled } ∧
         (∀ q, q ≠ r → t.stage q = s.stage q) ∧
         t = { s with ports := t.ports, robots := t.robots, staging := t.staging,
                      due := s.due ++ if (s.robot r).enabled then [.recompute r] else [] }) ∧
     ∃ t, exec (.dressRequest h r) s = .next t ∧
       State.answered h 0x2A .done (.dress (s.robot r).wear true (s.robot r).motion.name) s t ∧
       t.robot r = { s.robot r with dressDue := true } ∧ (∀ q, q ≠ r → t.robot q = s.robot q) ∧
       t = { s with ports := t.ports, robots := t.robots }) ∧
  (∀ (s : State) (h : Hdr) (r i : Nat) (b : Body) (items left : List WorkItem) (st : StationState)
     (selected : Nat → Prop), s.takes h .zone → r < 32 → i < 16 →
     s.stationOf r = some i → s.inZone h.port i = true → (s.robot r).enabled = true → (s.robot r).motion = .idle →
     s.owed i r = true → (s.station i).body = some b.key → s.bodyOf b.key = some b → (s.station i).work = some items →
     left = items.map (fun w => if w.robot = r then { w with comp := .skipped } else w) →
     (∀ q, selected q ↔ ∃ sel, sel.key = b.key ∧ ((s.robot q).motion = .selected sel ∨ (s.robot q).motion = .welding sel)) →
     ((s.station i).state = .fault ∧ st = .fault ∨
       (s.station i).state = .arrived ∧
         ((∃ w ∈ left, w.comp = .owed ∧ ¬ selected w.robot) ∧ st = .arrived ∨
           (∃ w ∈ left, w.comp = .owed) ∧ (∀ w ∈ left, w.comp = .owed → selected w.robot) ∧ st = .welding ∨
           (∀ w ∈ left, w.comp ≠ .owed) ∧ st = .complete)) →
     ∃ t, exec (.robotDisable h r) s = .next t ∧
       State.answered h 0x29 .done (.robotFlags false (s.robot r).online .idle) s t ∧
       t.robot r = { s.robot r with enabled := false } ∧ (∀ q, q ≠ r → t.robot q = s.robot q) ∧
       t.station i = { s.station i with
         work := some left
         state := st
         running := if st = .complete then false else (s.station i).running
         lastCycle := if st = .complete then (s.station i).watch else (s.station i).lastCycle
         cause := if st = .complete then none else (s.station i).cause } ∧
       (∀ j, j ≠ i → t.station j = s.station j) ∧
       t.bodyOf b.key = some { b with
         incomplete := true
         results := if st = .complete then
             tset b.results i (if ∃ w ∈ left, w.comp = .done then .welded else .skipped) else b.results } ∧
       (∀ k, k ≠ b.key → t.bodyOf k = s.bodyOf k) ∧
       t.stage r = { s.stage r with blocked := false } ∧ (∀ q, q ≠ r → t.stage q = s.stage q) ∧
       t.attention = (if st = .complete then (s.raise .bodyIncomplete b.tag.toNat).raise .stationComplete i
         else s.raise .bodyIncomplete b.tag.toNat).attention ∧
       (∀ d, d ∈ t.due ↔ d ∈ s.due ∨ d = .recompute r ∨
         (s.station i).state ≠ st ∧ ∃ q ∈ s.robotsAt i, d = .recompute q) ∧
       t = { s with ports := t.ports, robots := t.robots, staging := t.staging, stations := t.stations, bodies := t.bodies,
                    attention := t.attention, due := t.due })

/-! ### Staging (Chapter 8) -/

/-- The slot chosen for a head job is the lowest EMPTY one, else the lowest STALE, INVALID or UNKNOWN one, else, of the VALID
slots that are not pinned, the lowest of those with the smallest last-use count; none is found only where no slot is any of
these. The staged slot for a program is the lowest slot VALID with it; a slot is pinned where it is the staged slot of a window
program, the slot the motion state names, or LOADING (R127, R132). -/
def Obligations.SlotChoiceTakesTheCheapestSlot : Prop :=
  (∀ (s : State) (r n j : Nat), s.stagedSlot r n = some j ↔
    j < s.slotCount r ∧ (∃ stamp, ((s.robot r).slot j).content = .valid n stamp) ∧
      ∀ k stamp, k < j → ((s.robot r).slot k).content ≠ .valid n stamp) ∧
  (∀ (s : State) (r j : Nat), s.pinned r j = true ↔
    (∃ n pos, (n, pos) ∈ s.windowPrograms r ∧ s.stagedSlot r n = some j) ∨
      (∃ sel, sel.slot = j ∧ ((s.robot r).motion = .selecting sel ∨ (s.robot r).motion = .selected sel ∨
        (s.robot r).motion = .welding sel ∨ (s.robot r).motion = .aborting sel)) ∨
      ∃ n stamp, ((s.robot r).slot j).content = .loading n stamp) ∧
  ∀ (s : State) (r : Nat) (empty free idle : Nat → Prop),
    (∀ i, empty i ↔ i < s.slotCount r ∧ ((s.robot r).slot i).content = .empty) →
    (∀ i, free i ↔ i < s.slotCount r ∧ (((s.robot r).slot i).content = .unknown ∨
      ∃ n stamp, ((s.robot r).slot i).content = .stale n stamp ∨ ((s.robot r).slot i).content = .invalid n stamp)) →
    (∀ i, idle i ↔ i < s.slotCount r ∧ s.pinned r i = false ∧
      ∃ n stamp, ((s.robot r).slot i).content = .valid n stamp) →
    (∀ i, s.chooseSlot r = some i ↔
      empty i ∧ (∀ j, empty j → i ≤ j) ∨
      (∀ j, ¬ empty j) ∧ free i ∧ (∀ j, free j → i ≤ j) ∨
      (∀ j, ¬ empty j ∧ ¬ free j) ∧ idle i ∧ ∀ j, idle j →
        ((s.robot r).slot i).lastUse < ((s.robot r).slot j).lastUse ∨
          ((s.robot r).slot i).lastUse = ((s.robot r).slot j).lastUse ∧ i ≤ j) ∧
    (s.chooseSlot r = none ↔ ∀ j, ¬ empty j ∧ ¬ free j ∧ ¬ idle j)

/-- A recomputation of a robot that may load, whose window asks for one READY program no slot holds, makes its job, or keeps it
with its attempts used, and begins the load: the chosen slot is LOADING with the program's stamp, the program gains a reference,
and a LOAD OPEN joins the channel. Where no slot is found the job waits, and the onset raises STAGING BLOCKED. An active load
whose program has left the window is cancelled: its slot is EMPTY, its program loses the reference, its unsent transactions are
withdrawn, a LOAD CANCEL joins the channel, and what is on a bus stays. A disabled robot's job list becomes empty. The window holds the body the robot waits for at
its station and then the first D records of the Line List not yet past it, each kept where the robot resolves to a program for
it; its programs are listed once each, at the position of the first body that needs them (R126, R128 to R131, R133 to R135, R141).
The load's number is the model's own (log entry 8), and a load transaction takes its timeout and retry limit as it enters the
channel (log entry 12); the order of the events owed is log entry 1. -/
def Obligations.RecomputationBeginsALoad : Prop :=
  (∀ (s : State) (r : Nat) (p : RobotRec) (waiting : List Body) (programs : List Nat), s.place r = some p →
    (s.robot r).enabled = true →
    waiting = (if (s.station p.station).state = .arrived ∧ (s.robot r).motion = .idle ∧
        ((s.station p.station).work = none ∨ s.owed p.station r = true) then (s.bodyAt p.station).toList else []) →
    programs = (waiting ++ ((s.lineList.filterMap s.bodyOf).filter fun b => b.notYetPast p.station).take s.line.depth).filterMap
      (fun b => (s.resolve b r).map (·.program)) →
    (∀ n pos, (n, pos) ∈ s.windowPrograms r ↔ programs[pos]? = some n ∧ ∀ k, k < pos → programs[k]? ≠ some n) ∧
      ((s.windowPrograms r).map (·.2)).Pairwise (· < ·)) ∧
  (∀ (s : State) (r : Nat), s.place r = none ∨ (s.robot r).enabled = false → s.windowPrograms r = []) ∧
  ∀ (s : State) (r : Nat), s.resetInput = false → r < 32 →
    (∀ (n attempts : Nat) (stamp : Word) (d : ProgData), n < 512 → s.mode = .run → s.place r ≠ none →
      (s.robot r).online = true → (s.robot r).enabled = true → (s.robot r).fault = none → (s.stage r).load = none →
      ((s.stage r).jobs = [] ∧ attempts = 0 ∨ ∃ pos, (s.stage r).jobs = [⟨n, stamp, pos, attempts, false⟩]) →
      s.windowPrograms r = [(n, 0)] → s.stagedSlot r n = none → (s.prog n).state = .ready stamp d →
      (∀ slot, s.chooseSlot r = some slot →
        ∃ t, exec (.stagingRecomputation r) s = .next t ∧
          t.stage r = ⟨[⟨n, stamp, 0, attempts, true⟩], some ⟨(s.stage r).seq + 1, slot, n, stamp, d.count, .opening, 0⟩,
            (s.stage r).channel ++ [⟨.load, .loadOpen ((s.stage r).seq + 1) slot n stamp d.count, s.line.replyTimeout,
              s.line.retryLimit⟩], false, (s.stage r).seq + 1⟩ ∧
          (∀ q, q ≠ r → t.stage q = s.stage q) ∧
          t.robot r = { s.robot r with slots := tset (s.robot r).slots slot ⟨.loading n stamp, (s.robot r).uses⟩ } ∧
          (∀ q, q ≠ r → t.robot q = s.robot q) ∧ t.prog n = { s.prog n with refs := (s.prog n).refs + 1 } ∧
          (∀ m, m ≠ n → t.prog m = s.prog m) ∧
          t = { s with staging := t.staging, robots := t.robots
                       library := { s.library with progs := t.library.progs }
                       due := s.due.erase (.recompute r) ++ [.recompute r, .selection r] }) ∧
      (s.chooseSlot r = none →
        ∃ t, exec (.stagingRecomputation r) s = .next t ∧
          t.stage r = { s.stage r with jobs := [⟨n, stamp, 0, attempts, false⟩], blocked := true } ∧
          (∀ q, q ≠ r → t.stage q = s.stage q) ∧
          t = { s with staging := t.staging, due := s.due.erase (.recompute r)
                       attention := (if (s.stage r).blocked then s else s.raise .stagingBlocked r).attention })) ∧
    (∀ l, (s.stage r).load = some l →
      (∀ n pos, (n, pos) ∈ s.windowPrograms r → s.stagedSlot r n ≠ none ∧
        ∀ j ∈ (s.stage r).jobs, j.program = n → j.active = false) →
      ∃ t, exec (.stagingRecomputation r) s = .next t ∧
        t.stage r = ⟨[], none, (s.stage r).channel.filter (fun tx => tx.req.loadSeq != some l.seq) ++
          [⟨.load, .loadCancel l.slot, s.line.replyTimeout, s.line.retryLimit⟩], false, (s.stage r).seq⟩ ∧
        (∀ q, q ≠ r → t.stage q = s.stage q) ∧
        t.robot r = { s.robot r with slots := tset (s.robot r).slots l.slot ⟨.empty, 0⟩ } ∧
        (∀ q, q ≠ r → t.robot q = s.robot q) ∧
        (∀ m, t.prog m = { s.prog m with refs := (s.prog m).refs - if m = l.program then 1 else 0 }) ∧
        t = { s with staging := t.staging, robots := t.robots
                     library := { s.library with progs := t.library.progs }
                     due := s.due.erase (.recompute r) ++ [.recompute r, .selection r] }) ∧
    ((s.robot r).enabled = false → (s.stage r).load = none →
      ∃ t, exec (.stagingRecomputation r) s = .next t ∧
        t.stage r = { s.stage r with jobs := [], blocked := false } ∧ (∀ q, q ≠ r → t.stage q = s.stage q) ∧
        t = { s with staging := t.staging, due := s.due.erase (.recompute r) })

/-! ### Selection and the weld cycle (Chapter 9) -/

/-- A selection attempt that meets its conditions, with a staged slot and every schedule defined, makes the robot SELECTING,
raises its dispatch number, withdraws its pending poll and places a SELECT that names slot, body and dispatch, carries the
dress due flag as the computation left it, and one row for each schedule of the program in list order. Where a schedule is
undefined, no SELECT is built and no dispatch number taken: the station enters FAULT with SCHEDULE UNDEFINED, STATION FAULT
raised, and an enabled robot is IDLE with its component OWED. Where no slot is staged, PROGRAM LATE is raised for the robot,
once for its component, and nothing is placed (R45, R100, R118, R128, R146 to R148). The record's key and stay in the motion
state are the model's (log entry 8); that the SELECT placed takes the place of one still pending is log entry 23. -/
def Obligations.SelectionAttemptPlacesTheSelect : Prop :=
  (∀ (s : State) (r i slot : Nat) (b : Body) (e : DispatchEntry) (stamp : Word) (d : ProgData), s.resetInput = false →
     r < 32 → s.stationOf r = some i → s.mode = .run → (s.station i).state = .arrived → s.owed i r = true →
     (s.robot r).online = true → (s.robot r).motion = .idle → (s.robot r).fault = none → s.bodyAt i = some b →
     s.resolve b r = some e → s.stagedSlot r e.program = some slot → (s.prog e.program).state = .ready stamp d →
     ((∃ n ∈ d.schedules, s.schedule n = none) → (s.robot r).enabled = true → i < 16 →
       ∃ t, exec (.selectionAttempt r) s = .next t ∧
         t.station i = { s.station i with state := .fault, cause := some .scheduleUndefined } ∧
         (∀ j, j ≠ i → t.station j = s.station j) ∧ t.robot r = { s.robot r with busy := none, pollTimer := 0 } ∧
         (∀ q, q ≠ r → t.robot q = s.robot q) ∧ t.pendOf r = { s.pendOf r with poll := none } ∧
         (∀ q, q ≠ r → t.pendOf q = s.pendOf q) ∧
         (∀ x, x ∈ t.due ↔ x ∈ s.due.erase (.selection r) ∨ x = .recompute r ∨ x = .selection r ∨
           ∃ q ∈ s.robotsAt i, x = .recompute q) ∧
         t = { s with stations := t.stations, robots := t.robots, pend := t.pend, due := t.due
                      attention := (s.raise .stationFault i).attention }) ∧
     ((∀ n ∈ d.schedules, s.schedule n ≠ none) →
       ∃ t, exec (.selectionAttempt r) s = .next t ∧ ∃ (rows : List Row) (saturated : Bool),
         rows.length = d.schedules.length ∧
         (∀ (j n : Nat) (sc : Schedule), d.schedules[j]? = some n → s.schedule n = some sc → rows[j]? = some
           (scheduleRow s.line.rounding n sc (wearIncrement (sc.group.bind s.curve) (s.robot r).wear).1 e.trim)) ∧
         (saturated = true ↔ ∃ n ∈ d.schedules, ∃ sc, s.schedule n = some sc ∧
           (wearIncrement (sc.group.bind s.curve) (s.robot r).wear).2 = true) ∧
         t.robot r = { s.robot r with
           motion := .selecting ⟨slot, b.psn, b.tag, b.key, b.stay⟩
           dispatch := ((s.robot r).dispatch + 1) % 8
           dressDue := (s.robot r).dressDue || saturated
           clamps := min 65535 ((s.robot r).clamps + (rows.filter (·.clamped)).length) } ∧
         (∀ q, q ≠ r → t.robot q = s.robot q) ∧
         t.pendOf r = { s.pendOf r with
           poll := none
           select := some ⟨.select, .select ⟨slot, b.tag, b.psn, ((s.robot r).dispatch + 1) % 8, b.dry,
             (s.robot r).dressDue || saturated, rows⟩, s.line.replyTimeout, s.line.retryLimit⟩ } ∧
         (∀ q, q ≠ r → t.pendOf q = s.pendOf q) ∧
         t = { s with robots := t.robots, pend := t.pend, due := s.due.erase (.selection r) ++ [.recompute r] })) ∧
  (∀ (s : State) (r i : Nat) (b : Body) (e : DispatchEntry) (w : WorkItem) (items : List WorkItem), s.resetInput = false →
     r < 32 → i < 16 → s.stationOf r = some i → s.mode = .run → (s.station i).state = .arrived →
     (s.station i).work = some items → items.find? (fun w => w.robot == r) = some w → w.comp = .owed →
     (s.robot r).online = true → (s.robot r).motion = .idle → (s.robot r).fault = none → s.bodyAt i = some b →
     s.resolve b r = some e → s.stagedSlot r e.program = none →
     (w.late = false →
       ∃ t, exec (.selectionAttempt r) s = .next t ∧
         t.station i = { s.station i with
           work := some (items.map fun w => if w.robot = r then { w with late := true } else w) } ∧
         (∀ j, j ≠ i → t.station j = s.station j) ∧
         t = { s with stations := t.stations, attention := (s.raise .programLate r).attention,
                      due := s.due.erase (.selection r) }) ∧
     (w.late = true → exec (.selectionAttempt r) s = .next { s with due := s.due.erase (.selection r) }))

/-- The ACK of a SELECTING robot makes it SELECTED with one more use, which its slot's last use takes; its ARRIVED station,
where it alone is OWED, becomes WELDING, and a BUSY wait ends. A NAK with reason SLOT makes its VALID slot INVALID and returns
it to IDLE; one with reason BUSY starts a BUSY wait for the same SELECT. Each ends the transaction. A BUSY wait that has run
places its SELECT again, whatever else the robot does. An ACK taken while the robot is IDLE places an ABORT for the orphan
selection and changes nothing else; one taken while it is ABORTING has no effect. A NAK taken while it is IDLE or ABORTING
makes the SELECT's slot INVALID where the reason is SLOT and the slot VALID, and has no other effect (R113, R128, R149, R150,
R156, R157, R161). By which motion state an answer is taken, and that SELECTED and WELDING robots take one as ABORTING ones do,
is log entry 14; that a transaction placed takes the place of one of its class still pending, a BUSY wait that of one still held,
and that a NAK with reason SLOT leaves a SELECT still pending, log entry 23; that the command is the wait's expiry, log entry
3; the order of the events owed, log entry 1. -/
def Obligations.SelectAnswersAreTaken : Prop :=
  (∀ (s : State) (r : Nat) (w : BusyWait), s.resetInput = false → r < 32 → (s.robot r).busy = some w →
    ∃ t, exec (.busyWaitExpiry r) s = .next t ∧ t.robot r = { s.robot r with busy := none } ∧
      (∀ q, q ≠ r → t.robot q = s.robot q) ∧
      t.pendOf r = { s.pendOf r with
        select := some ⟨.select, .select w.frame, s.line.replyTimeout, s.line.retryLimit⟩ } ∧
      (∀ q, q ≠ r → t.pendOf q = s.pendOf q) ∧ t = { s with robots := t.robots, pend := t.pend }) ∧
  (∀ (s : State) (b : Fin 4) (o : OnBus) (f : SelectFrame) (r : Nat), s.resetInput = false → r < 32 →
    (s.bus b.val).cur = some o → o.robot = r → o.tx.req = .select f →
    ((s.robot r).motion = .idle →
      ∃ t, exec (.ack b o.drop) s = .next t ∧
        t.pendOf r = { s.pendOf r with
          abort := some ⟨.abort, .abort f.slot (s.robot r).dispatch true, s.line.replyTimeout, s.line.retryLimit⟩ } ∧
        (∀ q, q ≠ r → t.pendOf q = s.pendOf q) ∧ t.bus b.val = { s.bus b.val with cur := none } ∧
        (∀ c, c ≠ b.val → t.bus c = s.bus c) ∧ t = { s with pend := t.pend, buses := t.buses }) ∧
    ((∀ sel, (s.robot r).motion ≠ .selecting sel) →
      (∀ i, i = .ack b o.drop ∧ (s.robot r).motion ≠ .idle ∨ i = .nakBusy b o.drop ∨
          i = .nakSlot b o.drop ∧ (∀ n stamp, ((s.robot r).slot f.slot).content ≠ .valid n stamp) →
        ∃ t, exec i s = .next t ∧ t.bus b.val = { s.bus b.val with cur := none } ∧
          (∀ c, c ≠ b.val → t.bus c = s.bus c) ∧ t = { s with buses := t.buses }) ∧
      ∀ n stamp, ((s.robot r).slot f.slot).content = .valid n stamp →
        ∃ t, exec (.nakSlot b o.drop) s = .next t ∧
          t.robot r = { s.robot r with
            slots := tset (s.robot r).slots f.slot ⟨.invalid n stamp, ((s.robot r).slot f.slot).lastUse⟩ } ∧
          (∀ q, q ≠ r → t.robot q = s.robot q) ∧ t.bus b.val = { s.bus b.val with cur := none } ∧
          (∀ c, c ≠ b.val → t.bus c = s.bus c) ∧
          t = { s with robots := t.robots, buses := t.buses, due := s.due ++ [.recompute r, .selection r] })) ∧
  ∀ (s : State) (b : Fin 4) (o : OnBus) (f : SelectFrame) (sel : Selection) (r i : Nat), s.resetInput = false → r < 32 →
    i < 16 → (s.bus b.val).cur = some o → o.robot = r → o.tx.req = .select f → (s.robot r).motion = .selecting sel →
    sel.slot = f.slot → s.stationOf r = some i →
    (∀ items k, (s.station i).state = .arrived → (s.station i).body = some k → k = sel.key →
      (s.station i).work = some items → (∀ w ∈ items, w.comp = .owed ↔ w.robot = r) → (∃ w ∈ items, w.robot = r) →
      ∃ t, exec (.ack b o.drop) s = .next t ∧ ∃ uses, uses = min 4294967295 ((s.robot r).uses + 1) ∧
        t.robot r = { s.robot r with
          motion := .selected sel, busy := none, uses := uses, pollTimer := 0
          slots := tset (s.robot r).slots f.slot ⟨((s.robot r).slot f.slot).content, uses⟩ } ∧
        (∀ q, q ≠ r → t.robot q = s.robot q) ∧ t.station i = { s.station i with state := .welding } ∧
        (∀ j, j ≠ i → t.station j = s.station j) ∧ t.bus b.val = { s.bus b.val with cur := none } ∧
        (∀ c, c ≠ b.val → t.bus c = s.bus c) ∧
        (∀ d, d ∈ t.due ↔ d ∈ s.due ∨ d = .recompute r ∨ ∃ q ∈ s.robotsAt i, d = .recompute q) ∧
        t = { s with robots := t.robots, stations := t.stations, buses := t.buses, due := t.due }) ∧
    (∀ n stamp, ((s.robot r).slot f.slot).content = .valid n stamp → (s.robot r).enabled = true →
      ∃ t, exec (.nakSlot b o.drop) s = .next t ∧
        t.robot r = { s.robot r with
          motion := .idle, busy := none, pollTimer := 0
          slots := tset (s.robot r).slots f.slot ⟨.invalid n stamp, ((s.robot r).slot f.slot).lastUse⟩ } ∧
        (∀ q, q ≠ r → t.robot q = s.robot q) ∧ t.bus b.val = { s.bus b.val with cur := none } ∧
        (∀ c, c ≠ b.val → t.bus c = s.bus c) ∧
        (∀ e, e ∈ t.due ↔ e ∈ s.due ∨ e = .recompute r ∨ e = .selection r) ∧
        t = { s with robots := t.robots, buses := t.buses, due := t.due }) ∧
    (∃ t, exec (.nakBusy b o.drop) s = .next t ∧ t.robot r = { s.robot r with busy := some ⟨f, 0⟩ } ∧
      (∀ q, q ≠ r → t.robot q = s.robot q) ∧ t.bus b.val = { s.bus b.val with cur := none } ∧
      (∀ c, c ≠ b.val → t.bus c = s.bus c) ∧ t = { s with robots := t.robots, buses := t.buses })

/-- An ABORTED taken for the live ABORT of an enabled ABORTING robot counts its welds in W and total welds, writes them to the
aborted body's record where the body was taken at no other station since, returns the robot to IDLE and ends its part in the
station that is CLEARING for it, which becomes EMPTY when no other abort is awaited (R56, R115, R156). The slot and the
dispatch number of the reply need only be in range, and need not be those of the ABORT sent (log entry 13, DEDUCED). When the
welds reach the body is log entry 16, what the answer of a live ABORT does log entry 14. -/
def Obligations.AbortedEndsTheAbort : Prop :=
  ∀ (s : State) (b : Fin 4) (o : OnBus) (r slot slot' dispatch dispatch' welds : Nat) (sel : Selection),
    s.resetInput = false → r < 32 → (s.bus b.val).cur = some o → o.robot = r → o.tx.req = .abort slot dispatch false →
    slot' < s.slotCount r → dispatch' ≤ 7 → welds ≤ 256 → (s.robot r).motion = .aborting sel → (s.robot r).enabled = true →
    ∃ t, exec (.aborted b o.drop slot' dispatch' welds) s = .next t ∧
      t.robot r = { s.robot r with
        motion := .idle, busy := none, pollTimer := 0
        wear := min 65535 ((s.robot r).wear + welds)
        totalWelds := ((s.robot r).totalWelds + welds) % 4294967296 } ∧
      (∀ q, q ≠ r → t.robot q = s.robot q) ∧ t.pendOf r = { s.pendOf r with abort := none } ∧
      (∀ q, q ≠ r → t.pendOf q = s.pendOf q) ∧
      (∀ j, j < 16 → t.station j =
        if (s.station j).state = .clearing ∧ r ∈ (s.station j).abortWait then
          { s.station j with
            abortWait := (s.station j).abortWait.filter (· != r)
            state := if (s.station j).abortWait.filter (· != r) = [] then .empty else .clearing }
        else s.station j) ∧
      (∀ x, s.bodyOf sel.key = some x → t.bodyOf sel.key = some
        (if x.stay = sel.stay then { x with welds := tset x.welds r (some welds) } else x)) ∧
      (∀ k, k ≠ sel.key → t.bodyOf k = s.bodyOf k) ∧ t.bus b.val = { s.bus b.val with cur := none } ∧
      (∀ c, c ≠ b.val → t.bus c = s.bus c) ∧
      (∀ e, e ∈ t.due ↔ e ∈ s.due ∨ e = .recompute r ∨ e = .selection r) ∧
      t = { s with robots := t.robots, pend := t.pend, stations := t.stations, bodies := t.bodies, buses := t.buses,
                   due := t.due }

/-- A STATUS reply to a poll. A matching DONE counts its welds, writes them to the body and makes an enabled robot IDLE. With no
weld faults its component is DONE, and a WELDING station where it was the last OWED one becomes COMPLETE with the result WELDED
and STATION COMPLETE raised; with weld faults its component stays OWED and the station enters FAULT with WELD FAULTS. A FAULT
report of a SELECTED or WELDING robot ends its selection with no welds counted, and the station enters FAULT with ROBOT FAULT.
A station in FAULT keeps its first cause. WELDING or DRESSING with the echo matching makes a SELECTED robot WELDING; a stale
DONE, any other report, and any taken while SELECTING, IDLE, or, but for a DONE, ABORTING changes nothing of the cycle. After
each, a changed dress counter makes W 0, clears dress due and raises DRESS DONE, and the fault code is stored, raising ROBOT
FAULT where it is new, or removed, which owes a selection attempt and begins no load of a program that is not READY (R89). A
reply from an OFFLINE robot puts it ONLINE with a SLOT QUERY queued, and the cycle it reports changes nothing (R45, R53, R109,
R115, R116, R119, R128, R151 to R154, R156, R165, R166). Which numbers of the reply are in range is log entry 13; that a removed
code begins no load for a head job whose program has lost its stamp is log entry 27; the order of the events owed is log entry
1. -/
def Obligations.StatusReplyReportsTheCycle : Prop :=
  ∀ (s : State) (b : Fin 4) (o : OnBus) (x : StatusRecord) (r : Nat), s.resetInput = false → r < 32 →
    (s.bus b.val).cur = some o → o.robot = r → o.tx.req = .poll → State.inRange x →
    (∀ (i : Nat) (sel : Selection), i < 16 → (s.robot r).online = true → (s.robot r).enabled = true →
      ((s.robot r).motion = .selected sel ∨ (s.robot r).motion = .welding sel) → s.stationOf r = some i →
      (s.station i).body = some sel.key →
      (∀ (y : Body) (counted : Robot), s.bodyOf sel.key = some y → (s.robot r).fault = none ∨ (s.stage r).jobs = [] →
        x.state = 3 → x.echo = (s.robot r).dispatch → x.tag = sel.tag →
        counted = { s.robot r with
          motion := .idle, busy := none
          wear := min 65535 ((s.robot r).wear + x.welds)
          totalWelds := ((s.robot r).totalWelds + x.welds) % 4294967296 } →
        (∀ items, x.weldFaults = 0 → (s.station i).state = .welding → (s.station i).work = some items →
          (∀ w ∈ items, w.comp = .owed ↔ w.robot = r) → (∃ w ∈ items, w.robot = r) →
          ∃ t, exec (.statusReply b o.drop x) s = .next t ∧ t.robot r = State.withReport counted (s.dressed r x) x ∧
            (∀ q, q ≠ r → t.robot q = s.robot q) ∧
            t.bodyOf sel.key = some { y with
              welds := tset y.welds r (some x.welds), results := tset y.results i .welded } ∧
            (∀ k, k ≠ sel.key → t.bodyOf k = s.bodyOf k) ∧
            t.station i = { s.station i with
              state := .complete, running := false, lastCycle := (s.station i).watch, cause := none
              work := some (items.map fun w => if w.robot = r then { w with comp := .done } else w) } ∧
            (∀ j, j ≠ i → t.station j = s.station j) ∧ t.bus b.val = { s.bus b.val with cur := none } ∧
            (∀ c, c ≠ b.val → t.bus c = s.bus c) ∧
            t = { s with robots := t.robots, bodies := t.bodies, stations := t.stations, buses := t.buses
                         due := s.due ++ [.recompute r, .selection r] ++
                           if (s.robot r).fault = none then [] else [.selection r]
                         attention := (s.withReportRaised (s.raise .stationComplete i) r x).attention }) ∧
        (x.weldFaults ≠ 0 →
          ∃ t, exec (.statusReply b o.drop x) s = .next t ∧ t.robot r = State.withReport counted (s.dressed r x) x ∧
            (∀ q, q ≠ r → t.robot q = s.robot q) ∧
            t.bodyOf sel.key = some { y with welds := tset y.welds r (some x.welds) } ∧
            (∀ k, k ≠ sel.key → t.bodyOf k = s.bodyOf k) ∧
            t.station i = (if (s.station i).state = .fault then s.station i
              else { s.station i with state := .fault, cause := some .weldFaults }) ∧
            (∀ j, j ≠ i → t.station j = s.station j) ∧ t.bus b.val = { s.bus b.val with cur := none } ∧
            (∀ c, c ≠ b.val → t.bus c = s.bus c) ∧
            (∀ d, d ∈ t.due ↔ d ∈ s.due ∨ d = .recompute r ∨ d = .selection r ∨
              (s.station i).state = .arrived ∧ ∃ q ∈ s.robotsAt i, d = .recompute q) ∧
            t = { s with robots := t.robots, bodies := t.bodies, stations := t.stations, buses := t.buses, due := t.due
                         attention := (s.withReportRaised
                           (if (s.station i).state = .fault then s else s.raise .stationFault i) r x).attention })) ∧
      (x.state = 4 →
        ∃ t, exec (.statusReply b o.drop x) s = .next t ∧
          t.robot r = State.withReport { s.robot r with motion := .idle, busy := none } (s.dressed r x) x ∧
          (∀ q, q ≠ r → t.robot q = s.robot q) ∧
          t.station i = (if (s.station i).state = .fault then s.station i
            else { s.station i with state := .fault, cause := some .robotFault }) ∧
          (∀ j, j ≠ i → t.station j = s.station j) ∧ t.bus b.val = { s.bus b.val with cur := none } ∧
          (∀ c, c ≠ b.val → t.bus c = s.bus c) ∧
          (∀ d, d ∈ t.due ↔ d ∈ s.due ∨ d = .recompute r ∨ d = .selection r ∨
            (s.station i).state = .arrived ∧ ∃ q ∈ s.robotsAt i, d = .recompute q) ∧
          t = { s with robots := t.robots, stations := t.stations, buses := t.buses, due := t.due
                       attention := (s.withReportRaised
                         (if (s.station i).state = .fault then s else s.raise .stationFault i) r x).attention })) ∧
    ((s.robot r).online = true →
      ((s.robot r).motion = .idle ∨ (∃ sel, (s.robot r).motion = .selecting sel) ∨
        (∃ sel, (s.robot r).motion = .aborting sel) ∧ x.state ≠ 3 ∨
        ∃ sel, ((s.robot r).motion = .selected sel ∨ (s.robot r).motion = .welding sel) ∧
          (x.state = 3 ∧ (x.echo ≠ (s.robot r).dispatch ∨ x.tag ≠ sel.tag) ∨ x.state ≤ 1 ∨
            (x.state = 2 ∨ x.state = 5) ∧ ((s.robot r).motion = .welding sel ∨ x.echo ≠ (s.robot r).dispatch))) →
      ((s.robot r).fault = none ∨ x.state = 4 ∨ (s.stage r).jobs = [] ∨
        ∃ j rest, (s.stage r).jobs = j :: rest ∧ ∀ d, (s.prog j.program).state ≠ .ready j.stamp d) →
      ∃ t, exec (.statusReply b o.drop x) s = .next t ∧ t.robot r = State.withReport (s.robot r) (s.dressed r x) x ∧
        (∀ q, q ≠ r → t.robot q = s.robot q) ∧ t.bus b.val = { s.bus b.val with cur := none } ∧
        (∀ c, c ≠ b.val → t.bus c = s.bus c) ∧
        t = { s with robots := t.robots, buses := t.buses
                     due := s.due ++ if (s.robot r).fault = none ∨ x.state = 4 then [] else [.selection r]
                     attention := (s.withReportRaised s r x).attention }) ∧
    (∀ sel, (s.robot r).online = true → (s.robot r).motion = .selected sel → x.state = 2 ∨ x.state = 5 →
      x.echo = (s.robot r).dispatch → (s.robot r).fault = none ∨ (s.stage r).jobs = [] →
      ∃ t, exec (.statusReply b o.drop x) s = .next t ∧
        t.robot r = State.withReport { s.robot r with motion := .welding sel } (s.dressed r x) x ∧
        (∀ q, q ≠ r → t.robot q = s.robot q) ∧ t.bus b.val = { s.bus b.val with cur := none } ∧
        (∀ c, c ≠ b.val → t.bus c = s.bus c) ∧
        t = { s with robots := t.robots, buses := t.buses
                     due := s.due ++ [.recompute r] ++ if (s.robot r).fault = none then [] else [.selection r]
                     attention := (s.withReportRaised s r x).attention }) ∧
    ((s.robot r).online = false → ((s.robot r).fault = none ∨ x.state = 4 ∨ (s.stage r).jobs = []) →
      ∃ t, exec (.statusReply b o.drop x) s = .next t ∧
        t.robot r = { State.withReport (s.robot r) (s.dressed r x) x with online := true } ∧
        (∀ q, q ≠ r → t.robot q = s.robot q) ∧
        t.pendOf r = { s.pendOf r with
          query := some ⟨.query, .slotQuery (s.slotCount r), s.line.replyTimeout, s.line.retryLimit⟩ } ∧
        (∀ q, q ≠ r → t.pendOf q = s.pendOf q) ∧ t.bus b.val = { s.bus b.val with cur := none } ∧
        (∀ c, c ≠ b.val → t.bus c = s.bus c) ∧
        t = { s with robots := t.robots, pend := t.pend, buses := t.buses
                     due := s.due ++ (if (s.robot r).fault = none ∨ x.state = 4 then [] else [.selection r]) ++
                       [.recompute r, .selection r]
                     attention := (s.withReportRaised s r x).attention })

/-! ### Drop buses and loads (Chapters 8 and 10) -/

/-- The arbiter of an IDLE bus with something eligible sends, once, a transaction of the highest class that holds one, of the
robot at the first drop address after that class's pointer, and sets the pointer to it; with nothing eligible nothing changes.
A transaction is eligible where its robot stands on the bus and it is the robot's pending one of its class, but for a LOAD DATA
on a PACED bus whose pace timer has not reached the pace interval (R164, R167, R168). That the wait for the reply counts from
the sending is log entry 18. -/
def Obligations.ArbiterServesHighestClassInTurn : Prop :=
  (∀ (s : State) (b : Fin 4) (c : TxClass) (r drop : Nat) (tx : Tx), s.eligibleTx b c r = some (drop, tx) ↔
    (∃ p, s.place r = some p ∧ p.bus = b ∧ p.drop = drop) ∧
      (c = .abort ∧ (s.pendOf r).abort = some tx ∨ c = .select ∧ (s.pendOf r).select = some tx ∨
        c = .poll ∧ (s.pendOf r).poll = some tx ∨ c = .query ∧ (s.pendOf r).query = some tx ∨
        c = .load ∧ (s.stage r).channel.head? = some tx) ∧
      ((∃ seq slot first points, tx.req = .loadData seq slot first points) → (s.busRec b.val).pacing = .paced →
        (s.busRec b.val).interval ≤ (s.bus b.val).pace)) ∧
  ∀ (s : State) (b : Fin 4), s.resetInput = false → (s.bus b.val).cur = none → s.pendInv →
    (∀ r p, s.place r = some p → p.drop < 8) →
    ((∀ c r, s.eligibleTx b c r = none) → exec (.arbiterChoice b) s = .next s) ∧
    ((∃ c r, s.eligibleTx b c r ≠ none) →
      ∃ t, exec (.arbiterChoice b) s = .next t ∧ ∃ o, (t.bus b.val).cur = some o ∧ o.sendings = 1 ∧ o.waited = 0 ∧
        s.eligibleTx b o.tx.cls o.robot = some (o.drop, o.tx) ∧
        (∀ c r, State.classIndex c < State.classIndex o.tx.cls → s.eligibleTx b c r = none) ∧
        (∀ r drop tx, s.eligibleTx b o.tx.cls r = some (drop, tx) →
          (o.drop + 7 - (tget 7 (s.bus b.val).pointers (State.classIndex o.tx.cls)) % 8) % 8 ≤
            (drop + 7 - (tget 7 (s.bus b.val).pointers (State.classIndex o.tx.cls)) % 8) % 8) ∧
        t.bus b.val = ⟨some o, tset (s.bus b.val).pointers (State.classIndex o.tx.cls) o.drop,
          if State.isLoadData o.tx.req then 0 else (s.bus b.val).pace⟩ ∧
        (∀ c, c ≠ b.val → t.bus c = s.bus c) ∧
        (∀ c, c ≠ o.tx.cls → t.pendingTx o.robot c = s.pendingTx o.robot c) ∧
        (o.tx.cls ≠ .load → t.pendingTx o.robot o.tx.cls = none) ∧
        (o.tx.cls = .load → (t.stage o.robot).channel = (s.stage o.robot).channel.tail) ∧
        (∀ r, r ≠ o.robot → t.pendOf r = s.pendOf r ∧ t.stage r = s.stage r) ∧
        t = { s with buses := t.buses, pend := t.pend, staging := t.staging })

/-- A sending without reply, by the timeout or by an invalid reply, is sent again while sendings are left. After the last, a
probe ends with no effect, and any other transaction, a SLOT QUERY among them, puts its robot OFFLINE: every slot is UNKNOWN,
the fault code is removed, its pending transactions and its load channel are emptied, and ROBOT OFFLINE is raised. An active
load ends, its program losing the reference and the job list staying, no job active. The robot is IDLE: the station of a
SELECTED or WELDING one enters FAULT with ROBOT LOST where it records the body selected, and keeps its first cause in FAULT; a
SELECTING one leaves its station as it was; an ABORTING one leaves the abort wait of the station that is CLEARING for it, which
becomes EMPTY when no other abort is awaited (R45, R56, R110, R111, R128, R135, R141, R161 to R163). The robot is enabled, or
IDLE already. REPLY TIMEOUT acts whatever count the wait has reached (log entry 3, DESIGN CHOICE). -/
def Obligations.NoReplyRetriesThenLosesTheRobot : Prop :=
  ∀ (s : State) (b : Fin 4) (o : OnBus) (i : Instr), s.resetInput = false → i = .replyTimeout b ∨ i = .invalidReply b →
    (s.bus b.val).cur = some o → o.robot < 32 →
    (o.sendings ≤ o.tx.retries →
      ∃ t, exec i s = .next t ∧
        t.bus b.val = { s.bus b.val with
          cur := some { o with sendings := o.sendings + 1, waited := 0 }
          pace := if State.isLoadData o.tx.req then 0 else (s.bus b.val).pace } ∧
        (∀ c, c ≠ b.val → t.bus c = s.bus c) ∧ t = { s with buses := t.buses }) ∧
    (o.tx.retries < o.sendings → o.tx.cls = .query → o.tx.req = .poll →
      ∃ t, exec i s = .next t ∧ t.bus b.val = { s.bus b.val with cur := none } ∧
        (∀ c, c ≠ b.val → t.bus c = s.bus c) ∧ t.robot o.robot = { s.robot o.robot with pollTimer := 0 } ∧
        (∀ q, q ≠ o.robot → t.robot q = s.robot q) ∧ t = { s with buses := t.buses, robots := t.robots }) ∧
    (∀ lost : Option Nat, o.tx.retries < o.sendings → o.tx.cls ≠ .query ∨ o.tx.req ≠ .poll →
      (s.robot o.robot).enabled = true ∨ (s.robot o.robot).motion = .idle →
      (∀ c y, c ≠ b.val → (s.bus c).cur = some y → y.robot ≠ o.robot) →
      (∀ j, lost = some j ↔ s.stationOf o.robot = some j ∧ (s.station j).state ≠ .fault ∧ ∃ sel,
        ((s.robot o.robot).motion = .selected sel ∨ (s.robot o.robot).motion = .welding sel) ∧
          (s.station j).body = some sel.key) →
      ∃ t, exec i s = .next t ∧
        t.robot o.robot = { s.robot o.robot with
          online := false, motion := .idle, slots := .replicate 8 ⟨.unknown, 0⟩, fault := none, busy := none
          pollTimer := 0 } ∧
        (∀ q, q ≠ o.robot → t.robot q = s.robot q) ∧ t.pendOf o.robot = ⟨none, none, none, none⟩ ∧
        (∀ q, q ≠ o.robot → t.pendOf q = s.pendOf q) ∧
        t.stage o.robot = { s.stage o.robot with
          channel := [], blocked := false, load := none
          jobs := if (s.stage o.robot).load = none then (s.stage o.robot).jobs
            else (s.stage o.robot).jobs.map fun j => { j with active := false } } ∧
        (∀ q, q ≠ o.robot → t.stage q = s.stage q) ∧
        (∀ n, t.prog n = { s.prog n with
          refs := (s.prog n).refs - if (s.stage o.robot).load.map (·.program) = some n then 1 else 0 }) ∧
        (∀ j, j < 16 → t.station j =
          if lost = some j then { s.station j with state := .fault, cause := some .robotLost }
          else if (s.robot o.robot).motion.name = .aborting ∧ (s.station j).state = .clearing ∧
              o.robot ∈ (s.station j).abortWait then
            { s.station j with
              abortWait := (s.station j).abortWait.filter (· != o.robot)
              state := if (s.station j).abortWait.filter (· != o.robot) = [] then .empty else .clearing }
          else s.station j) ∧
        t.bus b.val = { s.bus b.val with cur := none } ∧ (∀ c, c ≠ b.val → t.bus c = s.bus c) ∧
        (∀ d, d ∈ t.due ↔ d ∈ s.due ∨ d = .recompute o.robot ∨ d = .selection o.robot ∨
          ∃ j, lost = some j ∧ (s.station j).state = .arrived ∧ ∃ q ∈ s.robotsAt j, d = .recompute q) ∧
        t = { s with robots := t.robots, pend := t.pend, staging := t.staging, buses := t.buses, stations := t.stations
                     library := { s.library with progs := t.library.progs }, due := t.due
                     attention := ((lost.elim s fun j => s.raise .stationFault j).raise .robotOffline o.robot).attention })

/-- A SLOT REPORT classifies each slot that is still UNKNOWN: EMPTY, VALID where the library's READY program carries the
reported stamp, and otherwise STALE; every other slot keeps its state (R114). Which replies are in form is log entry 13,
the order of the events owed log entry 1. -/
def Obligations.SlotReportClassifiesUnknownSlots : Prop :=
  ∀ (s : State) (b : Fin 4) (o : OnBus) (n r : Nat) (records : List SlotRecord), s.resetInput = false → r < 32 →
    (s.bus b.val).cur = some o → o.robot = r → o.tx.req = .slotQuery n → records.length = s.slotCount r →
    ∃ t, exec (.slotReport b o.drop records) s = .next t ∧
      (∀ i x, records[i]? = some x → (t.robot r).slot i =
        if ((s.robot r).slot i).content = .unknown then
          (if x.program = 0xFFFF#16 then ⟨.empty, 0⟩
          else ⟨if (s.ready x.program.toNat).map (·.1) = some x.stamp then .valid x.program.toNat x.stamp
            else .stale x.program.toNat x.stamp, ((s.robot r).slot i).lastUse⟩)
        else (s.robot r).slot i) ∧
      (∀ i, records.length ≤ i → (t.robot r).slot i = (s.robot r).slot i) ∧
      t.robot r = { s.robot r with slots := (t.robot r).slots } ∧ (∀ q, q ≠ r → t.robot q = s.robot q) ∧
      t.bus b.val = { s.bus b.val with cur := none } ∧ (∀ c, c ≠ b.val → t.bus c = s.bus c) ∧
      t = { s with robots := t.robots, buses := t.buses, due := s.due ++ [.recompute r, .selection r] }

/-- The LOAD ACK of a LOAD OPEN or a LOAD DATA of the active load advances it: the next 16 or fewer points go out as LOAD
DATA, or LOAD CLOSE when none remain; one for an ended load changes nothing but the bus (R135, R136, R140). A load is known by
the model's own number (log entry 8); which slot numbers are in range is log entry 13; that a load transaction takes its timeout
and retry limit as it enters the channel is log entry 12. -/
def Obligations.LoadAckStreamsTheProgram : Prop :=
  ∀ (s : State) (b : Fin 4) (o : OnBus) (slot r q : Nat), s.resetInput = false → r < 32 → (s.bus b.val).cur = some o →
    o.robot = r → slot < s.slotCount r →
    (∀ (l : Load) (stamp : Word) (d : ProgData) (next : Nat), (s.stage r).load = some l → q = l.seq →
      (s.prog l.program).state = .ready stamp d →
      ((∃ sl n st c, o.tx.req = .loadOpen q sl n st c ∧ next = 0) ∨
        ∃ sl first points, o.tx.req = .loadData q sl first points ∧ next = l.next + points.length) →
      ∃ t, exec (.loadAck b o.drop slot) s = .next t ∧ ∃ req phase,
        (next < l.count ∧ phase = .streaming ∧ req = .loadData q l.slot next
            ((List.range (min 16 (l.count - next))).map fun j => s.pointAt d.blocks (next + j)) ∨
          l.count ≤ next ∧ phase = .closing ∧ req = .loadClose q l.slot) ∧
        t.stage r = { s.stage r with
          load := some { l with phase := phase, next := next }
          channel := (s.stage r).channel ++ [⟨.load, req, s.line.replyTimeout, s.line.retryLimit⟩] } ∧
        (∀ p, p ≠ r → t.stage p = s.stage p) ∧ t.bus b.val = { s.bus b.val with cur := none } ∧
        (∀ c, c ≠ b.val → t.bus c = s.bus c) ∧ t = { s with staging := t.staging, buses := t.buses }) ∧
    ((∀ l, (s.stage r).load = some l → l.seq ≠ q) →
      ((∃ sl n st c, o.tx.req = .loadOpen q sl n st c) ∨ ∃ sl first points, o.tx.req = .loadData q sl first points) →
      ∃ t, exec (.loadAck b o.drop slot) s = .next t ∧ t.bus b.val = { s.bus b.val with cur := none } ∧
        (∀ c, c ≠ b.val → t.bus c = s.bus c) ∧ t = { s with buses := t.buses })

/-- A LOAD CHECK REPLY that agrees with the program's check ends the load: the slot is VALID, the job is removed, the program
loses the load's reference and LOAD DONE is raised. One that differs leaves the slot INVALID and uses an attempt; the last
attempt gives the robot the fault code LOAD CHECK, with ROBOT FAULT raised, and sets the attempts back to 0 (R137, R138,
R141). Which slot numbers are in range is log entry 13, the order of the events owed log entry 1. -/
def Obligations.LoadCheckReplyEndsTheLoad : Prop :=
  ∀ (s : State) (b : Fin 4) (o : OnBus) (slot slot' r : Nat) (check stamp : Word) (l : Load) (d : ProgData) (j : Job),
    s.resetInput = false → r < 32 → (s.bus b.val).cur = some o → o.robot = r → o.tx.req = .loadClose l.seq slot' →
    slot < s.slotCount r → (s.stage r).load = some l → (s.stage r).jobs = [j] → j.active = true →
    j.program = l.program → (s.prog l.program).state = .ready stamp d →
    ∃ t, exec (.loadCheckReply b o.drop slot check) s = .next t ∧
      t.prog l.program = { s.prog l.program with refs := (s.prog l.program).refs - 1 } ∧
      (∀ m, m ≠ l.program → t.prog m = s.prog m) ∧ t.library = { s.library with progs := t.library.progs } ∧
      (∀ p, p ≠ r → t.stage p = s.stage p ∧ t.robot p = s.robot p) ∧
      t.bus b.val = { s.bus b.val with cur := none } ∧ (∀ c, c ≠ b.val → t.bus c = s.bus c) ∧
      (check = d.check →
        t.stage r = { s.stage r with load := none, jobs := [] } ∧
        t.robot r = { s.robot r with
          slots := tset (s.robot r).slots l.slot ⟨.valid l.program l.stamp, ((s.robot r).slot l.slot).lastUse⟩ } ∧
        t.attention = (s.raise .loadDone r).attention) ∧
      (check ≠ d.check →
        t.stage r = { s.stage r with load := none, jobs := [{ j with active := false
                                                                     attempts := if s.line.checkAttempts ≤ j.attempts + 1
                                                                       then 0 else j.attempts + 1 }] } ∧
        t.robot r = { s.robot r with
          fault := if s.line.checkAttempts ≤ j.attempts + 1 then some .loadCheck else (s.robot r).fault
          slots := tset (s.robot r).slots l.slot ⟨.invalid l.program l.stamp, ((s.robot r).slot l.slot).lastUse⟩ } ∧
        t.attention =
          (if s.line.checkAttempts ≤ j.attempts + 1 then s.raise .robotFault r else s).attention) ∧
      t = { s with staging := t.staging, robots := t.robots, library := t.library, attention := t.attention, buses := t.buses,
                   due := s.due ++ [.recompute r, .selection r] }

/-! ### Modes, layout and reset (Chapter 12) -/

/-- LAYOUT WRITE is refused with MODE in RUN. In SETUP a request with a record out of the ranges of 12.2, of a kind or with an
index that does not exist, is refused with RANGE, and no record of it is written, those ahead of the faulty one neither. A
request in range replaces the records it carries. STATION and BUS records change nothing else. A PORT threshold below E sets E
to it, with the port DEGRADED and LINK DEGRADED raised where it was not. A LINE record that changes L empties the ring, which
is judged by the low mark; one that changes M or N clears the style entries above the new active table, with their namings; one
that changes S puts every station in its power-on state. A ROBOT record newly present gives the context its power-on link
state, motion and slots; removing a robot, or changing its bus, drop or slot count, makes it OFFLINE without ROBOT OFFLINE, as
does a record that gives another robot its address; one that changes the station alone keeps the robot (R11, R20, R27, R65,
R108, R110, R125, R163, R169, R174, R183, R184). The numbers of kinds and fields are the model's (log entry 4), a record
written absent keeps the other four fields (log entry 6), by which low mark the emptied ring is judged is log entry 10, and the order of the events owed is log entry 1. -/
def Obligations.LayoutWriteReplacesItsRecords : Prop :=
  ∀ (s : State) (h : Hdr) (ok : RawRecord → Prop), s.takes h .library →
    (∀ x, ok x ↔ match x with
      | .line r => (1 ≤ r.stations ∧ r.stations ≤ 16) ∧ r.m ≤ 8 ∧ r.n ≤ 8 ∧
          (r.ringLength = 64 ∨ r.ringLength = 128 ∨ r.ringLength = 256) ∧ r.lowMark ≤ 255 ∧ (1 ≤ r.lead ∧ r.lead ≤ 8) ∧
          r.policy ≠ none ∧ (1 ≤ r.depth ∧ r.depth ≤ 3) ∧ (1 ≤ r.checkAttempts ∧ r.checkAttempts ≤ 8) ∧ r.rounding ≠ none ∧
          (5 ≤ r.replyTimeout ∧ r.replyTimeout ≤ 250) ∧ r.retryLimit ≤ 3 ∧ (10 ≤ r.pollInterval ∧ r.pollInterval ≤ 1000) ∧
          100 ≤ r.probeInterval ∧ r.probeInterval ≤ 5000
      | .station i r => i < 16 ∧ r.zone ≤ 3 ∧ r.source ≠ none ∧ (10 ≤ r.budget ∧ r.budget ≤ 60000) ∧ r.filter ≤ 250 ∧
          r.sense ≠ none ∧ 50 ≤ r.confirm ∧ r.confirm ≤ 5000
      | .robot i .absent => i < 32
      | .robot i (.present r) => i < 32 ∧ r.bus ≤ 3 ∧ r.drop ≤ 7 ∧ r.station ≤ 15 ∧ 2 ≤ r.slots ∧ r.slots ≤ 8
      | .robot _ .unlisted => False
      | .bus i r => i < 4 ∧ r.pacing ≠ none ∧ 1 ≤ r.interval ∧ r.interval ≤ 250
      | .port i threshold => i < 4 ∧ 1 ≤ threshold ∧ threshold ≤ 254
      | .other _ _ => False) →
    (∀ records, s.mode = .run →
      ∃ t, exec (.layoutWrite h records) s = .next t ∧ State.answered h 0x3A .mode .nothing s t ∧
        t = { s with ports := t.ports }) ∧
    (∀ (pre post : List RawRecord) (bad : RawRecord), s.mode = .setup → (∀ x ∈ pre, ok x) → ¬ ok bad →
      ∃ t, exec (.layoutWrite h (pre ++ bad :: post)) s = .next t ∧
        (∃ kind index field, State.answered h 0x3A .range (.layoutFault kind index field) s t ∧
          (∀ r, bad = .line r → kind = 0 ∧ index = 0) ∧ (∀ i r, bad = .station i r → kind = 1 ∧ index = i) ∧
          (∀ i r, bad = .robot i r → kind = 2 ∧ index = i) ∧ (∀ i r, bad = .bus i r → kind = 3 ∧ index = i) ∧
          (∀ i n, bad = .port i n → kind = 4 ∧ index = i ∧ (i < 4 → field = 0)) ∧
          ∀ k i, bad = .other k i → kind = k ∧ index = i) ∧
        t = { s with ports := t.ports }) ∧
    (s.mode = .setup → s.portsInv →
      (∀ r q p p', s.place r = some p → s.place q = some p' → r ≠ q → p.bus ≠ p'.bus ∨ p.drop ≠ p'.drop) →
      (∀ (i b : Nat) (x : StationRec) (y : BusRec),
        ok (.station i ⟨x.zone, some x.source, x.budget, x.filter, some x.sense, x.confirm⟩) →
        ok (.bus b ⟨some y.pacing, y.interval⟩) →
        ∃ t, exec (.layoutWrite h [.station i ⟨x.zone, some x.source, x.budget, x.filter, some x.sense, x.confirm⟩,
              .bus b ⟨some y.pacing, y.interval⟩]) s = .next t ∧
          State.answered h 0x3A .done (.written 2) s t ∧
          t.stationRec i = x ∧ (∀ j, j ≠ i → t.stationRec j = s.stationRec j) ∧
          t.busRec b = y ∧ (∀ c, c ≠ b → t.busRec c = s.busRec c) ∧
          t = { s with ports := t.ports,
                       layout := { s.layout with stations := t.layout.stations, buses := t.layout.buses } }) ∧
      (∀ p threshold, p < 4 → p ≠ h.port.val → 1 ≤ threshold → threshold ≤ 254 →
        ∃ t, exec (.layoutWrite h [.port p threshold]) s = .next t ∧ t.threshold p = threshold ∧
          (∀ q, q ≠ p → t.threshold q = s.threshold q) ∧
          t.port p = (if threshold < (s.port p).errors then { s.port p with errors := threshold, degraded := true }
            else s.port p) ∧
          t.attention = (if threshold < (s.port p).errors ∧ (s.port p).degraded = false then s.raise .linkDegraded p
            else s).attention ∧
          t = { s with ports := t.ports, layout := { s.layout with thresholds := t.layout.thresholds },
                       attention := t.attention }) ∧
      (∀ (x : LineRec) (raw : RawLine), raw = ⟨x.stations, x.m, x.n, x.ringLength, x.lowMark, x.lead, some x.policy, x.depth,
          x.checkAttempts, some x.rounding, x.replyTimeout, x.retryLimit, x.pollInterval, x.probeInterval⟩ →
        ok (.line raw) →
        ∃ t, exec (.layoutWrite h [.line raw]) s = .next t ∧ State.answered h 0x3A .done (.written 1) s t ∧
          t.ring = (if x.ringLength = s.line.ringLength then s.ring
            else { s.ring with read := 0, write := 0, loop := none, stalled := false }) ∧
          t.attention = (if x.ringLength ≠ s.line.ringLength ∧ x.lowMark < s.ringCount then s.raise .ringLow 0
            else s).attention ∧
          (∀ i, i < 256 → t.style i =
            if (x.m ≠ s.line.m ∨ x.n ≠ s.line.n) ∧ min 256 (2 ^ (x.m + x.n)) ≤ i then ⟨.unknown, none⟩ else s.style i) ∧
          (∀ k, k < 128 → t.dispatchSet k = { s.dispatchSet k with
            inUse := (s.dispatchSet k).inUse - if x.m = s.line.m ∧ x.n = s.line.n then 0 else
              (((List.range 256).filter fun i => min 256 (2 ^ (x.m + x.n)) ≤ i).map fun i =>
                (if (s.style i).current = .weld k then 1 else 0) +
                  if (s.style i).pending.map (·.part) = some (.weld k) then 1 else 0).sum }) ∧
          (∀ i, i < 16 → t.station i = if x.stations = s.line.stations then s.station i
            else ⟨(s.station i).zone, (s.station i).source, (s.station i).budget, .empty, false, none, none, 0, 0, false, 0,
              false, none, []⟩) ∧
          t = { s with ports := t.ports, layout := { s.layout with line := x }, ring := t.ring, styles := t.styles,
                       sets := t.sets, stations := t.stations, attention := t.attention }) ∧
      ∀ (r : Nat) (x : RobotRec) (raw : RawRecord),
        (x = { s.robotPlace r with present := false } ∧ raw = .robot r .absent ∨
          x.present = true ∧ raw = .robot r (.present ⟨x.bus.val, x.drop, x.station, x.slots⟩)) → ok raw →
        ∃ t, exec (.layoutWrite h [raw]) s = .next t ∧ State.answered h 0x3A .done (.written 1) s t ∧
          t.robotPlace r = x ∧ (∀ q, q ≠ r → t.robotPlace q = s.robotPlace q) ∧
          t.layout = { s.layout with robots := t.layout.robots } ∧
          ((s.place r = none ∧ x.present = false ∨
              (∃ p, s.place r = some p ∧ x = { p with station := x.station }) →
            t = { s with ports := t.ports, layout := t.layout }) ∧
          (s.place r = none → x.present = true →
            (∀ q p, s.place q = some p → p.bus ≠ x.bus ∨ p.drop ≠ x.drop) →
            t.robot r = { s.robot r with
              enabled := true, online := false, motion := .idle, busy := none, fault := none
              slots := .replicate 8 ⟨.unknown, 0⟩, pollTimer := 0 } ∧
            (∀ q, q ≠ r → t.robot q = s.robot q) ∧ t = { s with ports := t.ports, layout := t.layout, robots := t.robots }) ∧
          ∀ q p, q < 32 → s.place q = some p → (s.robot q).motion = .idle → (s.stage q).load = none →
            (q = r ∧ (x.present = false ∨
                (x.bus ≠ p.bus ∨ x.drop ≠ p.drop ∨ x.slots ≠ p.slots) ∧
                  ∀ j y, j ≠ r → s.place j = some y → y.bus ≠ x.bus ∨ y.drop ≠ x.drop) ∨
              s.place r = none ∧ x.present = true ∧ p.bus = x.bus ∧ p.drop = x.drop) →
            t.robot q = { s.robot q with
              online := false, slots := .replicate 8 ⟨.unknown, 0⟩, fault := none, busy := none, pollTimer := 0 } ∧
            (∀ j, j ≠ q → j ≠ r → t.robot j = s.robot j) ∧
            t.pendOf q = ⟨none, none, none, none⟩ ∧ (∀ j, j ≠ q → t.pendOf j = s.pendOf j) ∧
            t.stage q = { s.stage q with channel := [], blocked := false } ∧ (∀ j, j ≠ q → t.stage j = s.stage j) ∧
            (∀ b, b < 4 → t.bus b = match (s.bus b).cur with
              | some o => if o.robot = q then { s.bus b with cur := none } else s.bus b
              | none => s.bus b) ∧
            t = { s with ports := t.ports, layout := t.layout, robots := t.robots, pend := t.pend, staging := t.staging,
                         buses := t.buses, due := s.due ++ [.recompute q, .selection q] }))

/-- START in SETUP with a layout that passes its checks, and no job listed, brings the station settings of the layout into
force, makes the mode RUN and owes an admission attempt; with M+N outside 4 to 8 it is refused with RANGE naming LINE (R185).
STOP in RUN with an empty Body Table and no active load makes the mode SETUP and closes every window and echo; with a record
or an active load it is refused with STATE and the two counts, in SETUP with MODE, and a payload in RUN with RANGE (R76,
R186). In SETUP every SEQUENCE request and every ZONE request that changes tracking is refused with MODE and changes nothing,
SEQ APPEND with 0 entries taken and Next PSN (R4, R6, R46, R183). That the settings come into force at START is log entry 7,
the number that names LINE log entry 4, and that STOP leaves the confirm and echo timers at 0 log entry 28. -/
def Obligations.StartAndStopChangeTheMode : Prop :=
  (∀ (s : State) (i : Instr) (h : Hdr) (kind : Byte) (g : Group), requestOf i = some (h, kind, g) → s.listens h.port →
    s.grants h.port g → s.mode = .setup → (g = .sequence ∨ 0x20 ≤ kind.toNat ∧ kind.toNat ≤ 0x27) →
    ∃ t, exec i s = .next t ∧
      State.answered h kind .mode (if kind = 0x10#8 then .appended 0 s.ring.nextPsn else .nothing) s t ∧
      t = { s with ports := t.ports }) ∧
  (∀ (s : State) (h : Hdr), s.takes h .library →
    (s.mode = .setup → 4 ≤ s.line.m + s.line.n → s.line.m + s.line.n ≤ 8 →
      (∀ r p, s.place r = some p → p.station < s.stationCount) →
      (∀ r q p p', s.place r = some p → s.place q = some p' → r ≠ q → p.bus ≠ p'.bus ∨ p.drop ≠ p'.drop) →
      s.line.depth ≤ s.line.lead → (∀ r, (s.stage r).jobs = []) →
      ∃ t, exec (.start h) s = .next t ∧ State.answered h 0x3B .done .nothing s t ∧
        (∀ i, i < 16 → t.station i = { s.station i with
          zone := (s.stationRec i).zone, source := (s.stationRec i).source, budget := (s.stationRec i).budget }) ∧
        t = { s with ports := t.ports, mode := .run, stations := t.stations, due := s.due ++ [.admission] }) ∧
    (s.mode = .setup → s.line.m + s.line.n < 4 ∨ 8 < s.line.m + s.line.n →
      ∃ t, exec (.start h) s = .next t ∧ State.answered h 0x3B .range (.layoutRecord 0 0) s t ∧
        t = { s with ports := t.ports }) ∧
    (s.mode = .run → s.bodies = [] → (∀ r, r < 32 → (s.stage r).load = none) →
      ∃ t, exec (.stop h) s = .next t ∧ State.answered h 0x3C .done .nothing s t ∧
        (∀ i, i < 16 → t.presence i =
          { s.presence i with window := .closed, confirm := 0, echo := .none, echoTimer := 0 }) ∧
        t = { s with ports := t.ports, mode := .setup, lines := t.lines }) ∧
    (s.mode = .run → s.bodies ≠ [] ∨ (∃ r, r < 32 ∧ (s.stage r).load ≠ none) →
      ∃ t, exec (.stop h) s = .next t ∧
        State.answered h 0x3C .state (.busy s.bodies.length
          ((List.range 32).filter fun r => (s.stage r).load != none).length) s t ∧ t = { s with ports := t.ports }) ∧
    (s.mode = .setup →
      ∃ t, exec (.stop h) s = .next t ∧ State.answered h 0x3C .mode .nothing s t ∧ t = { s with ports := t.ports })) ∧
  ∀ (s : State) (h : Hdr), s.listens h.port → s.grants h.port .library → h.lengthOk = false → s.mode = .run →
    ∃ t, exec (.stop h) s = .next t ∧ State.answered h 0x3C .range .nothing s t ∧ t = { s with ports := t.ports }

/-- TRACK RESET, in either mode, empties the ring, the Body Table and the Line List, puts every station in its power-on state
with its layout settings, closes every window and echo, removes every naming by a record, job and active load, and ends every
selection: SELECTING robots are IDLE with their SELECT withdrawn, SELECTED and WELDING ones ABORTING with an ABORT queued. Each
program loses the references of the loads ended. It keeps Next PSN, the mode, the layout, the styles, the schedules and
curves, W, the counters, link states and fault codes, the poll timers, the other pending transactions and those on the buses,
and the entries of sets and programs (R33, R65, R94, R125, R143, R150, R157, R170, R187). That the channel keeps the LOAD
CANCEL alone and that the poll timers are kept is log entry 11; that the LOAD CANCEL takes its timeout and retry limit as it
enters the channel is log entry 12, that an ABORT takes the place of one still pending and an IDLE robot keeps a SELECT still
pending log entry 23, and that the confirm and echo timers stand at 0 once their windows and echoes are closed log entry 28. -/
def Obligations.TrackResetKeepsTheLibrary : Prop :=
  ∀ (s : State) (h : Hdr), s.takes h .library → s.stationCount ≤ 16 →
    ∃ t, exec (.trackReset h) s = .next t ∧ State.answered h 0x3D .done .nothing s t ∧
      t.ring = { s.ring with read := s.ring.write, loop := none, stalled := false } ∧ t.bodies = [] ∧ t.lineList = [] ∧
      (∀ i, i < 16 → t.station i = ⟨(s.station i).zone, (s.station i).source, (s.station i).budget, .empty, false, none,
        none, 0, 0, false, 0, false, none, []⟩) ∧
      (∀ i, i < 16 → t.presence i =
        { s.presence i with window := .closed, confirm := 0, echo := .none, echoTimer := 0 }) ∧
      (∀ k, k < 128 → t.dispatchSet k = { s.dispatchSet k with
        inUse := (s.dispatchSet k).inUse - (s.bodies.filter fun b => b.binding == .weld k).length }) ∧
      (∀ r, r < 32 → t.stage r = { s.stage r with
        jobs := [], load := none, blocked := false
        channel := match (s.stage r).load with
          | some l => [⟨.load, .loadCancel l.slot, s.line.replyTimeout, s.line.retryLimit⟩]
          | none => [] }) ∧
      (∀ r, r < 32 →
        t.robot r = { s.robot r with
          motion := match (s.robot r).motion with
            | .selecting _ => .idle
            | .selected sel => .aborting sel
            | .welding sel => .aborting sel
            | m => m
          busy := match (s.robot r).motion with
            | .selecting _ => none
            | .selected _ => none
            | .welding _ => none
            | _ => (s.robot r).busy
          slots := (t.robot r).slots } ∧
        t.pendOf r = match (s.robot r).motion with
          | .selecting _ => { s.pendOf r with select := none }
          | .selected sel => { s.pendOf r with
              select := none
              abort := some ⟨.abort, .abort sel.slot (s.robot r).dispatch false, s.line.replyTimeout, s.line.retryLimit⟩ }
          | .welding sel => { s.pendOf r with
              select := none
              abort := some ⟨.abort, .abort sel.slot (s.robot r).dispatch false, s.line.replyTimeout, s.line.retryLimit⟩ }
          | _ => s.pendOf r) ∧
      (∀ r i, r < 32 → (t.robot r).slot i =
        if (s.stage r).load.map (·.slot) = some i ∧ i < 8 then ⟨.empty, 0⟩ else (s.robot r).slot i) ∧
      (∀ n, n < 512 → t.prog n = { s.prog n with
        refs := (s.prog n).refs - ((List.range 32).filter fun r => (s.stage r).load.map (·.program) == some n).length }) ∧
      t.library = { s.library with progs := t.library.progs } ∧
      (∀ d, d ∈ t.due ↔ d ∈ s.due ∨ d = .admission ∨ (∃ r ∈ s.presentRobots, d = .recompute r) ∨
        ∃ r, r < 32 ∧
          (d = .recompute r ∧ ((s.stage r).load ≠ none ∨ ∃ sel, (s.robot r).motion = .selecting sel ∨
              (s.robot r).motion = .selected sel ∨ (s.robot r).motion = .welding sel) ∨
            d = .selection r ∧ ((s.stage r).load ≠ none ∨ ∃ sel, (s.robot r).motion = .selecting sel))) ∧
      t.attention = (if s.line.lowMark < s.ringCount then s.raise .ringLow 0 else s).attention ∧
      t = { s with ports := t.ports, ring := t.ring, bodies := [], lineList := [], stations := t.stations, lines := t.lines,
                   sets := t.sets, robots := t.robots, staging := t.staging, pend := t.pend, library := t.library,
                   due := t.due, attention := t.attention }

/-- POWER ON, whatever the state, and RESET RELEASE of an asserted input put the module in its power-on state: SETUP, the
default layout, an empty ring with Next PSN 0, no style, set, program, schedule or curve, no body, every station EMPTY, robots
OFFLINE with their counters 0, the stamp counter 1, the pace timers at their interval, the straps' roles, and each line's
accepted level from its first sample. The RESET input is not asserted after its release, and is as it was after POWER ON. RESET
ASSERT loses the replies and the transactions on the buses; while it lasts no attention output is asserted (R168, R188). That
RESET ASSERT drops the internal events owed and keeps the rest of the state until the release, that RESET RELEASE of an input
not asserted changes nothing, and that the commands waiting outside are kept, is the model's (log entry 2), and so is that the
pace count, of which the pace timer is the part up to the interval, starts at 250 (log entry 8), that the poll timers, of robots
not in the layout, stand at 0 (log entry 28), and that the default layout holds bus DB0, drop address 0, station 0 and 2 slots
for each robot, none of them present (log entry 6). -/
def Obligations.PowerOnAndResetRestoreTheDefaults : Prop :=
  ∀ (s : State) (straps : Straps) (levels : BitVec 16) (i : Instr),
    (i = .powerOn straps levels ∨ i = .resetRelease straps levels ∧ s.resetInput = true →
      ∃ t, exec i s = .next t ∧ t.pending = s.pending ∧
        (i = .resetRelease straps levels → t.resetInput = false) ∧
        (i = .powerOn straps levels → t.resetInput = s.resetInput) ∧ t.due = [] ∧
        t.mode = .setup ∧ t.layout = .default ∧ t.ringEntries = [] ∧
        t.ring.nextPsn = 0 ∧ t.ring.loop = none ∧ t.ring.stalled = false ∧ t.bodies = [] ∧ t.lineList = [] ∧
        (∀ n, n < 256 → t.style n = ⟨.unknown, none⟩) ∧ (∀ n, n < 128 → t.dispatchSet n = ⟨none, 0⟩) ∧
        (∀ n, n < 512 → t.prog n = ⟨.empty, 0⟩ ∧ (t.block n).holder = none) ∧ t.library.stamp = 1 ∧
        (∀ n, n < 64 → t.schedule n = none) ∧ (∀ n, n < 8 → t.curve n = none) ∧
        (∀ n, n < 16 → (t.station n).state = .empty ∧ (t.station n).hold = false ∧
          (t.presence n).accepted = (if levels.getLsbD n then .high else .low) ∧
          (t.presence n).window = .closed ∧ (t.presence n).echo = .none) ∧
        (∀ r, r < 32 → t.robot r = ⟨true, false, .idle, none, 0, 0, false, none, 0, 0, 0, none,
          .replicate 8 ⟨.unknown, 0⟩, 0⟩ ∧ (t.stage r).jobs = [] ∧ (t.stage r).load = none ∧ (t.stage r).channel = [] ∧
          t.pendOf r = ⟨none, none, none, none⟩) ∧
        (∀ b, b < 4 → t.bus b = ⟨none, .replicate 5 7, 250⟩ ∧ t.paceTimer b = 10 ∧ t.busRec b = ⟨.auto, 10⟩) ∧
        (∀ p, p < 4 → (t.port p).errors = 0 ∧ (t.port p).degraded = false ∧ (t.port p).rx = .hunting ∧
          (t.port p).reply = none ∧ (t.port p).sending = false ∧ (t.port p).held = none ∧
          t.attn p = ⟨.replicate 16 none, 127⟩) ∧
        (t.port 0).roles = straps.lp0 ∧ (t.port 1).roles = straps.lp1 ∧ (t.port 2).roles = straps.lp2 ∧
        (t.port 3).roles = straps.lp3) ∧
    (i = .resetRelease straps levels → s.resetInput = false → exec i s = .next s) ∧
    (i = .resetAssert →
      ∃ t, exec i s = .next t ∧ t.resetInput = true ∧
        (∀ p, p < 4 → t.port p = { s.port p with reply := none, sending := false, held := none } ∧ t.attentionOutput p = false) ∧
        (∀ b, b < 4 → t.bus b = { s.bus b with cur := none }) ∧
        t = { s with resetInput := true, ports := t.ports, buses := t.buses, due := [] })

/-! ### Frames (Chapter 13) -/

/-- A frame the module would receive reads as the command it spells: the payloads of SEQ APPEND, SET WRITE, PROG DATA and SET
ATTENTION MASK, and on a drop bus a whole ABORTED and a whole SLOT REPORT frame, whatever bytes without a start byte come before
it. A SET ATTENTION MASK of another length than 1 is one whose length disagrees. A drop frame not yet complete is no command, and one whose check is not the CRC of its bytes is an INVALID REPLY. On a line port the bytes
of a frame, after any that are no sync byte, open a frame and end as a good one; a bad check and a length above 512 end as a
frame error with the port SKIPPING. A reply goes out as a line frame of its kind, its id, and the reply code and attention
byte ahead of its contents: none, the two fields of SEQ APPEND, or the mask as stored, in one byte (R161, R171, R178, R181, R189
to R192). -/
def Obligations.FramesSpellTheirCommands : Prop :=
  (∀ (p : Fin 4) (id : Byte) (es : List SeqEntry), es.length < 256 →
    lineCommand p 0x10#8 id (byteOf es.length :: es.flatMap seqEntryBytes) = some (.seqAppend ⟨p, id, true⟩ es)) ∧
  (∀ (p : Fin 4) (id : Byte) (n first : Nat) (points : List RawPoint), n < 512 → first < 65536 → 1 ≤ points.length →
    points.length ≤ 256 →
    lineCommand p 0x31#8 id (bytesOfNat n ++ bytesOfNat first ++ [byteOf (points.length - 1)] ++
      points.flatMap fun x => bytesOf x.pointId ++ bytesOf x.pose ++ [x.schedule, x.flags]) =
        some (.progData ⟨p, id, true⟩ n first points)) ∧
  (∀ (p : Fin 4) (id : Byte) (n : Nat) (es : List RawEntry), n < 128 → (∀ e ∈ es, e.wellFormed = true) →
    lineCommand p 0x36#8 id (byteOf n :: es.flatMap rawEntryBytes) = some (.setWrite ⟨p, id, true⟩ n es)) ∧
  (∀ (p : Fin 4) (id mask : Byte), lineCommand p 0x09#8 id [mask] = some (.setAttentionMask ⟨p, id, true⟩ mask)) ∧
  (∀ (p : Fin 4) (id : Byte) (payload : List Byte), payload.length ≠ 1 →
    ∃ mask, lineCommand p 0x09#8 id payload = some (.setAttentionMask ⟨p, id, false⟩ mask)) ∧
  (∀ (b : Fin 4) (drop slot dispatch welds : Nat) (junk : List Byte), drop < 8 → slot < 256 → dispatch < 256 →
    welds < 65536 → 0xC3#8 ∉ junk →
    busCommand b (junk ++ dropFrame (replyAddress drop) 0x84#8 ([byteOf slot, byteOf dispatch] ++ bytesOfNat welds)) =
      some (.aborted b drop slot dispatch welds)) ∧
  (∀ (b : Fin 4) (drop : Nat) (records : List SlotRecord) (junk : List Byte), drop < 8 → records.length ≤ 128 →
    0xC3#8 ∉ junk →
    busCommand b (junk ++ dropFrame (replyAddress drop) 0x85#8
      (records.flatMap fun x => bytesOf x.program ++ bytesOf x.stamp)) = some (.slotReport b drop records)) ∧
  (∀ (b : Fin 4) (addr kind c1 c0 : Byte) (payload junk : List Byte), payload.length ≤ 512 → 0xC3#8 ∉ junk →
    [c1, c0] ≠ bytesOf (crc16 ([addr, kind] ++ bytesOfNat payload.length ++ payload)) →
    busCommand b (junk ++ [0xC3#8, addr, kind] ++ bytesOfNat payload.length ++ payload ++ [c1, c0]) =
      some (.invalidReply b)) ∧
  (∀ (b : Fin 4) (addr kind : Byte) (payload junk : List Byte) (n : Nat), payload.length ≤ 512 → 0xC3#8 ∉ junk →
    n < (dropFrame addr kind payload).length → busCommand b (junk ++ (dropFrame addr kind payload).take n) = none) ∧
  (∀ (kind id : Byte) (payload junk : List Byte), payload.length ≤ 512 → 0xA5#8 ∉ junk →
    hear .hunting (junk ++ lineFrame kind id payload) = (.hunting, [.opening, .good kind id payload])) ∧
  (∀ (kind id c1 c0 : Byte) (payload : List Byte), payload.length ≤ 512 →
    [c1, c0] ≠ bytesOf (crc16 ([kind, id] ++ bytesOfNat payload.length ++ payload)) →
    hear .hunting ([0xA5#8, 0x5A#8, kind, id] ++ bytesOfNat payload.length ++ payload ++ [c1, c0]) =
      (.skipping, [.opening, .error .badCheck])) ∧
  (∀ (kind id l1 l0 : Byte) (rest : List Byte), 512 < (wordOf l1 l0).toNat →
    hear .hunting ([0xA5#8, 0x5A#8, kind, id, l1, l0] ++ rest) = (.skipping, [.opening, .error .oversize])) ∧
  (∀ r : Reply,
    (r.contents = .nothing →
      r.frame = some (lineFrame r.kind r.id [r.code.byte, if r.attention then 1 else 0])) ∧
    (∀ taken psn, r.contents = .appended taken psn →
      r.frame = some (lineFrame r.kind r.id
        ([r.code.byte, if r.attention then 1 else 0, byteOf taken] ++ bytesOf psn))) ∧
    ∀ m : BitVec 7, r.contents = .mask m →
      r.frame = some (lineFrame r.kind r.id [r.code.byte, if r.attention then 1 else 0, 0#1 ++ m])) ∧
  [Code.done, .role, .mode, .range, .state, .full, .inUse, .unknown, .duplicate, .check, .link].map Code.byte =
    [0x00, 0x01, 0x02, 0x03, 0x04, 0x05, 0x06, 0x07, 0x08, 0x09, 0x0A]

/-! ### Invariants -/

/-- Every port keeps its E within 0 and its threshold, which is 1 or more, and is DEGRADED only above 0 (R173, R174). -/
def Obligations.StepKeepsPortCountersInRange : Prop :=
  ∀ s t, s.portsInv → step s = .next t → t.portsInv

/-- The Body Table never holds more than 48 records, nor more ADMITTED ones than the admission lead, and in SETUP it holds
none (R12, R186). -/
def Obligations.StepKeepsBodyTableBounds : Prop :=
  ∀ s t, s.bodiesInv → step s = .next t → t.bodiesInv

/-- The ring's indices stay positions of the ring, whose length is 64, 128 or 256, and a loop has 1 to L−1 entries; the layout
keeps 1 to 16 stations, and robots with station numbers below 16, drop addresses below 8 and 2 to 8 slots (R1, R8, R184). -/
def Obligations.StepKeepsRingAndLayoutInRange : Prop :=
  ∀ s t, s.ringInv → s.layoutInv → step s = .next t → t.ringInv ∧ t.layoutInv

/-- Every robot's W and clamp count stay within 65535, its use counter and total welds within 32 bits, and its dispatch number
within 0 to 7 (R107, R112, R115). -/
def Obligations.StepKeepsRobotCountersInRange : Prop :=
  ∀ s t, s.robotsInv → step s = .next t → t.robotsInv

/-- The block store stays accounted for: a LOADING or READY program holds as many blocks as its count asks for, each its own
and filled in order with the points received, a READY one has received them all, every held block is in its holder's list, and
a port owns at most one LOADING program (R77, R79, R83, R85, R87). -/
def Obligations.StepKeepsBlockStoreAccounted : Prop :=
  ∀ s t, s.libraryInv → step s = .next t → t.libraryInv

/-- Every pending transaction stays in its own class, and every transaction of a load channel is of class LOAD (R135, R164).
-/
def Obligations.StepKeepsTransactionsInTheirClass : Prop :=
  ∀ s t, s.pendInv → step s = .next t → t.pendInv

/-- The state after reset meets the invariants of the ports, the Body Table, the robots, the block store, the pending
transactions, the ring and the layout. -/
def Obligations.ResetMeetsTheInvariants : Prop :=
  State.reset.portsInv ∧ State.reset.bodiesInv ∧ State.reset.robotsInv ∧ State.reset.libraryInv ∧ State.reset.pendInv ∧
    State.reset.ringInv ∧ State.reset.layoutInv
end

