-- ==== Sys2Proof/Laws/State.lean ====
section
/-!
SUPPORT. One lemma for each field under each named update of State, true by `rfl`, so that no proof unfolds a record
update.
-/
namespace Sys2Proof
namespace Machine
namespace State

variable (s : State)

/-! setStyle -/

@[simp] theorem pending_setStyle (i : Nat) (e : StyleEntry) : (s.setStyle i e).pending = s.pending := rfl
@[simp] theorem due_setStyle (i : Nat) (e : StyleEntry) : (s.setStyle i e).due = s.due := rfl
@[simp] theorem resetInput_setStyle (i : Nat) (e : StyleEntry) : (s.setStyle i e).resetInput = s.resetInput := rfl
@[simp] theorem mode_setStyle (i : Nat) (e : StyleEntry) : (s.setStyle i e).mode = s.mode := rfl
@[simp] theorem layout_setStyle (i : Nat) (e : StyleEntry) : (s.setStyle i e).layout = s.layout := rfl
@[simp] theorem ring_setStyle (i : Nat) (e : StyleEntry) : (s.setStyle i e).ring = s.ring := rfl
@[simp] theorem styles_setStyle (i : Nat) (e : StyleEntry) : (s.setStyle i e).styles = tset s.styles i e := rfl
@[simp] theorem sets_setStyle (i : Nat) (e : StyleEntry) : (s.setStyle i e).sets = s.sets := rfl
@[simp] theorem bodies_setStyle (i : Nat) (e : StyleEntry) : (s.setStyle i e).bodies = s.bodies := rfl
@[simp] theorem nextKey_setStyle (i : Nat) (e : StyleEntry) : (s.setStyle i e).nextKey = s.nextKey := rfl
@[simp] theorem lineList_setStyle (i : Nat) (e : StyleEntry) : (s.setStyle i e).lineList = s.lineList := rfl
@[simp] theorem stations_setStyle (i : Nat) (e : StyleEntry) : (s.setStyle i e).stations = s.stations := rfl
@[simp] theorem lines_setStyle (i : Nat) (e : StyleEntry) : (s.setStyle i e).lines = s.lines := rfl
@[simp] theorem library_setStyle (i : Nat) (e : StyleEntry) : (s.setStyle i e).library = s.library := rfl
@[simp] theorem schedules_setStyle (i : Nat) (e : StyleEntry) : (s.setStyle i e).schedules = s.schedules := rfl
@[simp] theorem curves_setStyle (i : Nat) (e : StyleEntry) : (s.setStyle i e).curves = s.curves := rfl
@[simp] theorem robots_setStyle (i : Nat) (e : StyleEntry) : (s.setStyle i e).robots = s.robots := rfl
@[simp] theorem staging_setStyle (i : Nat) (e : StyleEntry) : (s.setStyle i e).staging = s.staging := rfl
@[simp] theorem pend_setStyle (i : Nat) (e : StyleEntry) : (s.setStyle i e).pend = s.pend := rfl
@[simp] theorem buses_setStyle (i : Nat) (e : StyleEntry) : (s.setStyle i e).buses = s.buses := rfl
@[simp] theorem ports_setStyle (i : Nat) (e : StyleEntry) : (s.setStyle i e).ports = s.ports := rfl
@[simp] theorem attention_setStyle (i : Nat) (e : StyleEntry) : (s.setStyle i e).attention = s.attention := rfl

/-! setSet -/

@[simp] theorem pending_setSet (i : Nat) (e : SetEntry) : (s.setSet i e).pending = s.pending := rfl
@[simp] theorem due_setSet (i : Nat) (e : SetEntry) : (s.setSet i e).due = s.due := rfl
@[simp] theorem resetInput_setSet (i : Nat) (e : SetEntry) : (s.setSet i e).resetInput = s.resetInput := rfl
@[simp] theorem mode_setSet (i : Nat) (e : SetEntry) : (s.setSet i e).mode = s.mode := rfl
@[simp] theorem layout_setSet (i : Nat) (e : SetEntry) : (s.setSet i e).layout = s.layout := rfl
@[simp] theorem ring_setSet (i : Nat) (e : SetEntry) : (s.setSet i e).ring = s.ring := rfl
@[simp] theorem styles_setSet (i : Nat) (e : SetEntry) : (s.setSet i e).styles = s.styles := rfl
@[simp] theorem sets_setSet (i : Nat) (e : SetEntry) : (s.setSet i e).sets = tset s.sets i e := rfl
@[simp] theorem bodies_setSet (i : Nat) (e : SetEntry) : (s.setSet i e).bodies = s.bodies := rfl
@[simp] theorem nextKey_setSet (i : Nat) (e : SetEntry) : (s.setSet i e).nextKey = s.nextKey := rfl
@[simp] theorem lineList_setSet (i : Nat) (e : SetEntry) : (s.setSet i e).lineList = s.lineList := rfl
@[simp] theorem stations_setSet (i : Nat) (e : SetEntry) : (s.setSet i e).stations = s.stations := rfl
@[simp] theorem lines_setSet (i : Nat) (e : SetEntry) : (s.setSet i e).lines = s.lines := rfl
@[simp] theorem library_setSet (i : Nat) (e : SetEntry) : (s.setSet i e).library = s.library := rfl
@[simp] theorem schedules_setSet (i : Nat) (e : SetEntry) : (s.setSet i e).schedules = s.schedules := rfl
@[simp] theorem curves_setSet (i : Nat) (e : SetEntry) : (s.setSet i e).curves = s.curves := rfl
@[simp] theorem robots_setSet (i : Nat) (e : SetEntry) : (s.setSet i e).robots = s.robots := rfl
@[simp] theorem staging_setSet (i : Nat) (e : SetEntry) : (s.setSet i e).staging = s.staging := rfl
@[simp] theorem pend_setSet (i : Nat) (e : SetEntry) : (s.setSet i e).pend = s.pend := rfl
@[simp] theorem buses_setSet (i : Nat) (e : SetEntry) : (s.setSet i e).buses = s.buses := rfl
@[simp] theorem ports_setSet (i : Nat) (e : SetEntry) : (s.setSet i e).ports = s.ports := rfl
@[simp] theorem attention_setSet (i : Nat) (e : SetEntry) : (s.setSet i e).attention = s.attention := rfl

/-! modStation -/

@[simp] theorem pending_modStation (i : Nat) (f : Station → Station) : (s.modStation i f).pending = s.pending := rfl
@[simp] theorem due_modStation (i : Nat) (f : Station → Station) : (s.modStation i f).due = s.due := rfl
@[simp] theorem resetInput_modStation (i : Nat) (f : Station → Station) : (s.modStation i f).resetInput = s.resetInput := rfl
@[simp] theorem mode_modStation (i : Nat) (f : Station → Station) : (s.modStation i f).mode = s.mode := rfl
@[simp] theorem layout_modStation (i : Nat) (f : Station → Station) : (s.modStation i f).layout = s.layout := rfl
@[simp] theorem ring_modStation (i : Nat) (f : Station → Station) : (s.modStation i f).ring = s.ring := rfl
@[simp] theorem styles_modStation (i : Nat) (f : Station → Station) : (s.modStation i f).styles = s.styles := rfl
@[simp] theorem sets_modStation (i : Nat) (f : Station → Station) : (s.modStation i f).sets = s.sets := rfl
@[simp] theorem bodies_modStation (i : Nat) (f : Station → Station) : (s.modStation i f).bodies = s.bodies := rfl
@[simp] theorem nextKey_modStation (i : Nat) (f : Station → Station) : (s.modStation i f).nextKey = s.nextKey := rfl
@[simp] theorem lineList_modStation (i : Nat) (f : Station → Station) : (s.modStation i f).lineList = s.lineList := rfl
@[simp] theorem stations_modStation (i : Nat) (f : Station → Station) : (s.modStation i f).stations = tset s.stations i (f (s.station i)) := rfl
@[simp] theorem lines_modStation (i : Nat) (f : Station → Station) : (s.modStation i f).lines = s.lines := rfl
@[simp] theorem library_modStation (i : Nat) (f : Station → Station) : (s.modStation i f).library = s.library := rfl
@[simp] theorem schedules_modStation (i : Nat) (f : Station → Station) : (s.modStation i f).schedules = s.schedules := rfl
@[simp] theorem curves_modStation (i : Nat) (f : Station → Station) : (s.modStation i f).curves = s.curves := rfl
@[simp] theorem robots_modStation (i : Nat) (f : Station → Station) : (s.modStation i f).robots = s.robots := rfl
@[simp] theorem staging_modStation (i : Nat) (f : Station → Station) : (s.modStation i f).staging = s.staging := rfl
@[simp] theorem pend_modStation (i : Nat) (f : Station → Station) : (s.modStation i f).pend = s.pend := rfl
@[simp] theorem buses_modStation (i : Nat) (f : Station → Station) : (s.modStation i f).buses = s.buses := rfl
@[simp] theorem ports_modStation (i : Nat) (f : Station → Station) : (s.modStation i f).ports = s.ports := rfl
@[simp] theorem attention_modStation (i : Nat) (f : Station → Station) : (s.modStation i f).attention = s.attention := rfl

/-! modPresence -/

@[simp] theorem pending_modPresence (i : Nat) (f : Presence → Presence) : (s.modPresence i f).pending = s.pending := rfl
@[simp] theorem due_modPresence (i : Nat) (f : Presence → Presence) : (s.modPresence i f).due = s.due := rfl
@[simp] theorem resetInput_modPresence (i : Nat) (f : Presence → Presence) : (s.modPresence i f).resetInput = s.resetInput := rfl
@[simp] theorem mode_modPresence (i : Nat) (f : Presence → Presence) : (s.modPresence i f).mode = s.mode := rfl
@[simp] theorem layout_modPresence (i : Nat) (f : Presence → Presence) : (s.modPresence i f).layout = s.layout := rfl
@[simp] theorem ring_modPresence (i : Nat) (f : Presence → Presence) : (s.modPresence i f).ring = s.ring := rfl
@[simp] theorem styles_modPresence (i : Nat) (f : Presence → Presence) : (s.modPresence i f).styles = s.styles := rfl
@[simp] theorem sets_modPresence (i : Nat) (f : Presence → Presence) : (s.modPresence i f).sets = s.sets := rfl
@[simp] theorem bodies_modPresence (i : Nat) (f : Presence → Presence) : (s.modPresence i f).bodies = s.bodies := rfl
@[simp] theorem nextKey_modPresence (i : Nat) (f : Presence → Presence) : (s.modPresence i f).nextKey = s.nextKey := rfl
@[simp] theorem lineList_modPresence (i : Nat) (f : Presence → Presence) : (s.modPresence i f).lineList = s.lineList := rfl
@[simp] theorem stations_modPresence (i : Nat) (f : Presence → Presence) : (s.modPresence i f).stations = s.stations := rfl
@[simp] theorem lines_modPresence (i : Nat) (f : Presence → Presence) : (s.modPresence i f).lines = tset s.lines i (f (s.presence i)) := rfl
@[simp] theorem library_modPresence (i : Nat) (f : Presence → Presence) : (s.modPresence i f).library = s.library := rfl
@[simp] theorem schedules_modPresence (i : Nat) (f : Presence → Presence) : (s.modPresence i f).schedules = s.schedules := rfl
@[simp] theorem curves_modPresence (i : Nat) (f : Presence → Presence) : (s.modPresence i f).curves = s.curves := rfl
@[simp] theorem robots_modPresence (i : Nat) (f : Presence → Presence) : (s.modPresence i f).robots = s.robots := rfl
@[simp] theorem staging_modPresence (i : Nat) (f : Presence → Presence) : (s.modPresence i f).staging = s.staging := rfl
@[simp] theorem pend_modPresence (i : Nat) (f : Presence → Presence) : (s.modPresence i f).pend = s.pend := rfl
@[simp] theorem buses_modPresence (i : Nat) (f : Presence → Presence) : (s.modPresence i f).buses = s.buses := rfl
@[simp] theorem ports_modPresence (i : Nat) (f : Presence → Presence) : (s.modPresence i f).ports = s.ports := rfl
@[simp] theorem attention_modPresence (i : Nat) (f : Presence → Presence) : (s.modPresence i f).attention = s.attention := rfl

/-! setProg -/

@[simp] theorem pending_setProg (i : Nat) (p : Prog) : (s.setProg i p).pending = s.pending := rfl
@[simp] theorem due_setProg (i : Nat) (p : Prog) : (s.setProg i p).due = s.due := rfl
@[simp] theorem resetInput_setProg (i : Nat) (p : Prog) : (s.setProg i p).resetInput = s.resetInput := rfl
@[simp] theorem mode_setProg (i : Nat) (p : Prog) : (s.setProg i p).mode = s.mode := rfl
@[simp] theorem layout_setProg (i : Nat) (p : Prog) : (s.setProg i p).layout = s.layout := rfl
@[simp] theorem ring_setProg (i : Nat) (p : Prog) : (s.setProg i p).ring = s.ring := rfl
@[simp] theorem styles_setProg (i : Nat) (p : Prog) : (s.setProg i p).styles = s.styles := rfl
@[simp] theorem sets_setProg (i : Nat) (p : Prog) : (s.setProg i p).sets = s.sets := rfl
@[simp] theorem bodies_setProg (i : Nat) (p : Prog) : (s.setProg i p).bodies = s.bodies := rfl
@[simp] theorem nextKey_setProg (i : Nat) (p : Prog) : (s.setProg i p).nextKey = s.nextKey := rfl
@[simp] theorem lineList_setProg (i : Nat) (p : Prog) : (s.setProg i p).lineList = s.lineList := rfl
@[simp] theorem stations_setProg (i : Nat) (p : Prog) : (s.setProg i p).stations = s.stations := rfl
@[simp] theorem lines_setProg (i : Nat) (p : Prog) : (s.setProg i p).lines = s.lines := rfl
@[simp] theorem library_setProg (i : Nat) (p : Prog) : (s.setProg i p).library = { s.library with progs := tset s.library.progs i p } := rfl
@[simp] theorem schedules_setProg (i : Nat) (p : Prog) : (s.setProg i p).schedules = s.schedules := rfl
@[simp] theorem curves_setProg (i : Nat) (p : Prog) : (s.setProg i p).curves = s.curves := rfl
@[simp] theorem robots_setProg (i : Nat) (p : Prog) : (s.setProg i p).robots = s.robots := rfl
@[simp] theorem staging_setProg (i : Nat) (p : Prog) : (s.setProg i p).staging = s.staging := rfl
@[simp] theorem pend_setProg (i : Nat) (p : Prog) : (s.setProg i p).pend = s.pend := rfl
@[simp] theorem buses_setProg (i : Nat) (p : Prog) : (s.setProg i p).buses = s.buses := rfl
@[simp] theorem ports_setProg (i : Nat) (p : Prog) : (s.setProg i p).ports = s.ports := rfl
@[simp] theorem attention_setProg (i : Nat) (p : Prog) : (s.setProg i p).attention = s.attention := rfl

/-! setSchedule -/

@[simp] theorem pending_setSchedule (i : Nat) (e : Option Schedule) : (s.setSchedule i e).pending = s.pending := rfl
@[simp] theorem due_setSchedule (i : Nat) (e : Option Schedule) : (s.setSchedule i e).due = s.due := rfl
@[simp] theorem resetInput_setSchedule (i : Nat) (e : Option Schedule) : (s.setSchedule i e).resetInput = s.resetInput := rfl
@[simp] theorem mode_setSchedule (i : Nat) (e : Option Schedule) : (s.setSchedule i e).mode = s.mode := rfl
@[simp] theorem layout_setSchedule (i : Nat) (e : Option Schedule) : (s.setSchedule i e).layout = s.layout := rfl
@[simp] theorem ring_setSchedule (i : Nat) (e : Option Schedule) : (s.setSchedule i e).ring = s.ring := rfl
@[simp] theorem styles_setSchedule (i : Nat) (e : Option Schedule) : (s.setSchedule i e).styles = s.styles := rfl
@[simp] theorem sets_setSchedule (i : Nat) (e : Option Schedule) : (s.setSchedule i e).sets = s.sets := rfl
@[simp] theorem bodies_setSchedule (i : Nat) (e : Option Schedule) : (s.setSchedule i e).bodies = s.bodies := rfl
@[simp] theorem nextKey_setSchedule (i : Nat) (e : Option Schedule) : (s.setSchedule i e).nextKey = s.nextKey := rfl
@[simp] theorem lineList_setSchedule (i : Nat) (e : Option Schedule) : (s.setSchedule i e).lineList = s.lineList := rfl
@[simp] theorem stations_setSchedule (i : Nat) (e : Option Schedule) : (s.setSchedule i e).stations = s.stations := rfl
@[simp] theorem lines_setSchedule (i : Nat) (e : Option Schedule) : (s.setSchedule i e).lines = s.lines := rfl
@[simp] theorem library_setSchedule (i : Nat) (e : Option Schedule) : (s.setSchedule i e).library = s.library := rfl
@[simp] theorem schedules_setSchedule (i : Nat) (e : Option Schedule) : (s.setSchedule i e).schedules = tset s.schedules i e := rfl
@[simp] theorem curves_setSchedule (i : Nat) (e : Option Schedule) : (s.setSchedule i e).curves = s.curves := rfl
@[simp] theorem robots_setSchedule (i : Nat) (e : Option Schedule) : (s.setSchedule i e).robots = s.robots := rfl
@[simp] theorem staging_setSchedule (i : Nat) (e : Option Schedule) : (s.setSchedule i e).staging = s.staging := rfl
@[simp] theorem pend_setSchedule (i : Nat) (e : Option Schedule) : (s.setSchedule i e).pend = s.pend := rfl
@[simp] theorem buses_setSchedule (i : Nat) (e : Option Schedule) : (s.setSchedule i e).buses = s.buses := rfl
@[simp] theorem ports_setSchedule (i : Nat) (e : Option Schedule) : (s.setSchedule i e).ports = s.ports := rfl
@[simp] theorem attention_setSchedule (i : Nat) (e : Option Schedule) : (s.setSchedule i e).attention = s.attention := rfl

/-! setCurve -/

@[simp] theorem pending_setCurve (i : Nat) (c : List CurveStep) : (s.setCurve i c).pending = s.pending := rfl
@[simp] theorem due_setCurve (i : Nat) (c : List CurveStep) : (s.setCurve i c).due = s.due := rfl
@[simp] theorem resetInput_setCurve (i : Nat) (c : List CurveStep) : (s.setCurve i c).resetInput = s.resetInput := rfl
@[simp] theorem mode_setCurve (i : Nat) (c : List CurveStep) : (s.setCurve i c).mode = s.mode := rfl
@[simp] theorem layout_setCurve (i : Nat) (c : List CurveStep) : (s.setCurve i c).layout = s.layout := rfl
@[simp] theorem ring_setCurve (i : Nat) (c : List CurveStep) : (s.setCurve i c).ring = s.ring := rfl
@[simp] theorem styles_setCurve (i : Nat) (c : List CurveStep) : (s.setCurve i c).styles = s.styles := rfl
@[simp] theorem sets_setCurve (i : Nat) (c : List CurveStep) : (s.setCurve i c).sets = s.sets := rfl
@[simp] theorem bodies_setCurve (i : Nat) (c : List CurveStep) : (s.setCurve i c).bodies = s.bodies := rfl
@[simp] theorem nextKey_setCurve (i : Nat) (c : List CurveStep) : (s.setCurve i c).nextKey = s.nextKey := rfl
@[simp] theorem lineList_setCurve (i : Nat) (c : List CurveStep) : (s.setCurve i c).lineList = s.lineList := rfl
@[simp] theorem stations_setCurve (i : Nat) (c : List CurveStep) : (s.setCurve i c).stations = s.stations := rfl
@[simp] theorem lines_setCurve (i : Nat) (c : List CurveStep) : (s.setCurve i c).lines = s.lines := rfl
@[simp] theorem library_setCurve (i : Nat) (c : List CurveStep) : (s.setCurve i c).library = s.library := rfl
@[simp] theorem schedules_setCurve (i : Nat) (c : List CurveStep) : (s.setCurve i c).schedules = s.schedules := rfl
@[simp] theorem curves_setCurve (i : Nat) (c : List CurveStep) : (s.setCurve i c).curves = tset s.curves i (some c) := rfl
@[simp] theorem robots_setCurve (i : Nat) (c : List CurveStep) : (s.setCurve i c).robots = s.robots := rfl
@[simp] theorem staging_setCurve (i : Nat) (c : List CurveStep) : (s.setCurve i c).staging = s.staging := rfl
@[simp] theorem pend_setCurve (i : Nat) (c : List CurveStep) : (s.setCurve i c).pend = s.pend := rfl
@[simp] theorem buses_setCurve (i : Nat) (c : List CurveStep) : (s.setCurve i c).buses = s.buses := rfl
@[simp] theorem ports_setCurve (i : Nat) (c : List CurveStep) : (s.setCurve i c).ports = s.ports := rfl
@[simp] theorem attention_setCurve (i : Nat) (c : List CurveStep) : (s.setCurve i c).attention = s.attention := rfl

/-! modRobot -/

@[simp] theorem pending_modRobot (i : Nat) (f : Robot → Robot) : (s.modRobot i f).pending = s.pending := rfl
@[simp] theorem due_modRobot (i : Nat) (f : Robot → Robot) : (s.modRobot i f).due = s.due := rfl
@[simp] theorem resetInput_modRobot (i : Nat) (f : Robot → Robot) : (s.modRobot i f).resetInput = s.resetInput := rfl
@[simp] theorem mode_modRobot (i : Nat) (f : Robot → Robot) : (s.modRobot i f).mode = s.mode := rfl
@[simp] theorem layout_modRobot (i : Nat) (f : Robot → Robot) : (s.modRobot i f).layout = s.layout := rfl
@[simp] theorem ring_modRobot (i : Nat) (f : Robot → Robot) : (s.modRobot i f).ring = s.ring := rfl
@[simp] theorem styles_modRobot (i : Nat) (f : Robot → Robot) : (s.modRobot i f).styles = s.styles := rfl
@[simp] theorem sets_modRobot (i : Nat) (f : Robot → Robot) : (s.modRobot i f).sets = s.sets := rfl
@[simp] theorem bodies_modRobot (i : Nat) (f : Robot → Robot) : (s.modRobot i f).bodies = s.bodies := rfl
@[simp] theorem nextKey_modRobot (i : Nat) (f : Robot → Robot) : (s.modRobot i f).nextKey = s.nextKey := rfl
@[simp] theorem lineList_modRobot (i : Nat) (f : Robot → Robot) : (s.modRobot i f).lineList = s.lineList := rfl
@[simp] theorem stations_modRobot (i : Nat) (f : Robot → Robot) : (s.modRobot i f).stations = s.stations := rfl
@[simp] theorem lines_modRobot (i : Nat) (f : Robot → Robot) : (s.modRobot i f).lines = s.lines := rfl
@[simp] theorem library_modRobot (i : Nat) (f : Robot → Robot) : (s.modRobot i f).library = s.library := rfl
@[simp] theorem schedules_modRobot (i : Nat) (f : Robot → Robot) : (s.modRobot i f).schedules = s.schedules := rfl
@[simp] theorem curves_modRobot (i : Nat) (f : Robot → Robot) : (s.modRobot i f).curves = s.curves := rfl
@[simp] theorem robots_modRobot (i : Nat) (f : Robot → Robot) : (s.modRobot i f).robots = tset s.robots i (f (s.robot i)) := rfl
@[simp] theorem staging_modRobot (i : Nat) (f : Robot → Robot) : (s.modRobot i f).staging = s.staging := rfl
@[simp] theorem pend_modRobot (i : Nat) (f : Robot → Robot) : (s.modRobot i f).pend = s.pend := rfl
@[simp] theorem buses_modRobot (i : Nat) (f : Robot → Robot) : (s.modRobot i f).buses = s.buses := rfl
@[simp] theorem ports_modRobot (i : Nat) (f : Robot → Robot) : (s.modRobot i f).ports = s.ports := rfl
@[simp] theorem attention_modRobot (i : Nat) (f : Robot → Robot) : (s.modRobot i f).attention = s.attention := rfl

/-! modStage -/

@[simp] theorem pending_modStage (i : Nat) (f : Staging → Staging) : (s.modStage i f).pending = s.pending := rfl
@[simp] theorem due_modStage (i : Nat) (f : Staging → Staging) : (s.modStage i f).due = s.due := rfl
@[simp] theorem resetInput_modStage (i : Nat) (f : Staging → Staging) : (s.modStage i f).resetInput = s.resetInput := rfl
@[simp] theorem mode_modStage (i : Nat) (f : Staging → Staging) : (s.modStage i f).mode = s.mode := rfl
@[simp] theorem layout_modStage (i : Nat) (f : Staging → Staging) : (s.modStage i f).layout = s.layout := rfl
@[simp] theorem ring_modStage (i : Nat) (f : Staging → Staging) : (s.modStage i f).ring = s.ring := rfl
@[simp] theorem styles_modStage (i : Nat) (f : Staging → Staging) : (s.modStage i f).styles = s.styles := rfl
@[simp] theorem sets_modStage (i : Nat) (f : Staging → Staging) : (s.modStage i f).sets = s.sets := rfl
@[simp] theorem bodies_modStage (i : Nat) (f : Staging → Staging) : (s.modStage i f).bodies = s.bodies := rfl
@[simp] theorem nextKey_modStage (i : Nat) (f : Staging → Staging) : (s.modStage i f).nextKey = s.nextKey := rfl
@[simp] theorem lineList_modStage (i : Nat) (f : Staging → Staging) : (s.modStage i f).lineList = s.lineList := rfl
@[simp] theorem stations_modStage (i : Nat) (f : Staging → Staging) : (s.modStage i f).stations = s.stations := rfl
@[simp] theorem lines_modStage (i : Nat) (f : Staging → Staging) : (s.modStage i f).lines = s.lines := rfl
@[simp] theorem library_modStage (i : Nat) (f : Staging → Staging) : (s.modStage i f).library = s.library := rfl
@[simp] theorem schedules_modStage (i : Nat) (f : Staging → Staging) : (s.modStage i f).schedules = s.schedules := rfl
@[simp] theorem curves_modStage (i : Nat) (f : Staging → Staging) : (s.modStage i f).curves = s.curves := rfl
@[simp] theorem robots_modStage (i : Nat) (f : Staging → Staging) : (s.modStage i f).robots = s.robots := rfl
@[simp] theorem staging_modStage (i : Nat) (f : Staging → Staging) : (s.modStage i f).staging = tset s.staging i (f (s.stage i)) := rfl
@[simp] theorem pend_modStage (i : Nat) (f : Staging → Staging) : (s.modStage i f).pend = s.pend := rfl
@[simp] theorem buses_modStage (i : Nat) (f : Staging → Staging) : (s.modStage i f).buses = s.buses := rfl
@[simp] theorem ports_modStage (i : Nat) (f : Staging → Staging) : (s.modStage i f).ports = s.ports := rfl
@[simp] theorem attention_modStage (i : Nat) (f : Staging → Staging) : (s.modStage i f).attention = s.attention := rfl

/-! modPend -/

@[simp] theorem pending_modPend (i : Nat) (f : Pend → Pend) : (s.modPend i f).pending = s.pending := rfl
@[simp] theorem due_modPend (i : Nat) (f : Pend → Pend) : (s.modPend i f).due = s.due := rfl
@[simp] theorem resetInput_modPend (i : Nat) (f : Pend → Pend) : (s.modPend i f).resetInput = s.resetInput := rfl
@[simp] theorem mode_modPend (i : Nat) (f : Pend → Pend) : (s.modPend i f).mode = s.mode := rfl
@[simp] theorem layout_modPend (i : Nat) (f : Pend → Pend) : (s.modPend i f).layout = s.layout := rfl
@[simp] theorem ring_modPend (i : Nat) (f : Pend → Pend) : (s.modPend i f).ring = s.ring := rfl
@[simp] theorem styles_modPend (i : Nat) (f : Pend → Pend) : (s.modPend i f).styles = s.styles := rfl
@[simp] theorem sets_modPend (i : Nat) (f : Pend → Pend) : (s.modPend i f).sets = s.sets := rfl
@[simp] theorem bodies_modPend (i : Nat) (f : Pend → Pend) : (s.modPend i f).bodies = s.bodies := rfl
@[simp] theorem nextKey_modPend (i : Nat) (f : Pend → Pend) : (s.modPend i f).nextKey = s.nextKey := rfl
@[simp] theorem lineList_modPend (i : Nat) (f : Pend → Pend) : (s.modPend i f).lineList = s.lineList := rfl
@[simp] theorem stations_modPend (i : Nat) (f : Pend → Pend) : (s.modPend i f).stations = s.stations := rfl
@[simp] theorem lines_modPend (i : Nat) (f : Pend → Pend) : (s.modPend i f).lines = s.lines := rfl
@[simp] theorem library_modPend (i : Nat) (f : Pend → Pend) : (s.modPend i f).library = s.library := rfl
@[simp] theorem schedules_modPend (i : Nat) (f : Pend → Pend) : (s.modPend i f).schedules = s.schedules := rfl
@[simp] theorem curves_modPend (i : Nat) (f : Pend → Pend) : (s.modPend i f).curves = s.curves := rfl
@[simp] theorem robots_modPend (i : Nat) (f : Pend → Pend) : (s.modPend i f).robots = s.robots := rfl
@[simp] theorem staging_modPend (i : Nat) (f : Pend → Pend) : (s.modPend i f).staging = s.staging := rfl
@[simp] theorem pend_modPend (i : Nat) (f : Pend → Pend) : (s.modPend i f).pend = tset s.pend i (f (s.pendOf i)) := rfl
@[simp] theorem buses_modPend (i : Nat) (f : Pend → Pend) : (s.modPend i f).buses = s.buses := rfl
@[simp] theorem ports_modPend (i : Nat) (f : Pend → Pend) : (s.modPend i f).ports = s.ports := rfl
@[simp] theorem attention_modPend (i : Nat) (f : Pend → Pend) : (s.modPend i f).attention = s.attention := rfl

/-! modBus -/

@[simp] theorem pending_modBus (i : Nat) (f : Bus → Bus) : (s.modBus i f).pending = s.pending := rfl
@[simp] theorem due_modBus (i : Nat) (f : Bus → Bus) : (s.modBus i f).due = s.due := rfl
@[simp] theorem resetInput_modBus (i : Nat) (f : Bus → Bus) : (s.modBus i f).resetInput = s.resetInput := rfl
@[simp] theorem mode_modBus (i : Nat) (f : Bus → Bus) : (s.modBus i f).mode = s.mode := rfl
@[simp] theorem layout_modBus (i : Nat) (f : Bus → Bus) : (s.modBus i f).layout = s.layout := rfl
@[simp] theorem ring_modBus (i : Nat) (f : Bus → Bus) : (s.modBus i f).ring = s.ring := rfl
@[simp] theorem styles_modBus (i : Nat) (f : Bus → Bus) : (s.modBus i f).styles = s.styles := rfl
@[simp] theorem sets_modBus (i : Nat) (f : Bus → Bus) : (s.modBus i f).sets = s.sets := rfl
@[simp] theorem bodies_modBus (i : Nat) (f : Bus → Bus) : (s.modBus i f).bodies = s.bodies := rfl
@[simp] theorem nextKey_modBus (i : Nat) (f : Bus → Bus) : (s.modBus i f).nextKey = s.nextKey := rfl
@[simp] theorem lineList_modBus (i : Nat) (f : Bus → Bus) : (s.modBus i f).lineList = s.lineList := rfl
@[simp] theorem stations_modBus (i : Nat) (f : Bus → Bus) : (s.modBus i f).stations = s.stations := rfl
@[simp] theorem lines_modBus (i : Nat) (f : Bus → Bus) : (s.modBus i f).lines = s.lines := rfl
@[simp] theorem library_modBus (i : Nat) (f : Bus → Bus) : (s.modBus i f).library = s.library := rfl
@[simp] theorem schedules_modBus (i : Nat) (f : Bus → Bus) : (s.modBus i f).schedules = s.schedules := rfl
@[simp] theorem curves_modBus (i : Nat) (f : Bus → Bus) : (s.modBus i f).curves = s.curves := rfl
@[simp] theorem robots_modBus (i : Nat) (f : Bus → Bus) : (s.modBus i f).robots = s.robots := rfl
@[simp] theorem staging_modBus (i : Nat) (f : Bus → Bus) : (s.modBus i f).staging = s.staging := rfl
@[simp] theorem pend_modBus (i : Nat) (f : Bus → Bus) : (s.modBus i f).pend = s.pend := rfl
@[simp] theorem buses_modBus (i : Nat) (f : Bus → Bus) : (s.modBus i f).buses = tset s.buses i (f (s.bus i)) := rfl
@[simp] theorem ports_modBus (i : Nat) (f : Bus → Bus) : (s.modBus i f).ports = s.ports := rfl
@[simp] theorem attention_modBus (i : Nat) (f : Bus → Bus) : (s.modBus i f).attention = s.attention := rfl

/-! modPort -/

@[simp] theorem pending_modPort (i : Nat) (f : Port → Port) : (s.modPort i f).pending = s.pending := rfl
@[simp] theorem due_modPort (i : Nat) (f : Port → Port) : (s.modPort i f).due = s.due := rfl
@[simp] theorem resetInput_modPort (i : Nat) (f : Port → Port) : (s.modPort i f).resetInput = s.resetInput := rfl
@[simp] theorem mode_modPort (i : Nat) (f : Port → Port) : (s.modPort i f).mode = s.mode := rfl
@[simp] theorem layout_modPort (i : Nat) (f : Port → Port) : (s.modPort i f).layout = s.layout := rfl
@[simp] theorem ring_modPort (i : Nat) (f : Port → Port) : (s.modPort i f).ring = s.ring := rfl
@[simp] theorem styles_modPort (i : Nat) (f : Port → Port) : (s.modPort i f).styles = s.styles := rfl
@[simp] theorem sets_modPort (i : Nat) (f : Port → Port) : (s.modPort i f).sets = s.sets := rfl
@[simp] theorem bodies_modPort (i : Nat) (f : Port → Port) : (s.modPort i f).bodies = s.bodies := rfl
@[simp] theorem nextKey_modPort (i : Nat) (f : Port → Port) : (s.modPort i f).nextKey = s.nextKey := rfl
@[simp] theorem lineList_modPort (i : Nat) (f : Port → Port) : (s.modPort i f).lineList = s.lineList := rfl
@[simp] theorem stations_modPort (i : Nat) (f : Port → Port) : (s.modPort i f).stations = s.stations := rfl
@[simp] theorem lines_modPort (i : Nat) (f : Port → Port) : (s.modPort i f).lines = s.lines := rfl
@[simp] theorem library_modPort (i : Nat) (f : Port → Port) : (s.modPort i f).library = s.library := rfl
@[simp] theorem schedules_modPort (i : Nat) (f : Port → Port) : (s.modPort i f).schedules = s.schedules := rfl
@[simp] theorem curves_modPort (i : Nat) (f : Port → Port) : (s.modPort i f).curves = s.curves := rfl
@[simp] theorem robots_modPort (i : Nat) (f : Port → Port) : (s.modPort i f).robots = s.robots := rfl
@[simp] theorem staging_modPort (i : Nat) (f : Port → Port) : (s.modPort i f).staging = s.staging := rfl
@[simp] theorem pend_modPort (i : Nat) (f : Port → Port) : (s.modPort i f).pend = s.pend := rfl
@[simp] theorem buses_modPort (i : Nat) (f : Port → Port) : (s.modPort i f).buses = s.buses := rfl
@[simp] theorem ports_modPort (i : Nat) (f : Port → Port) : (s.modPort i f).ports = tset s.ports i (f (s.port i)) := rfl
@[simp] theorem attention_modPort (i : Nat) (f : Port → Port) : (s.modPort i f).attention = s.attention := rfl

/-! modAttn -/

@[simp] theorem pending_modAttn (i : Nat) (f : Attention → Attention) : (s.modAttn i f).pending = s.pending := rfl
@[simp] theorem due_modAttn (i : Nat) (f : Attention → Attention) : (s.modAttn i f).due = s.due := rfl
@[simp] theorem resetInput_modAttn (i : Nat) (f : Attention → Attention) : (s.modAttn i f).resetInput = s.resetInput := rfl
@[simp] theorem mode_modAttn (i : Nat) (f : Attention → Attention) : (s.modAttn i f).mode = s.mode := rfl
@[simp] theorem layout_modAttn (i : Nat) (f : Attention → Attention) : (s.modAttn i f).layout = s.layout := rfl
@[simp] theorem ring_modAttn (i : Nat) (f : Attention → Attention) : (s.modAttn i f).ring = s.ring := rfl
@[simp] theorem styles_modAttn (i : Nat) (f : Attention → Attention) : (s.modAttn i f).styles = s.styles := rfl
@[simp] theorem sets_modAttn (i : Nat) (f : Attention → Attention) : (s.modAttn i f).sets = s.sets := rfl
@[simp] theorem bodies_modAttn (i : Nat) (f : Attention → Attention) : (s.modAttn i f).bodies = s.bodies := rfl
@[simp] theorem nextKey_modAttn (i : Nat) (f : Attention → Attention) : (s.modAttn i f).nextKey = s.nextKey := rfl
@[simp] theorem lineList_modAttn (i : Nat) (f : Attention → Attention) : (s.modAttn i f).lineList = s.lineList := rfl
@[simp] theorem stations_modAttn (i : Nat) (f : Attention → Attention) : (s.modAttn i f).stations = s.stations := rfl
@[simp] theorem lines_modAttn (i : Nat) (f : Attention → Attention) : (s.modAttn i f).lines = s.lines := rfl
@[simp] theorem library_modAttn (i : Nat) (f : Attention → Attention) : (s.modAttn i f).library = s.library := rfl
@[simp] theorem schedules_modAttn (i : Nat) (f : Attention → Attention) : (s.modAttn i f).schedules = s.schedules := rfl
@[simp] theorem curves_modAttn (i : Nat) (f : Attention → Attention) : (s.modAttn i f).curves = s.curves := rfl
@[simp] theorem robots_modAttn (i : Nat) (f : Attention → Attention) : (s.modAttn i f).robots = s.robots := rfl
@[simp] theorem staging_modAttn (i : Nat) (f : Attention → Attention) : (s.modAttn i f).staging = s.staging := rfl
@[simp] theorem pend_modAttn (i : Nat) (f : Attention → Attention) : (s.modAttn i f).pend = s.pend := rfl
@[simp] theorem buses_modAttn (i : Nat) (f : Attention → Attention) : (s.modAttn i f).buses = s.buses := rfl
@[simp] theorem ports_modAttn (i : Nat) (f : Attention → Attention) : (s.modAttn i f).ports = s.ports := rfl
@[simp] theorem attention_modAttn (i : Nat) (f : Attention → Attention) : (s.modAttn i f).attention = tset s.attention i (f (s.attn i)) := rfl

/-! setRing -/

@[simp] theorem pending_setRing (g : Ring) : (s.setRing g).pending = s.pending := rfl
@[simp] theorem due_setRing (g : Ring) : (s.setRing g).due = s.due := rfl
@[simp] theorem resetInput_setRing (g : Ring) : (s.setRing g).resetInput = s.resetInput := rfl
@[simp] theorem mode_setRing (g : Ring) : (s.setRing g).mode = s.mode := rfl
@[simp] theorem layout_setRing (g : Ring) : (s.setRing g).layout = s.layout := rfl
@[simp] theorem ring_setRing (g : Ring) : (s.setRing g).ring = g := rfl
@[simp] theorem styles_setRing (g : Ring) : (s.setRing g).styles = s.styles := rfl
@[simp] theorem sets_setRing (g : Ring) : (s.setRing g).sets = s.sets := rfl
@[simp] theorem bodies_setRing (g : Ring) : (s.setRing g).bodies = s.bodies := rfl
@[simp] theorem nextKey_setRing (g : Ring) : (s.setRing g).nextKey = s.nextKey := rfl
@[simp] theorem lineList_setRing (g : Ring) : (s.setRing g).lineList = s.lineList := rfl
@[simp] theorem stations_setRing (g : Ring) : (s.setRing g).stations = s.stations := rfl
@[simp] theorem lines_setRing (g : Ring) : (s.setRing g).lines = s.lines := rfl
@[simp] theorem library_setRing (g : Ring) : (s.setRing g).library = s.library := rfl
@[simp] theorem schedules_setRing (g : Ring) : (s.setRing g).schedules = s.schedules := rfl
@[simp] theorem curves_setRing (g : Ring) : (s.setRing g).curves = s.curves := rfl
@[simp] theorem robots_setRing (g : Ring) : (s.setRing g).robots = s.robots := rfl
@[simp] theorem staging_setRing (g : Ring) : (s.setRing g).staging = s.staging := rfl
@[simp] theorem pend_setRing (g : Ring) : (s.setRing g).pend = s.pend := rfl
@[simp] theorem buses_setRing (g : Ring) : (s.setRing g).buses = s.buses := rfl
@[simp] theorem ports_setRing (g : Ring) : (s.setRing g).ports = s.ports := rfl
@[simp] theorem attention_setRing (g : Ring) : (s.setRing g).attention = s.attention := rfl

/-! raise -/

@[simp] theorem pending_raise (k : Kind) (n : Nat) : (s.raise k n).pending = s.pending := rfl
@[simp] theorem due_raise (k : Kind) (n : Nat) : (s.raise k n).due = s.due := rfl
@[simp] theorem resetInput_raise (k : Kind) (n : Nat) : (s.raise k n).resetInput = s.resetInput := rfl
@[simp] theorem mode_raise (k : Kind) (n : Nat) : (s.raise k n).mode = s.mode := rfl
@[simp] theorem layout_raise (k : Kind) (n : Nat) : (s.raise k n).layout = s.layout := rfl
@[simp] theorem ring_raise (k : Kind) (n : Nat) : (s.raise k n).ring = s.ring := rfl
@[simp] theorem styles_raise (k : Kind) (n : Nat) : (s.raise k n).styles = s.styles := rfl
@[simp] theorem sets_raise (k : Kind) (n : Nat) : (s.raise k n).sets = s.sets := rfl
@[simp] theorem bodies_raise (k : Kind) (n : Nat) : (s.raise k n).bodies = s.bodies := rfl
@[simp] theorem nextKey_raise (k : Kind) (n : Nat) : (s.raise k n).nextKey = s.nextKey := rfl
@[simp] theorem lineList_raise (k : Kind) (n : Nat) : (s.raise k n).lineList = s.lineList := rfl
@[simp] theorem stations_raise (k : Kind) (n : Nat) : (s.raise k n).stations = s.stations := rfl
@[simp] theorem lines_raise (k : Kind) (n : Nat) : (s.raise k n).lines = s.lines := rfl
@[simp] theorem library_raise (k : Kind) (n : Nat) : (s.raise k n).library = s.library := rfl
@[simp] theorem schedules_raise (k : Kind) (n : Nat) : (s.raise k n).schedules = s.schedules := rfl
@[simp] theorem curves_raise (k : Kind) (n : Nat) : (s.raise k n).curves = s.curves := rfl
@[simp] theorem robots_raise (k : Kind) (n : Nat) : (s.raise k n).robots = s.robots := rfl
@[simp] theorem staging_raise (k : Kind) (n : Nat) : (s.raise k n).staging = s.staging := rfl
@[simp] theorem pend_raise (k : Kind) (n : Nat) : (s.raise k n).pend = s.pend := rfl
@[simp] theorem buses_raise (k : Kind) (n : Nat) : (s.raise k n).buses = s.buses := rfl
@[simp] theorem ports_raise (k : Kind) (n : Nat) : (s.raise k n).ports = s.ports := rfl
@[simp] theorem attention_raise (k : Kind) (n : Nat) : (s.raise k n).attention = s.attention.map (Attention.offer k n) := rfl

/-! owe -/

@[simp] theorem pending_owe (ds : List Due) : (s.owe ds).pending = s.pending := rfl
@[simp] theorem due_owe (ds : List Due) : (s.owe ds).due = s.due ++ ds := rfl
@[simp] theorem resetInput_owe (ds : List Due) : (s.owe ds).resetInput = s.resetInput := rfl
@[simp] theorem mode_owe (ds : List Due) : (s.owe ds).mode = s.mode := rfl
@[simp] theorem layout_owe (ds : List Due) : (s.owe ds).layout = s.layout := rfl
@[simp] theorem ring_owe (ds : List Due) : (s.owe ds).ring = s.ring := rfl
@[simp] theorem styles_owe (ds : List Due) : (s.owe ds).styles = s.styles := rfl
@[simp] theorem sets_owe (ds : List Due) : (s.owe ds).sets = s.sets := rfl
@[simp] theorem bodies_owe (ds : List Due) : (s.owe ds).bodies = s.bodies := rfl
@[simp] theorem nextKey_owe (ds : List Due) : (s.owe ds).nextKey = s.nextKey := rfl
@[simp] theorem lineList_owe (ds : List Due) : (s.owe ds).lineList = s.lineList := rfl
@[simp] theorem stations_owe (ds : List Due) : (s.owe ds).stations = s.stations := rfl
@[simp] theorem lines_owe (ds : List Due) : (s.owe ds).lines = s.lines := rfl
@[simp] theorem library_owe (ds : List Due) : (s.owe ds).library = s.library := rfl
@[simp] theorem schedules_owe (ds : List Due) : (s.owe ds).schedules = s.schedules := rfl
@[simp] theorem curves_owe (ds : List Due) : (s.owe ds).curves = s.curves := rfl
@[simp] theorem robots_owe (ds : List Due) : (s.owe ds).robots = s.robots := rfl
@[simp] theorem staging_owe (ds : List Due) : (s.owe ds).staging = s.staging := rfl
@[simp] theorem pend_owe (ds : List Due) : (s.owe ds).pend = s.pend := rfl
@[simp] theorem buses_owe (ds : List Due) : (s.owe ds).buses = s.buses := rfl
@[simp] theorem ports_owe (ds : List Due) : (s.owe ds).ports = s.ports := rfl
@[simp] theorem attention_owe (ds : List Due) : (s.owe ds).attention = s.attention := rfl

end State
end Machine
end Sys2Proof
end

