-- ==== Sys2Proof/Laws/Tables.lean ====
section
/-!
SUPPORT. Reading a table after writing it: what `tget` gives after `tset`, and what each named read of State gives after
each named update.
-/
namespace Sys2Proof
namespace Machine

section
variable {α : Type} {n : Nat} (d : α) (v : Vector α n) (i j : Nat) (a : α)

theorem tget_eq (h : i < n) : tget d v i = v[i] := by simp [tget, h]

theorem tget_of_ge (h : n ≤ i) : tget d v i = d := by simp [tget, Nat.not_lt.mpr h]

@[simp] theorem tget_tset_self (h : i < n) : tget d (tset v i a) i = a := by simp [tget, tset, h]

@[simp] theorem tget_tset_ne (h : j ≠ i) : tget d (tset v i a) j = tget d v j := by
  simp [tget, tset, Ne.symm h]

/-- A write outside a table changes nothing. -/
theorem tset_of_ge (h : n ≤ i) : tset v i a = v := by
  ext k hk; simp [tset, Vector.getElem_setIfInBounds]; omega

/-- A read after a write: the value written at its own place, the old value elsewhere. -/
theorem tget_tset : tget d (tset v i a) j = if j = i ∧ i < n then a else tget d v j := by
  by_cases hj : j = i
  · subst hj
    by_cases h : j < n
    · simp [h]
    · simp [h, tget_of_ge d _ j (Nat.not_lt.mp h)]
  · simp [hj]

/-- The last of two writes of one entry stands. -/
@[simp] theorem tset_tset (b : α) : tset (tset v i a) i b = tset v i b := by
  ext k hk; simp only [tset, Vector.getElem_setIfInBounds]; split <;> rfl

theorem tget_map {β : Type} (f : α → β) (e : β) (h : i < n) : tget e (v.map f) i = f (tget d v i) := by
  simp [tget, h]

theorem tget_replicate (h : i < n) : tget d (Vector.replicate n a) i = a := by simp [tget, h]
end

namespace State
variable (s : State) (i j : Nat)

@[simp] theorem station_modStation_self (f : Station → Station) (h : i < 16) :
    (s.modStation i f).station i = f (s.station i) := by simp [station, h]
@[simp] theorem station_modStation_ne (f : Station → Station) (h : j ≠ i) :
    (s.modStation i f).station j = s.station j := by simp [station, h]
@[simp] theorem presence_modPresence_self (f : Presence → Presence) (h : i < 16) :
    (s.modPresence i f).presence i = f (s.presence i) := by simp [presence, h]
@[simp] theorem presence_modPresence_ne (f : Presence → Presence) (h : j ≠ i) :
    (s.modPresence i f).presence j = s.presence j := by simp [presence, h]
@[simp] theorem robot_modRobot_self (f : Robot → Robot) (h : i < 32) :
    (s.modRobot i f).robot i = f (s.robot i) := by simp [robot, h]
@[simp] theorem robot_modRobot_ne (f : Robot → Robot) (h : j ≠ i) :
    (s.modRobot i f).robot j = s.robot j := by simp [robot, h]
@[simp] theorem stage_modStage_self (f : Staging → Staging) (h : i < 32) :
    (s.modStage i f).stage i = f (s.stage i) := by simp [stage, h]
@[simp] theorem stage_modStage_ne (f : Staging → Staging) (h : j ≠ i) :
    (s.modStage i f).stage j = s.stage j := by simp [stage, h]
@[simp] theorem pendOf_modPend_self (f : Pend → Pend) (h : i < 32) :
    (s.modPend i f).pendOf i = f (s.pendOf i) := by simp [pendOf, h]
@[simp] theorem pendOf_modPend_ne (f : Pend → Pend) (h : j ≠ i) :
    (s.modPend i f).pendOf j = s.pendOf j := by simp [pendOf, h]
@[simp] theorem bus_modBus_self (f : Bus → Bus) (h : i < 4) : (s.modBus i f).bus i = f (s.bus i) := by
  simp [bus, h]
@[simp] theorem bus_modBus_ne (f : Bus → Bus) (h : j ≠ i) : (s.modBus i f).bus j = s.bus j := by
  simp [bus, h]
@[simp] theorem port_modPort_self (f : Port → Port) (h : i < 4) : (s.modPort i f).port i = f (s.port i) := by
  simp [port, h]
@[simp] theorem port_modPort_ne (f : Port → Port) (h : j ≠ i) : (s.modPort i f).port j = s.port j := by
  simp [port, h]
@[simp] theorem attn_modAttn_self (f : Attention → Attention) (h : i < 4) :
    (s.modAttn i f).attn i = f (s.attn i) := by simp [attn, h]
@[simp] theorem attn_modAttn_ne (f : Attention → Attention) (h : j ≠ i) :
    (s.modAttn i f).attn j = s.attn j := by simp [attn, h]
@[simp] theorem style_setStyle_self (e : StyleEntry) (h : i < 256) : (s.setStyle i e).style i = e := by
  simp [style, h]
@[simp] theorem style_setStyle_ne (e : StyleEntry) (h : j ≠ i) : (s.setStyle i e).style j = s.style j := by
  simp [style, h]
@[simp] theorem dispatchSet_setSet_self (e : SetEntry) (h : i < 128) : (s.setSet i e).dispatchSet i = e := by
  simp [dispatchSet, h]
@[simp] theorem dispatchSet_setSet_ne (e : SetEntry) (h : j ≠ i) :
    (s.setSet i e).dispatchSet j = s.dispatchSet j := by simp [dispatchSet, h]
@[simp] theorem prog_setProg_self (p : Prog) (h : i < 512) : (s.setProg i p).prog i = p := by
  simp [prog, h]
@[simp] theorem prog_setProg_ne (p : Prog) (h : j ≠ i) : (s.setProg i p).prog j = s.prog j := by
  simp [prog, h]
@[simp] theorem schedule_setSchedule_self (e : Option Schedule) (h : i < 64) :
    (s.setSchedule i e).schedule i = e := by simp [schedule, h]
@[simp] theorem schedule_setSchedule_ne (e : Option Schedule) (h : j ≠ i) :
    (s.setSchedule i e).schedule j = s.schedule j := by simp [schedule, h]
@[simp] theorem curve_setCurve_self (c : List CurveStep) (h : i < 8) : (s.setCurve i c).curve i = some c := by
  simp [curve, h]
@[simp] theorem curve_setCurve_ne (c : List CurveStep) (h : j ≠ i) : (s.setCurve i c).curve j = s.curve j := by
  simp [curve, h]

/-! Two changes of one entry are one change. -/

theorem modStation_modStation (f g : Station → Station) (h : i < 16) :
    (s.modStation i f).modStation i g = s.modStation i fun x => g (f x) := by simp [modStation, station, h]
theorem modPresence_modPresence (f g : Presence → Presence) (h : i < 16) :
    (s.modPresence i f).modPresence i g = s.modPresence i fun x => g (f x) := by simp [modPresence, presence, h]
theorem modRobot_modRobot (f g : Robot → Robot) (h : i < 32) :
    (s.modRobot i f).modRobot i g = s.modRobot i fun x => g (f x) := by simp [modRobot, robot, h]
theorem modStage_modStage (f g : Staging → Staging) (h : i < 32) :
    (s.modStage i f).modStage i g = s.modStage i fun x => g (f x) := by simp [modStage, stage, h]
theorem modPend_modPend (f g : Pend → Pend) (h : i < 32) :
    (s.modPend i f).modPend i g = s.modPend i fun x => g (f x) := by simp [modPend, pendOf, h]
theorem modBus_modBus (f g : Bus → Bus) (h : i < 4) :
    (s.modBus i f).modBus i g = s.modBus i fun x => g (f x) := by simp [modBus, bus, h]
theorem modPort_modPort (f g : Port → Port) (h : i < 4) :
    (s.modPort i f).modPort i g = s.modPort i fun x => g (f x) := by simp [modPort, port, h]
theorem modAttn_modAttn (f g : Attention → Attention) (h : i < 4) :
    (s.modAttn i f).modAttn i g = s.modAttn i fun x => g (f x) := by simp [modAttn, attn, h]

/-- An event raised is offered to every port's latches (R180). -/
@[simp] theorem attn_raise (k : Kind) (n : Nat) (h : i < 4) :
    (s.raise k n).attn i = (s.attn i).offer k n := by
  simp only [attn, attention_raise]
  exact tget_map _ _ _ _ _ h

end State
end Machine
end Sys2Proof
end

