-- ==== Sys2Proof/Laws/Bodies.lean ====
section
/-!
SUPPORT. Reading the Body Table, the namings and the references after the operations that change them.
-/
namespace Sys2Proof
namespace Machine
namespace State

variable (s : State) (k j : Nat) (f : Body → Body)

/-- States with the same Body Table name the same records. -/
theorem bodyOf_congr {t : State} (h : t.bodies = s.bodies) : t.bodyOf k = s.bodyOf k := by simp [bodyOf, h]

/-- The record named has the key it is named by. -/
theorem key_of_bodyOf {b : Body} (h : s.bodyOf k = some b) : b.key = k := by
  have := List.find?_some h
  simpa using this

/-- A record named is in the Body Table. -/
theorem mem_of_bodyOf {b : Body} (h : s.bodyOf k = some b) : b ∈ s.bodies := List.mem_of_find?_eq_some h

/-- The record with a key, after a change that keeps keys. -/
theorem bodyOf_modBody (hf : ∀ b, (f b).key = b.key) :
    (s.modBody k f).bodyOf j = (s.bodyOf j).map fun b => if j = k then f b else b := by
  simp only [bodyOf, modBody]
  induction s.bodies with
  | nil => rfl
  | cons b rest ih =>
    have hk : ((if b.key = k then f b else b).key == j) = (b.key == j) := by split <;> simp [hf]
    simp only [List.map_cons, List.find?_cons, hk]
    by_cases hb : b.key = j
    · subst hb
      simp
    · simp only [beq_eq_false_iff_ne.mpr hb]
      exact ih

theorem bodyOf_modBody_self (hf : ∀ b, (f b).key = b.key) {b : Body} (h : s.bodyOf k = some b) :
    (s.modBody k f).bodyOf k = some (f b) := by simp [bodyOf_modBody _ _ _ _ hf, h]

theorem bodyOf_modBody_ne (hf : ∀ b, (f b).key = b.key) (h : j ≠ k) : (s.modBody k f).bodyOf j = s.bodyOf j := by
  simp [bodyOf_modBody _ _ _ _ hf, h]

/-- A change that changes no record changes nothing. -/
theorem modBody_id (hf : ∀ b, f b = b) : s.modBody k f = s := by
  have : (s.bodies.map fun b => if b.key = k then f b else b) = s.bodies := by
    conv_rhs => rw [← List.map_id s.bodies]
    exact List.map_congr_left fun b _ => by simp [hf]
  simp [modBody, this]

/-! ### Namings and references -/

/-- A set after a naming is gained (R33). -/
theorem dispatchSet_addNaming (n : Option Nat) (h : k < 128) :
    (s.addNaming n).dispatchSet k =
      { s.dispatchSet k with inUse := (s.dispatchSet k).inUse + if n = some k then 1 else 0 } := by
  cases n with
  | none => simp [addNaming]
  | some m =>
    by_cases e : k = m
    · subst e
      simp [addNaming, h]
    · simp [addNaming, e, Ne.symm e]

/-- A set after a naming is lost (R33). -/
theorem dispatchSet_dropNaming (n : Option Nat) :
    (s.dropNaming n).dispatchSet k =
      { s.dispatchSet k with inUse := (s.dispatchSet k).inUse - if n = some k then 1 else 0 } := by
  cases n with
  | none => simp [dropNaming]
  | some m =>
    by_cases e : k = m
    · subst e
      by_cases h : k < 128
      · simp [dropNaming, h]
      · simp [dropNaming, setSet, dispatchSet, tget_of_ge _ _ _ (Nat.not_lt.mp h)]
    · simp [dropNaming, e, Ne.symm e]

/-- A program after a reference is gained (R90). -/
theorem prog_addRef (n : Nat) (h : k < 512) :
    (s.addRef n).prog k = { s.prog k with refs := (s.prog k).refs + if n = k then 1 else 0 } := by
  by_cases e : k = n
  · subst e
    simp [addRef, h]
  · simp [addRef, e, Ne.symm e]

/-- A program after a reference is lost (R90). -/
theorem prog_dropRef (n : Nat) :
    (s.dropRef n).prog k = { s.prog k with refs := (s.prog k).refs - if n = k then 1 else 0 } := by
  by_cases e : k = n
  · subst e
    by_cases h : k < 512
    · simp [dropRef, h]
    · simp [dropRef, setProg, prog, tget_of_ge _ _ _ (Nat.not_lt.mp h)]
  · simp [dropRef, e, Ne.symm e]

/-- The record of a key after its state, or another field, is marked Incomplete (R38). -/
theorem markIncomplete_of_some {b : Body} (h : s.bodyOf k = some b) :
    s.markIncomplete k = (s.modBody k fun b => { b with incomplete := true }).raise .bodyIncomplete b.tag.toNat := by
  simp [markIncomplete, h]

end State
end Machine
end Sys2Proof
end

