-- ==== Sys2Proof/Laws/Requests.lean ====
section
/-!
SUPPORT. What receiving and serving a request does, once: a port that listens takes it at once, a port that grants its group
hands it to its block, and the reply is the only other change to the ports.
-/
namespace Sys2Proof
namespace Machine
namespace State

variable (s : State)

/-- The port a good frame completed on. -/
theorem port_goodFrameOn (p : Fin 4) :
    (s.goodFrameOn p.val).port p.val = { (s.port p.val).goodFrame with rx := .hunting } := by
  simp [goodFrameOn, p.isLt]

theorem port_goodFrameOn_ne (p q : Nat) (h : q ≠ p) : (s.goodFrameOn p).port q = s.port q := by
  simp [goodFrameOn, h]

/-- A good frame changes the ports only. -/
theorem goodFrameOn_eq (p : Nat) : s.goodFrameOn p = { s with ports := (s.goodFrameOn p).ports } := rfl

/-- A port that listens takes the request at once (R171). -/
theorem receive_of_listens {h : Hdr} (hl : s.listens h.port) (i : Instr) (take : State → State) :
    s.receive h i take = take (s.goodFrameOn h.port.val) := by
  obtain ⟨h1, h2, h3⟩ := hl
  simp [receive, receiverClosed, h1, h2, h3]

/-- A port that grants a group hands the request to its block (R177). -/
theorem portRefusal_of_grants {p : Fin 4} {g : Group} (hg : s.grants p g) :
    (s.goodFrameOn p.val).portRefusal p g = none := by
  cases g <;> simp only [grants] at hg <;> simp [portRefusal, port_goodFrameOn, Port.goodFrame, hg]
  all_goals
    obtain ⟨-, hd⟩ := hg
    intro h1
    have := hd h1
    omega

/-- A request on a port that listens and grants its group: the good frame, the block, the reply (R171, R177, R178). -/
theorem receive_serve {h : Hdr} {g : Group} (hl : s.listens h.port) (hg : s.grants h.port g) (i : Instr) (kind : Byte)
    (block : State → Served) (k : Contents) :
    s.receive h i (fun u => State.serve h kind g block u k) =
      (block (s.goodFrameOn h.port.val)).state.sendReply h kind (block (s.goodFrameOn h.port.val)).code
        (block (s.goodFrameOn h.port.val)).contents := by
  rw [s.receive_of_listens hl]
  simp [serve, s.portRefusal_of_grants hg]

/-- The reply built after a block that leaves the ports alone is what `answered` says. -/
theorem answered_sendReply {h : Hdr} {u : State} (hu : u.ports = (s.goodFrameOn h.port.val).ports) (kind : Byte)
    (c : Code) (k : Contents) : answered h kind c k s (u.sendReply h kind c k) := by
  have hp : ∀ q, u.port q = (s.goodFrameOn h.port.val).port q := fun q => by simp [port, hu]
  have ha : (u.sendReply h kind c k).attn h.port.val = u.attn h.port.val := rfl
  refine ⟨?_, fun q hq => ?_⟩
  · rw [ha, sendReply, port_modPort_self _ _ _ h.port.isLt, hp, port_goodFrameOn]
    rfl
  · rw [sendReply, port_modPort_ne _ _ _ _ hq, hp, port_goodFrameOn_ne _ _ _ hq]

/-- The reply changes the ports only. -/
theorem sendReply_eq (h : Hdr) (kind : Byte) (c : Code) (k : Contents) :
    s.sendReply h kind c k = { s with ports := (s.sendReply h kind c k).ports } := rfl

end State
end Machine
end Sys2Proof
end

