-- ==== Sys2Proof/Laws/Commands.lean ====
section
/-!
SUPPORT. What every command does, in one shape: a request is received and served by its block, and a property that the good
frame, the held frame, the reply and the block keep is kept by the request; the events work only while RESET is not asserted, and
a drop bus reply is taken or ends the sending.
-/
namespace Sys2Proof
namespace Machine

/-- The block that serves a request; what is no request changes nothing. -/
def requestBlock (i : Instr) : State → Served :=
  match i with
  | .powerOn _ _ => fun s => s.refuse .range
  | .resetAssert => fun s => s.refuse .range
  | .resetRelease _ _ => fun s => s.refuse .range
  | .status h => fun s => statusBlock h s
  | .queryBody h tag => fun s => queryBodyBlock h tag s
  | .queryStation h station => fun s => queryStationBlock h station s
  | .queryRobot h robot => fun s => queryRobotBlock h robot s
  | .queryProgram h program range => fun s => queryProgramBlock h program range s
  | .queryStyle h style => fun s => queryStyleBlock h style s
  | .querySet h setNo => fun s => querySetBlock h setNo s
  | .readAttention h => fun s => readAttentionBlock h s
  | .setAttentionMask h mask => fun s => setAttentionMaskBlock h mask s
  | .unknownRequestKind _ _ => fun s => s.refuse .range
  | .seqAppend h entries => fun s => seqAppendBlock h entries s
  | .seqSkip h => fun s => seqSkipBlock h s
  | .seqLoopOn h listed => fun s => seqLoopOnBlock h listed s
  | .seqLoopOff h listed => fun s => seqLoopOffBlock h listed s
  | .arrive h station tag => fun s => arriveBlock h station tag s
  | .depart h station => fun s => departBlock h station s
  | .pull h tag reason => fun s => pullBlock h tag reason s
  | .reinsert h tag station => fun s => reinsertBlock h tag station s
  | .scrap h tag => fun s => scrapBlock h tag s
  | .hold h station => fun s => holdBlock h station s
  | .release h station => fun s => releaseBlock h station s
  | .clearStation h station => fun s => clearStationBlock h station s
  | .robotEnable h robot => fun s => robotEnableBlock h robot s
  | .robotDisable h robot => fun s => robotDisableBlock h robot s
  | .dressRequest h robot => fun s => dressRequestBlock h robot s
  | .setSense h station sense => fun s => setSenseBlock h station sense s
  | .progOpen h program count check => fun s => progOpenBlock h program count check s
  | .progData h program first points => fun s => progDataBlock h program first points s
  | .progClose h program => fun s => progCloseBlock h program s
  | .progDelete h program => fun s => progDeleteBlock h program s
  | .schedWriteDefine h schedule fields => fun s => schedWriteDefineBlock h schedule fields s
  | .schedWriteClear h schedule listed => fun s => schedWriteClearBlock h schedule listed s
  | .stepperWrite h curve steps => fun s => stepperWriteBlock h curve steps s
  | .setWrite h setNo entries => fun s => setWriteBlock h setNo entries s
  | .setDelete h setNo => fun s => setDeleteBlock h setNo s
  | .styleWrite h style disposition setNo => fun s => styleWriteBlock h style disposition setNo s
  | .styleWriteEffectivePsn h style disposition setNo psn => fun s => styleWriteEffectivePsnBlock h style disposition setNo psn s
  | .styleCancel h style => fun s => styleCancelBlock h style s
  | .layoutWrite h records => fun s => layoutWriteBlock h records s
  | .start h => fun s => startBlock h s
  | .stop h => fun s => stopBlock h s
  | .trackReset h => fun s => trackResetBlock h s
  | .frameError _ _ => fun s => s.refuse .range
  | .interByteGap _ => fun s => s.refuse .range
  | .lineSilence _ => fun s => s.refuse .range
  | .portReset _ => fun s => s.refuse .range
  | .goodFrameDiscarded _ => fun s => s.refuse .range
  | .acceptedChange _ _ => fun s => s.refuse .range
  | .confirmWindowExpiry _ => fun s => s.refuse .range
  | .departureEchoExpiry _ => fun s => s.refuse .range
  | .overrun _ => fun s => s.refuse .range
  | .admissionAttempt => fun s => s.refuse .range
  | .stagingRecomputation _ => fun s => s.refuse .range
  | .selectionAttempt _ => fun s => s.refuse .range
  | .arbiterChoice _ => fun s => s.refuse .range
  | .pollTimerExpiry _ => fun s => s.refuse .range
  | .paceTimerExpiry _ => fun s => s.refuse .range
  | .busyWaitExpiry _ => fun s => s.refuse .range
  | .replyTimeout _ => fun s => s.refuse .range
  | .invalidReply _ => fun s => s.refuse .range
  | .statusReply _ _ _ => fun s => s.refuse .range
  | .ack _ _ => fun s => s.refuse .range
  | .nakSlot _ _ => fun s => s.refuse .range
  | .nakBusy _ _ => fun s => s.refuse .range
  | .aborted _ _ _ _ _ => fun s => s.refuse .range
  | .slotReport _ _ _ => fun s => s.refuse .range
  | .loadAck _ _ _ => fun s => s.refuse .range
  | .loadCheckReply _ _ _ _ => fun s => s.refuse .range
  | .frameOpening _ => fun s => s.refuse .range
  | .replySent _ => fun s => s.refuse .range

/-- What the reply to a request refused by its port carries: SEQ APPEND's its number taken and Next PSN, and any other
nothing (R6). -/
def portContents (i : Instr) (s : State) : Contents :=
  match i with
  | .seqAppend _ _ => .appended 0 s.ring.nextPsn
  | _ => .nothing

/-- Every request is received on its port, and taken as it would be from the frame held (R171). -/
theorem exec_of_request {i : Instr} {h : Hdr} {kind : Byte} {g : Group} (hr : requestOf i = some (h, kind, g))
    (s : State) : exec i s = .next (s.receive h i (serveHeld i)) := by
  cases i <;> simp only [requestOf, reduceCtorEq, Option.some.injEq, Prod.mk.injEq] at hr
  case unknownRequestKind =>
    split at hr
    · simp at hr
    · rename_i hk
      simp only [Option.some.injEq, Prod.mk.injEq] at hr
      obtain ⟨rfl, rfl, rfl⟩ := hr
      simp only [exec, execUnknownRequestKind, hk]
      rfl
  all_goals
    obtain ⟨rfl, rfl, rfl⟩ := hr
    rfl

/-- A request is served by its port's checks, its block and the reply (R177, R178). -/
theorem serveHeld_of_request {i : Instr} {h : Hdr} {kind : Byte} {g : Group} (hr : requestOf i = some (h, kind, g)) :
    serveHeld i = fun s => State.serve h kind g (requestBlock i) s (portContents i s) := by
  cases i <;> simp only [requestOf, reduceCtorEq, Option.some.injEq, Prod.mk.injEq] at hr
  case unknownRequestKind =>
    split at hr
    · simp at hr
    · simp only [Option.some.injEq, Prod.mk.injEq] at hr
      obtain ⟨rfl, rfl, rfl⟩ := hr
      rfl
  all_goals
    obtain ⟨rfl, rfl, rfl⟩ := hr
    rfl

section
variable {Q : State → Prop} {s : State}

/-- What the reply and the block keep, serving keeps. -/
theorem serve_keeps (hreply : ∀ s h k c x, Q s → Q (State.sendReply h k c x s)) {h : Hdr} {k : Byte} {g : Group}
    {block : State → Served} (c : Contents) (hb : Q s → Q (block s).state) (hs : Q s) : Q (State.serve h k g block s c) := by
  unfold State.serve
  split
  · exact hreply _ _ _ _ _ hs
  · exact hreply _ _ _ _ _ (hb hs)

/-- What the good frame, the held frame and the taking keep, receiving keeps. -/
theorem receive_keeps (hgood : ∀ s (p : Fin 4), Q s → Q (s.goodFrameOn p.val))
    (hheld : ∀ s (p : Fin 4) x, Q s → Q (s.modPort p.val fun y => { y with held := x })) {h : Hdr} {i : Instr}
    {take : State → State} (ht : ∀ u, Q u → Q (take u)) (hs : Q s) : Q (s.receive h i take) := by
  unfold State.receive
  split
  · exact hs
  · dsimp only
    split
    · exact ht _ (hgood _ _ hs)
    · split
      · exact hheld _ _ _ (hgood _ _ hs)
      · exact hgood _ _ hs

theorem whileWorking_keeps {f : State → State} (hf : Q s → Q (f s)) (hs : Q s) : Q (s.whileWorking f) := by
  unfold State.whileWorking
  split
  · exact hs
  · exact hf hs

/-- What the end of a transaction, the restart of a poll timer, a sending without reply and the taking keep, a reply keeps. -/
theorem takeReply_keeps (hend : ∀ s (b : Fin 4), Q s → Q (State.endTx b.val s)) (hpoll : ∀ s r, Q s → Q (State.restartPoll r s))
    (hno : ∀ s (b : Fin 4), Q s → Q (State.noReply b.val s)) {b : Fin 4} {d : Nat} {fits : OnBus → Bool}
    {f : OnBus → State → State} (hf : ∀ o u, Q u → Q (f o u)) (hs : Q s) : Q (s.takeReply b d fits f) := by
  unfold State.takeReply
  split
  · exact hs
  · split
    · dsimp only
      refine hf _ _ ?_
      split
      · exact hpoll _ _ (hend _ _ hs)
      · exact hend _ _ hs
    · exact hno _ _ hs

/-- What holds through every change of the ports' own state and through every block, every command that is a request keeps, at
once or held. -/
theorem request_keeps (hgood : ∀ s (p : Fin 4), Q s → Q (s.goodFrameOn p.val))
    (hheld : ∀ s (p : Fin 4) x, Q s → Q (s.modPort p.val fun y => { y with held := x }))
    (hreply : ∀ s h k c x, Q s → Q (State.sendReply h k c x s)) (hb : ∀ i s, Q s → Q (requestBlock i s).state) {i : Instr}
    {h : Hdr} {kind : Byte} {g : Group} (hr : requestOf i = some (h, kind, g)) (hs : Q s) {t : State}
    (ht : exec i s = .next t) : Q t := by
  rw [exec_of_request hr, serveHeld_of_request hr] at ht
  cases ht
  exact receive_keeps hgood hheld (fun u hu => serve_keeps hreply _ (hb _ _) hu) hs

/-- A held frame is taken as its command would be, and a frame that is no request changes nothing but its port. -/
theorem serveHeld_keeps (hreply : ∀ s h k c x, Q s → Q (State.sendReply h k c x s))
    (hb : ∀ i s, Q s → Q (requestBlock i s).state) (i : Instr) (hs : Q s) : Q (serveHeld i s) := by
  cases hr : requestOf i with
  | some v =>
    obtain ⟨h, kind, g⟩ := v
    rw [serveHeld_of_request hr]
    exact serve_keeps hreply _ (hb _ _) hs
  | none =>
    cases i <;> simp only [requestOf, reduceCtorEq] at hr
    case unknownRequestKind => exact hreply _ _ _ _ _ hs
    all_goals exact hs

end

end Machine
end Sys2Proof
end

