-- ==== Sys2Proof/Laws/FramesLine.lean ====
section
/-!
SUPPORT. For each shared operation of Ops, Work, Ports, Sequence, Tables, Tracking, PresenceInputs, once: the fields of State it leaves as they are, whatever its
operands. A field not listed is one the operation may write.
-/
namespace Sys2Proof
namespace Machine

/-- A fold whose step keeps a reading of State keeps it. -/
theorem foldl_keeps {α β : Type} (g : State → β) (f : State → α → State) (h : ∀ t a, g (f t a) = g t) (l : List α)
    (s : State) : g (l.foldl f s) = g s := by
  induction l generalizing s with
  | nil => rfl
  | cons a l ih => rw [List.foldl_cons, ih, h]

@[simp] theorem State.oweAll_frame (s : State) :
    s.oweAll.pending = s.pending ∧ s.oweAll.resetInput = s.resetInput ∧ s.oweAll.mode = s.mode ∧
      s.oweAll.layout = s.layout ∧ s.oweAll.ring = s.ring ∧ s.oweAll.styles = s.styles ∧
      s.oweAll.sets = s.sets ∧ s.oweAll.bodies = s.bodies ∧ s.oweAll.nextKey = s.nextKey ∧
      s.oweAll.lineList = s.lineList ∧ s.oweAll.stations = s.stations ∧ s.oweAll.lines = s.lines ∧
      s.oweAll.library = s.library ∧ s.oweAll.schedules = s.schedules ∧ s.oweAll.curves = s.curves ∧
      s.oweAll.robots = s.robots ∧ s.oweAll.staging = s.staging ∧ s.oweAll.pend = s.pend ∧
      s.oweAll.buses = s.buses ∧ s.oweAll.ports = s.ports ∧ s.oweAll.attention = s.attention := by
  unfold State.oweAll
  simp

@[simp] theorem State.oweStation_frame (i : Nat) (s : State) :
    (s.oweStation i).pending = s.pending ∧ (s.oweStation i).resetInput = s.resetInput ∧ (s.oweStation i).mode = s.mode ∧
      (s.oweStation i).layout = s.layout ∧ (s.oweStation i).ring = s.ring ∧ (s.oweStation i).styles = s.styles ∧
      (s.oweStation i).sets = s.sets ∧ (s.oweStation i).bodies = s.bodies ∧ (s.oweStation i).nextKey = s.nextKey ∧
      (s.oweStation i).lineList = s.lineList ∧ (s.oweStation i).stations = s.stations ∧ (s.oweStation i).lines = s.lines ∧
      (s.oweStation i).library = s.library ∧ (s.oweStation i).schedules = s.schedules ∧ (s.oweStation i).curves = s.curves ∧
      (s.oweStation i).robots = s.robots ∧ (s.oweStation i).staging = s.staging ∧ (s.oweStation i).pend = s.pend ∧
      (s.oweStation i).buses = s.buses ∧ (s.oweStation i).ports = s.ports ∧ (s.oweStation i).attention = s.attention := by
  unfold State.oweStation
  simp

@[simp] theorem State.oweSlot_frame (r : Nat) (s : State) :
    (s.oweSlot r).pending = s.pending ∧ (s.oweSlot r).resetInput = s.resetInput ∧ (s.oweSlot r).mode = s.mode ∧
      (s.oweSlot r).layout = s.layout ∧ (s.oweSlot r).ring = s.ring ∧ (s.oweSlot r).styles = s.styles ∧
      (s.oweSlot r).sets = s.sets ∧ (s.oweSlot r).bodies = s.bodies ∧ (s.oweSlot r).nextKey = s.nextKey ∧
      (s.oweSlot r).lineList = s.lineList ∧ (s.oweSlot r).stations = s.stations ∧ (s.oweSlot r).lines = s.lines ∧
      (s.oweSlot r).library = s.library ∧ (s.oweSlot r).schedules = s.schedules ∧ (s.oweSlot r).curves = s.curves ∧
      (s.oweSlot r).robots = s.robots ∧ (s.oweSlot r).staging = s.staging ∧ (s.oweSlot r).pend = s.pend ∧
      (s.oweSlot r).buses = s.buses ∧ (s.oweSlot r).ports = s.ports ∧ (s.oweSlot r).attention = s.attention := by
  unfold State.oweSlot
  simp

@[simp] theorem State.modBody_frame (k : Nat) (f : Body → Body) (s : State) :
    (s.modBody k f).pending = s.pending ∧ (s.modBody k f).due = s.due ∧ (s.modBody k f).resetInput = s.resetInput ∧
      (s.modBody k f).mode = s.mode ∧ (s.modBody k f).layout = s.layout ∧ (s.modBody k f).ring = s.ring ∧
      (s.modBody k f).styles = s.styles ∧ (s.modBody k f).sets = s.sets ∧ (s.modBody k f).nextKey = s.nextKey ∧
      (s.modBody k f).lineList = s.lineList ∧ (s.modBody k f).stations = s.stations ∧ (s.modBody k f).lines = s.lines ∧
      (s.modBody k f).library = s.library ∧ (s.modBody k f).schedules = s.schedules ∧ (s.modBody k f).curves = s.curves ∧
      (s.modBody k f).robots = s.robots ∧ (s.modBody k f).staging = s.staging ∧ (s.modBody k f).pend = s.pend ∧
      (s.modBody k f).buses = s.buses ∧ (s.modBody k f).ports = s.ports ∧ (s.modBody k f).attention = s.attention := by
  unfold State.modBody
  simp

@[simp] theorem State.addNaming_frame (n : Option Nat) (s : State) :
    (s.addNaming n).pending = s.pending ∧ (s.addNaming n).due = s.due ∧ (s.addNaming n).resetInput = s.resetInput ∧
      (s.addNaming n).mode = s.mode ∧ (s.addNaming n).layout = s.layout ∧ (s.addNaming n).ring = s.ring ∧
      (s.addNaming n).styles = s.styles ∧ (s.addNaming n).bodies = s.bodies ∧ (s.addNaming n).nextKey = s.nextKey ∧
      (s.addNaming n).lineList = s.lineList ∧ (s.addNaming n).stations = s.stations ∧ (s.addNaming n).lines = s.lines ∧
      (s.addNaming n).library = s.library ∧ (s.addNaming n).schedules = s.schedules ∧ (s.addNaming n).curves = s.curves ∧
      (s.addNaming n).robots = s.robots ∧ (s.addNaming n).staging = s.staging ∧ (s.addNaming n).pend = s.pend ∧
      (s.addNaming n).buses = s.buses ∧ (s.addNaming n).ports = s.ports ∧ (s.addNaming n).attention = s.attention := by
  unfold State.addNaming
  (repeat' split) <;> simp

@[simp] theorem State.dropNaming_frame (n : Option Nat) (s : State) :
    (s.dropNaming n).pending = s.pending ∧ (s.dropNaming n).due = s.due ∧ (s.dropNaming n).resetInput = s.resetInput ∧
      (s.dropNaming n).mode = s.mode ∧ (s.dropNaming n).layout = s.layout ∧ (s.dropNaming n).ring = s.ring ∧
      (s.dropNaming n).styles = s.styles ∧ (s.dropNaming n).bodies = s.bodies ∧ (s.dropNaming n).nextKey = s.nextKey ∧
      (s.dropNaming n).lineList = s.lineList ∧ (s.dropNaming n).stations = s.stations ∧ (s.dropNaming n).lines = s.lines ∧
      (s.dropNaming n).library = s.library ∧ (s.dropNaming n).schedules = s.schedules ∧ (s.dropNaming n).curves = s.curves ∧
      (s.dropNaming n).robots = s.robots ∧ (s.dropNaming n).staging = s.staging ∧ (s.dropNaming n).pend = s.pend ∧
      (s.dropNaming n).buses = s.buses ∧ (s.dropNaming n).ports = s.ports ∧ (s.dropNaming n).attention = s.attention := by
  unfold State.dropNaming
  (repeat' split) <;> simp

@[simp] theorem State.addRef_frame (n : Nat) (s : State) :
    (s.addRef n).pending = s.pending ∧ (s.addRef n).due = s.due ∧ (s.addRef n).resetInput = s.resetInput ∧
      (s.addRef n).mode = s.mode ∧ (s.addRef n).layout = s.layout ∧ (s.addRef n).ring = s.ring ∧
      (s.addRef n).styles = s.styles ∧ (s.addRef n).sets = s.sets ∧ (s.addRef n).bodies = s.bodies ∧
      (s.addRef n).nextKey = s.nextKey ∧ (s.addRef n).lineList = s.lineList ∧ (s.addRef n).stations = s.stations ∧
      (s.addRef n).lines = s.lines ∧ (s.addRef n).schedules = s.schedules ∧ (s.addRef n).curves = s.curves ∧
      (s.addRef n).robots = s.robots ∧ (s.addRef n).staging = s.staging ∧ (s.addRef n).pend = s.pend ∧
      (s.addRef n).buses = s.buses ∧ (s.addRef n).ports = s.ports ∧ (s.addRef n).attention = s.attention := by
  unfold State.addRef
  simp

@[simp] theorem State.dropRef_frame (n : Nat) (s : State) :
    (s.dropRef n).pending = s.pending ∧ (s.dropRef n).due = s.due ∧ (s.dropRef n).resetInput = s.resetInput ∧
      (s.dropRef n).mode = s.mode ∧ (s.dropRef n).layout = s.layout ∧ (s.dropRef n).ring = s.ring ∧
      (s.dropRef n).styles = s.styles ∧ (s.dropRef n).sets = s.sets ∧ (s.dropRef n).bodies = s.bodies ∧
      (s.dropRef n).nextKey = s.nextKey ∧ (s.dropRef n).lineList = s.lineList ∧ (s.dropRef n).stations = s.stations ∧
      (s.dropRef n).lines = s.lines ∧ (s.dropRef n).schedules = s.schedules ∧ (s.dropRef n).curves = s.curves ∧
      (s.dropRef n).robots = s.robots ∧ (s.dropRef n).staging = s.staging ∧ (s.dropRef n).pend = s.pend ∧
      (s.dropRef n).buses = s.buses ∧ (s.dropRef n).ports = s.ports ∧ (s.dropRef n).attention = s.attention := by
  unfold State.dropRef
  simp

@[simp] theorem State.markIncomplete_frame (k : Nat) (s : State) :
    (s.markIncomplete k).pending = s.pending ∧ (s.markIncomplete k).due = s.due ∧ (s.markIncomplete k).resetInput = s.resetInput ∧
      (s.markIncomplete k).mode = s.mode ∧ (s.markIncomplete k).layout = s.layout ∧ (s.markIncomplete k).ring = s.ring ∧
      (s.markIncomplete k).styles = s.styles ∧ (s.markIncomplete k).sets = s.sets ∧ (s.markIncomplete k).nextKey = s.nextKey ∧
      (s.markIncomplete k).lineList = s.lineList ∧ (s.markIncomplete k).stations = s.stations ∧ (s.markIncomplete k).lines = s.lines ∧
      (s.markIncomplete k).library = s.library ∧ (s.markIncomplete k).schedules = s.schedules ∧ (s.markIncomplete k).curves = s.curves ∧
      (s.markIncomplete k).robots = s.robots ∧ (s.markIncomplete k).staging = s.staging ∧ (s.markIncomplete k).pend = s.pend ∧
      (s.markIncomplete k).buses = s.buses ∧ (s.markIncomplete k).ports = s.ports := by
  unfold State.markIncomplete
  (repeat' split) <;> simp

@[simp] theorem State.freeBody_frame (k : Nat) (s : State) :
    (s.freeBody k).pending = s.pending ∧ (s.freeBody k).due = s.due ∧ (s.freeBody k).resetInput = s.resetInput ∧
      (s.freeBody k).mode = s.mode ∧ (s.freeBody k).layout = s.layout ∧ (s.freeBody k).ring = s.ring ∧
      (s.freeBody k).styles = s.styles ∧ (s.freeBody k).nextKey = s.nextKey ∧ (s.freeBody k).stations = s.stations ∧
      (s.freeBody k).lines = s.lines ∧ (s.freeBody k).library = s.library ∧ (s.freeBody k).schedules = s.schedules ∧
      (s.freeBody k).curves = s.curves ∧ (s.freeBody k).robots = s.robots ∧ (s.freeBody k).staging = s.staging ∧
      (s.freeBody k).pend = s.pend ∧ (s.freeBody k).buses = s.buses ∧ (s.freeBody k).ports = s.ports ∧
      (s.freeBody k).attention = s.attention := by
  unfold State.freeBody
  (repeat' split) <;> simp

@[simp] theorem State.enterState_frame (i : Nat) (st : StationState) (s : State) :
    (s.enterState i st).pending = s.pending ∧ (s.enterState i st).resetInput = s.resetInput ∧ (s.enterState i st).mode = s.mode ∧
      (s.enterState i st).layout = s.layout ∧ (s.enterState i st).ring = s.ring ∧ (s.enterState i st).styles = s.styles ∧
      (s.enterState i st).sets = s.sets ∧ (s.enterState i st).bodies = s.bodies ∧ (s.enterState i st).nextKey = s.nextKey ∧
      (s.enterState i st).lineList = s.lineList ∧ (s.enterState i st).lines = s.lines ∧ (s.enterState i st).library = s.library ∧
      (s.enterState i st).schedules = s.schedules ∧ (s.enterState i st).curves = s.curves ∧ (s.enterState i st).robots = s.robots ∧
      (s.enterState i st).staging = s.staging ∧ (s.enterState i st).pend = s.pend ∧ (s.enterState i st).buses = s.buses ∧
      (s.enterState i st).ports = s.ports ∧ (s.enterState i st).attention = s.attention := by
  unfold State.enterState
  (repeat' split) <;> simp

@[simp] theorem State.faultStation_frame (i : Nat) (c : Cause) (s : State) :
    (s.faultStation i c).pending = s.pending ∧ (s.faultStation i c).resetInput = s.resetInput ∧ (s.faultStation i c).mode = s.mode ∧
      (s.faultStation i c).layout = s.layout ∧ (s.faultStation i c).ring = s.ring ∧ (s.faultStation i c).styles = s.styles ∧
      (s.faultStation i c).sets = s.sets ∧ (s.faultStation i c).bodies = s.bodies ∧ (s.faultStation i c).nextKey = s.nextKey ∧
      (s.faultStation i c).lineList = s.lineList ∧ (s.faultStation i c).lines = s.lines ∧ (s.faultStation i c).library = s.library ∧
      (s.faultStation i c).schedules = s.schedules ∧ (s.faultStation i c).curves = s.curves ∧ (s.faultStation i c).robots = s.robots ∧
      (s.faultStation i c).staging = s.staging ∧ (s.faultStation i c).pend = s.pend ∧ (s.faultStation i c).buses = s.buses ∧
      (s.faultStation i c).ports = s.ports := by
  unfold State.faultStation
  (repeat' split) <;> simp

@[simp] theorem State.setResultAt_frame (i : Nat) (r : Result) (s : State) :
    (s.setResultAt i r).pending = s.pending ∧ (s.setResultAt i r).due = s.due ∧ (s.setResultAt i r).resetInput = s.resetInput ∧
      (s.setResultAt i r).mode = s.mode ∧ (s.setResultAt i r).layout = s.layout ∧ (s.setResultAt i r).ring = s.ring ∧
      (s.setResultAt i r).styles = s.styles ∧ (s.setResultAt i r).sets = s.sets ∧ (s.setResultAt i r).nextKey = s.nextKey ∧
      (s.setResultAt i r).lineList = s.lineList ∧ (s.setResultAt i r).stations = s.stations ∧ (s.setResultAt i r).lines = s.lines ∧
      (s.setResultAt i r).library = s.library ∧ (s.setResultAt i r).schedules = s.schedules ∧ (s.setResultAt i r).curves = s.curves ∧
      (s.setResultAt i r).robots = s.robots ∧ (s.setResultAt i r).staging = s.staging ∧ (s.setResultAt i r).pend = s.pend ∧
      (s.setResultAt i r).buses = s.buses ∧ (s.setResultAt i r).ports = s.ports ∧ (s.setResultAt i r).attention = s.attention := by
  unfold State.setResultAt
  (repeat' split) <;> simp

@[simp] theorem State.completeStation_frame (i : Nat) (s : State) :
    (s.completeStation i).pending = s.pending ∧ (s.completeStation i).resetInput = s.resetInput ∧ (s.completeStation i).mode = s.mode ∧
      (s.completeStation i).layout = s.layout ∧ (s.completeStation i).ring = s.ring ∧ (s.completeStation i).styles = s.styles ∧
      (s.completeStation i).sets = s.sets ∧ (s.completeStation i).bodies = s.bodies ∧ (s.completeStation i).nextKey = s.nextKey ∧
      (s.completeStation i).lineList = s.lineList ∧ (s.completeStation i).lines = s.lines ∧ (s.completeStation i).library = s.library ∧
      (s.completeStation i).schedules = s.schedules ∧ (s.completeStation i).curves = s.curves ∧ (s.completeStation i).robots = s.robots ∧
      (s.completeStation i).staging = s.staging ∧ (s.completeStation i).pend = s.pend ∧ (s.completeStation i).buses = s.buses ∧
      (s.completeStation i).ports = s.ports := by
  unfold State.completeStation
  simp

@[simp] theorem State.vacate_frame (i : Nat) (st : StationState) (wait : List Nat) (s : State) :
    (s.vacate i st wait).pending = s.pending ∧ (s.vacate i st wait).resetInput = s.resetInput ∧ (s.vacate i st wait).mode = s.mode ∧
      (s.vacate i st wait).layout = s.layout ∧ (s.vacate i st wait).ring = s.ring ∧ (s.vacate i st wait).styles = s.styles ∧
      (s.vacate i st wait).sets = s.sets ∧ (s.vacate i st wait).bodies = s.bodies ∧ (s.vacate i st wait).nextKey = s.nextKey ∧
      (s.vacate i st wait).lineList = s.lineList ∧ (s.vacate i st wait).lines = s.lines ∧ (s.vacate i st wait).library = s.library ∧
      (s.vacate i st wait).schedules = s.schedules ∧ (s.vacate i st wait).curves = s.curves ∧ (s.vacate i st wait).robots = s.robots ∧
      (s.vacate i st wait).staging = s.staging ∧ (s.vacate i st wait).pend = s.pend ∧ (s.vacate i st wait).buses = s.buses ∧
      (s.vacate i st wait).ports = s.ports ∧ (s.vacate i st wait).attention = s.attention := by
  unfold State.vacate
  simp

@[simp] theorem State.setComponent_frame (i r : Nat) (c : Component) (s : State) :
    (s.setComponent i r c).pending = s.pending ∧ (s.setComponent i r c).due = s.due ∧ (s.setComponent i r c).resetInput = s.resetInput ∧
      (s.setComponent i r c).mode = s.mode ∧ (s.setComponent i r c).layout = s.layout ∧ (s.setComponent i r c).ring = s.ring ∧
      (s.setComponent i r c).styles = s.styles ∧ (s.setComponent i r c).sets = s.sets ∧ (s.setComponent i r c).bodies = s.bodies ∧
      (s.setComponent i r c).nextKey = s.nextKey ∧ (s.setComponent i r c).lineList = s.lineList ∧ (s.setComponent i r c).lines = s.lines ∧
      (s.setComponent i r c).library = s.library ∧ (s.setComponent i r c).schedules = s.schedules ∧ (s.setComponent i r c).curves = s.curves ∧
      (s.setComponent i r c).robots = s.robots ∧ (s.setComponent i r c).staging = s.staging ∧ (s.setComponent i r c).pend = s.pend ∧
      (s.setComponent i r c).buses = s.buses ∧ (s.setComponent i r c).ports = s.ports ∧ (s.setComponent i r c).attention = s.attention := by
  unfold State.setComponent
  simp

@[simp] theorem State.setLate_frame (i r : Nat) (s : State) :
    (s.setLate i r).pending = s.pending ∧ (s.setLate i r).due = s.due ∧ (s.setLate i r).resetInput = s.resetInput ∧
      (s.setLate i r).mode = s.mode ∧ (s.setLate i r).layout = s.layout ∧ (s.setLate i r).ring = s.ring ∧
      (s.setLate i r).styles = s.styles ∧ (s.setLate i r).sets = s.sets ∧ (s.setLate i r).bodies = s.bodies ∧
      (s.setLate i r).nextKey = s.nextKey ∧ (s.setLate i r).lineList = s.lineList ∧ (s.setLate i r).lines = s.lines ∧
      (s.setLate i r).library = s.library ∧ (s.setLate i r).schedules = s.schedules ∧ (s.setLate i r).curves = s.curves ∧
      (s.setLate i r).robots = s.robots ∧ (s.setLate i r).staging = s.staging ∧ (s.setLate i r).pend = s.pend ∧
      (s.setLate i r).buses = s.buses ∧ (s.setLate i r).ports = s.ports ∧ (s.setLate i r).attention = s.attention := by
  unfold State.setLate
  simp

@[simp] theorem State.judgeStation_frame (i : Nat) (s : State) :
    (s.judgeStation i).pending = s.pending ∧ (s.judgeStation i).resetInput = s.resetInput ∧ (s.judgeStation i).mode = s.mode ∧
      (s.judgeStation i).layout = s.layout ∧ (s.judgeStation i).ring = s.ring ∧ (s.judgeStation i).styles = s.styles ∧
      (s.judgeStation i).sets = s.sets ∧ (s.judgeStation i).nextKey = s.nextKey ∧ (s.judgeStation i).lineList = s.lineList ∧
      (s.judgeStation i).lines = s.lines ∧ (s.judgeStation i).library = s.library ∧ (s.judgeStation i).schedules = s.schedules ∧
      (s.judgeStation i).curves = s.curves ∧ (s.judgeStation i).robots = s.robots ∧ (s.judgeStation i).staging = s.staging ∧
      (s.judgeStation i).pend = s.pend ∧ (s.judgeStation i).buses = s.buses ∧ (s.judgeStation i).ports = s.ports := by
  simp only [State.judgeStation]
  (repeat' split) <;> simp

@[simp] theorem State.skipDisabled_frame (r : Nat) (s : State) :
    (s.skipDisabled r).pending = s.pending ∧ (s.skipDisabled r).resetInput = s.resetInput ∧ (s.skipDisabled r).mode = s.mode ∧
      (s.skipDisabled r).layout = s.layout ∧ (s.skipDisabled r).ring = s.ring ∧ (s.skipDisabled r).styles = s.styles ∧
      (s.skipDisabled r).sets = s.sets ∧ (s.skipDisabled r).nextKey = s.nextKey ∧ (s.skipDisabled r).lineList = s.lineList ∧
      (s.skipDisabled r).lines = s.lines ∧ (s.skipDisabled r).library = s.library ∧ (s.skipDisabled r).schedules = s.schedules ∧
      (s.skipDisabled r).curves = s.curves ∧ (s.skipDisabled r).robots = s.robots ∧ (s.skipDisabled r).staging = s.staging ∧
      (s.skipDisabled r).pend = s.pend ∧ (s.skipDisabled r).buses = s.buses ∧ (s.skipDisabled r).ports = s.ports := by
  unfold State.skipDisabled
  (repeat' split) <;> simp

@[simp] theorem State.enterIdle_frame (r : Nat) (s : State) :
    (s.enterIdle r).pending = s.pending ∧ (s.enterIdle r).resetInput = s.resetInput ∧ (s.enterIdle r).mode = s.mode ∧
      (s.enterIdle r).layout = s.layout ∧ (s.enterIdle r).ring = s.ring ∧ (s.enterIdle r).styles = s.styles ∧
      (s.enterIdle r).sets = s.sets ∧ (s.enterIdle r).nextKey = s.nextKey ∧ (s.enterIdle r).lineList = s.lineList ∧
      (s.enterIdle r).lines = s.lines ∧ (s.enterIdle r).library = s.library ∧ (s.enterIdle r).schedules = s.schedules ∧
      (s.enterIdle r).curves = s.curves ∧ (s.enterIdle r).staging = s.staging ∧ (s.enterIdle r).pend = s.pend ∧
      (s.enterIdle r).buses = s.buses ∧ (s.enterIdle r).ports = s.ports := by
  unfold State.enterIdle
  simp

@[simp] theorem State.startAbort_frame (r : Nat) (sel : Selection) (s : State) :
    (s.startAbort r sel).pending = s.pending ∧ (s.startAbort r sel).resetInput = s.resetInput ∧ (s.startAbort r sel).mode = s.mode ∧
      (s.startAbort r sel).layout = s.layout ∧ (s.startAbort r sel).ring = s.ring ∧ (s.startAbort r sel).styles = s.styles ∧
      (s.startAbort r sel).sets = s.sets ∧ (s.startAbort r sel).bodies = s.bodies ∧ (s.startAbort r sel).nextKey = s.nextKey ∧
      (s.startAbort r sel).lineList = s.lineList ∧ (s.startAbort r sel).stations = s.stations ∧ (s.startAbort r sel).lines = s.lines ∧
      (s.startAbort r sel).library = s.library ∧ (s.startAbort r sel).schedules = s.schedules ∧ (s.startAbort r sel).curves = s.curves ∧
      (s.startAbort r sel).staging = s.staging ∧ (s.startAbort r sel).buses = s.buses ∧ (s.startAbort r sel).ports = s.ports ∧
      (s.startAbort r sel).attention = s.attention := by
  unfold State.startAbort
  simp

@[simp] theorem State.abortAll_frame (k : Nat) (rs : List Nat) (s : State) :
    (s.abortAll k rs).pending = s.pending ∧ (s.abortAll k rs).resetInput = s.resetInput ∧ (s.abortAll k rs).mode = s.mode ∧
      (s.abortAll k rs).layout = s.layout ∧ (s.abortAll k rs).ring = s.ring ∧ (s.abortAll k rs).styles = s.styles ∧
      (s.abortAll k rs).sets = s.sets ∧ (s.abortAll k rs).bodies = s.bodies ∧ (s.abortAll k rs).nextKey = s.nextKey ∧
      (s.abortAll k rs).lineList = s.lineList ∧ (s.abortAll k rs).stations = s.stations ∧ (s.abortAll k rs).lines = s.lines ∧
      (s.abortAll k rs).library = s.library ∧ (s.abortAll k rs).schedules = s.schedules ∧ (s.abortAll k rs).curves = s.curves ∧
      (s.abortAll k rs).staging = s.staging ∧ (s.abortAll k rs).buses = s.buses ∧ (s.abortAll k rs).ports = s.ports ∧
      (s.abortAll k rs).attention = s.attention := by
  unfold State.abortAll
  induction rs generalizing s with
  | nil => simp
  | cons r rs ih => simp only [List.foldl_cons, ih]; split <;> simp

@[simp] theorem State.leaveAbortWait_frame (r : Nat) (s : State) :
    (s.leaveAbortWait r).pending = s.pending ∧ (s.leaveAbortWait r).due = s.due ∧ (s.leaveAbortWait r).resetInput = s.resetInput ∧
      (s.leaveAbortWait r).mode = s.mode ∧ (s.leaveAbortWait r).layout = s.layout ∧ (s.leaveAbortWait r).ring = s.ring ∧
      (s.leaveAbortWait r).styles = s.styles ∧ (s.leaveAbortWait r).sets = s.sets ∧ (s.leaveAbortWait r).bodies = s.bodies ∧
      (s.leaveAbortWait r).nextKey = s.nextKey ∧ (s.leaveAbortWait r).lineList = s.lineList ∧ (s.leaveAbortWait r).lines = s.lines ∧
      (s.leaveAbortWait r).library = s.library ∧ (s.leaveAbortWait r).schedules = s.schedules ∧ (s.leaveAbortWait r).curves = s.curves ∧
      (s.leaveAbortWait r).robots = s.robots ∧ (s.leaveAbortWait r).staging = s.staging ∧ (s.leaveAbortWait r).pend = s.pend ∧
      (s.leaveAbortWait r).buses = s.buses ∧ (s.leaveAbortWait r).ports = s.ports ∧ (s.leaveAbortWait r).attention = s.attention := by
  unfold State.leaveAbortWait
  simp

@[simp] theorem State.countWelds_frame (r n : Nat) (s : State) :
    (s.countWelds r n).pending = s.pending ∧ (s.countWelds r n).due = s.due ∧ (s.countWelds r n).resetInput = s.resetInput ∧
      (s.countWelds r n).mode = s.mode ∧ (s.countWelds r n).layout = s.layout ∧ (s.countWelds r n).ring = s.ring ∧
      (s.countWelds r n).styles = s.styles ∧ (s.countWelds r n).sets = s.sets ∧ (s.countWelds r n).bodies = s.bodies ∧
      (s.countWelds r n).nextKey = s.nextKey ∧ (s.countWelds r n).lineList = s.lineList ∧ (s.countWelds r n).stations = s.stations ∧
      (s.countWelds r n).lines = s.lines ∧ (s.countWelds r n).library = s.library ∧ (s.countWelds r n).schedules = s.schedules ∧
      (s.countWelds r n).curves = s.curves ∧ (s.countWelds r n).staging = s.staging ∧ (s.countWelds r n).pend = s.pend ∧
      (s.countWelds r n).buses = s.buses ∧ (s.countWelds r n).ports = s.ports ∧ (s.countWelds r n).attention = s.attention := by
  unfold State.countWelds
  simp

@[simp] theorem State.setWelds_frame (k r n : Nat) (s : State) :
    (s.setWelds k r n).pending = s.pending ∧ (s.setWelds k r n).due = s.due ∧ (s.setWelds k r n).resetInput = s.resetInput ∧
      (s.setWelds k r n).mode = s.mode ∧ (s.setWelds k r n).layout = s.layout ∧ (s.setWelds k r n).ring = s.ring ∧
      (s.setWelds k r n).styles = s.styles ∧ (s.setWelds k r n).sets = s.sets ∧ (s.setWelds k r n).nextKey = s.nextKey ∧
      (s.setWelds k r n).lineList = s.lineList ∧ (s.setWelds k r n).stations = s.stations ∧ (s.setWelds k r n).lines = s.lines ∧
      (s.setWelds k r n).library = s.library ∧ (s.setWelds k r n).schedules = s.schedules ∧ (s.setWelds k r n).curves = s.curves ∧
      (s.setWelds k r n).robots = s.robots ∧ (s.setWelds k r n).staging = s.staging ∧ (s.setWelds k r n).pend = s.pend ∧
      (s.setWelds k r n).buses = s.buses ∧ (s.setWelds k r n).ports = s.ports ∧ (s.setWelds k r n).attention = s.attention := by
  unfold State.setWelds
  simp

@[simp] theorem State.faultFor_frame (i : Nat) (sel : Selection) (c : Cause) (s : State) :
    (s.faultFor i sel c).pending = s.pending ∧ (s.faultFor i sel c).resetInput = s.resetInput ∧ (s.faultFor i sel c).mode = s.mode ∧
      (s.faultFor i sel c).layout = s.layout ∧ (s.faultFor i sel c).ring = s.ring ∧ (s.faultFor i sel c).styles = s.styles ∧
      (s.faultFor i sel c).sets = s.sets ∧ (s.faultFor i sel c).bodies = s.bodies ∧ (s.faultFor i sel c).nextKey = s.nextKey ∧
      (s.faultFor i sel c).lineList = s.lineList ∧ (s.faultFor i sel c).lines = s.lines ∧ (s.faultFor i sel c).library = s.library ∧
      (s.faultFor i sel c).schedules = s.schedules ∧ (s.faultFor i sel c).curves = s.curves ∧ (s.faultFor i sel c).robots = s.robots ∧
      (s.faultFor i sel c).staging = s.staging ∧ (s.faultFor i sel c).pend = s.pend ∧ (s.faultFor i sel c).buses = s.buses ∧
      (s.faultFor i sel c).ports = s.ports := by
  unfold State.faultFor
  (repeat' split) <;> simp

@[simp] theorem State.endLoad_frame (r : Nat) (s : State) :
    (s.endLoad r).pending = s.pending ∧ (s.endLoad r).due = s.due ∧ (s.endLoad r).resetInput = s.resetInput ∧
      (s.endLoad r).mode = s.mode ∧ (s.endLoad r).layout = s.layout ∧ (s.endLoad r).ring = s.ring ∧
      (s.endLoad r).styles = s.styles ∧ (s.endLoad r).sets = s.sets ∧ (s.endLoad r).bodies = s.bodies ∧
      (s.endLoad r).nextKey = s.nextKey ∧ (s.endLoad r).lineList = s.lineList ∧ (s.endLoad r).stations = s.stations ∧
      (s.endLoad r).lines = s.lines ∧ (s.endLoad r).schedules = s.schedules ∧ (s.endLoad r).curves = s.curves ∧
      (s.endLoad r).robots = s.robots ∧ (s.endLoad r).pend = s.pend ∧ (s.endLoad r).buses = s.buses ∧
      (s.endLoad r).ports = s.ports ∧ (s.endLoad r).attention = s.attention := by
  unfold State.endLoad
  (repeat' split) <;> simp

@[simp] theorem State.setSlot_frame (r i : Nat) (c : SlotContent) (s : State) :
    (s.setSlot r i c).pending = s.pending ∧ (s.setSlot r i c).due = s.due ∧ (s.setSlot r i c).resetInput = s.resetInput ∧
      (s.setSlot r i c).mode = s.mode ∧ (s.setSlot r i c).layout = s.layout ∧ (s.setSlot r i c).ring = s.ring ∧
      (s.setSlot r i c).styles = s.styles ∧ (s.setSlot r i c).sets = s.sets ∧ (s.setSlot r i c).bodies = s.bodies ∧
      (s.setSlot r i c).nextKey = s.nextKey ∧ (s.setSlot r i c).lineList = s.lineList ∧ (s.setSlot r i c).stations = s.stations ∧
      (s.setSlot r i c).lines = s.lines ∧ (s.setSlot r i c).library = s.library ∧ (s.setSlot r i c).schedules = s.schedules ∧
      (s.setSlot r i c).curves = s.curves ∧ (s.setSlot r i c).staging = s.staging ∧ (s.setSlot r i c).pend = s.pend ∧
      (s.setSlot r i c).buses = s.buses ∧ (s.setSlot r i c).ports = s.ports ∧ (s.setSlot r i c).attention = s.attention := by
  unfold State.setSlot
  (repeat' split) <;> simp

@[simp] theorem State.cancelLoad_frame (r : Nat) (s : State) :
    (s.cancelLoad r).pending = s.pending ∧ (s.cancelLoad r).resetInput = s.resetInput ∧ (s.cancelLoad r).mode = s.mode ∧
      (s.cancelLoad r).layout = s.layout ∧ (s.cancelLoad r).ring = s.ring ∧ (s.cancelLoad r).styles = s.styles ∧
      (s.cancelLoad r).sets = s.sets ∧ (s.cancelLoad r).bodies = s.bodies ∧ (s.cancelLoad r).nextKey = s.nextKey ∧
      (s.cancelLoad r).lineList = s.lineList ∧ (s.cancelLoad r).stations = s.stations ∧ (s.cancelLoad r).lines = s.lines ∧
      (s.cancelLoad r).schedules = s.schedules ∧ (s.cancelLoad r).curves = s.curves ∧ (s.cancelLoad r).pend = s.pend ∧
      (s.cancelLoad r).buses = s.buses ∧ (s.cancelLoad r).ports = s.ports ∧ (s.cancelLoad r).attention = s.attention := by
  unfold State.cancelLoad
  (repeat' split) <;> simp

@[simp] theorem State.endOnBuses_frame (r : Nat) (s : State) :
    (s.endOnBuses r).pending = s.pending ∧ (s.endOnBuses r).due = s.due ∧ (s.endOnBuses r).resetInput = s.resetInput ∧
      (s.endOnBuses r).mode = s.mode ∧ (s.endOnBuses r).layout = s.layout ∧ (s.endOnBuses r).ring = s.ring ∧
      (s.endOnBuses r).styles = s.styles ∧ (s.endOnBuses r).sets = s.sets ∧ (s.endOnBuses r).bodies = s.bodies ∧
      (s.endOnBuses r).nextKey = s.nextKey ∧ (s.endOnBuses r).lineList = s.lineList ∧ (s.endOnBuses r).stations = s.stations ∧
      (s.endOnBuses r).lines = s.lines ∧ (s.endOnBuses r).library = s.library ∧ (s.endOnBuses r).schedules = s.schedules ∧
      (s.endOnBuses r).curves = s.curves ∧ (s.endOnBuses r).robots = s.robots ∧ (s.endOnBuses r).staging = s.staging ∧
      (s.endOnBuses r).pend = s.pend ∧ (s.endOnBuses r).ports = s.ports ∧ (s.endOnBuses r).attention = s.attention := by
  unfold State.endOnBuses
  simp

@[simp] theorem State.loseMotion_frame (r : Nat) (s : State) :
    (s.loseMotion r).pending = s.pending ∧ (s.loseMotion r).resetInput = s.resetInput ∧ (s.loseMotion r).mode = s.mode ∧
      (s.loseMotion r).layout = s.layout ∧ (s.loseMotion r).ring = s.ring ∧ (s.loseMotion r).styles = s.styles ∧
      (s.loseMotion r).sets = s.sets ∧ (s.loseMotion r).nextKey = s.nextKey ∧ (s.loseMotion r).lineList = s.lineList ∧
      (s.loseMotion r).lines = s.lines ∧ (s.loseMotion r).library = s.library ∧ (s.loseMotion r).schedules = s.schedules ∧
      (s.loseMotion r).curves = s.curves ∧ (s.loseMotion r).staging = s.staging ∧ (s.loseMotion r).pend = s.pend ∧
      (s.loseMotion r).buses = s.buses ∧ (s.loseMotion r).ports = s.ports := by
  unfold State.loseMotion
  split <;> (try cases s.stationOf r) <;> simp

@[simp] theorem State.goOffline_frame (r : Nat) (notify : Bool) (s : State) :
    (s.goOffline r notify).pending = s.pending ∧ (s.goOffline r notify).resetInput = s.resetInput ∧ (s.goOffline r notify).mode = s.mode ∧
      (s.goOffline r notify).layout = s.layout ∧ (s.goOffline r notify).ring = s.ring ∧ (s.goOffline r notify).styles = s.styles ∧
      (s.goOffline r notify).sets = s.sets ∧ (s.goOffline r notify).nextKey = s.nextKey ∧ (s.goOffline r notify).lineList = s.lineList ∧
      (s.goOffline r notify).lines = s.lines ∧ (s.goOffline r notify).schedules = s.schedules ∧ (s.goOffline r notify).curves = s.curves ∧
      (s.goOffline r notify).ports = s.ports := by
  unfold State.goOffline
  (repeat' split) <;> simp

@[simp] theorem State.frameErrorOn_frame (p : Nat) (rx : RxState) (s : State) :
    (s.frameErrorOn p rx).pending = s.pending ∧ (s.frameErrorOn p rx).due = s.due ∧ (s.frameErrorOn p rx).resetInput = s.resetInput ∧
      (s.frameErrorOn p rx).mode = s.mode ∧ (s.frameErrorOn p rx).layout = s.layout ∧ (s.frameErrorOn p rx).ring = s.ring ∧
      (s.frameErrorOn p rx).styles = s.styles ∧ (s.frameErrorOn p rx).sets = s.sets ∧ (s.frameErrorOn p rx).bodies = s.bodies ∧
      (s.frameErrorOn p rx).nextKey = s.nextKey ∧ (s.frameErrorOn p rx).lineList = s.lineList ∧ (s.frameErrorOn p rx).stations = s.stations ∧
      (s.frameErrorOn p rx).lines = s.lines ∧ (s.frameErrorOn p rx).library = s.library ∧ (s.frameErrorOn p rx).schedules = s.schedules ∧
      (s.frameErrorOn p rx).curves = s.curves ∧ (s.frameErrorOn p rx).robots = s.robots ∧ (s.frameErrorOn p rx).staging = s.staging ∧
      (s.frameErrorOn p rx).pend = s.pend ∧ (s.frameErrorOn p rx).buses = s.buses := by
  simp only [State.frameErrorOn]
  (repeat' split) <;> simp

@[simp] theorem State.judgeLow_frame (was now : Nat) (s : State) :
    (s.judgeLow was now).pending = s.pending ∧ (s.judgeLow was now).due = s.due ∧ (s.judgeLow was now).resetInput = s.resetInput ∧
      (s.judgeLow was now).mode = s.mode ∧ (s.judgeLow was now).layout = s.layout ∧ (s.judgeLow was now).ring = s.ring ∧
      (s.judgeLow was now).styles = s.styles ∧ (s.judgeLow was now).sets = s.sets ∧ (s.judgeLow was now).bodies = s.bodies ∧
      (s.judgeLow was now).nextKey = s.nextKey ∧ (s.judgeLow was now).lineList = s.lineList ∧ (s.judgeLow was now).stations = s.stations ∧
      (s.judgeLow was now).lines = s.lines ∧ (s.judgeLow was now).library = s.library ∧ (s.judgeLow was now).schedules = s.schedules ∧
      (s.judgeLow was now).curves = s.curves ∧ (s.judgeLow was now).robots = s.robots ∧ (s.judgeLow was now).staging = s.staging ∧
      (s.judgeLow was now).pend = s.pend ∧ (s.judgeLow was now).buses = s.buses ∧ (s.judgeLow was now).ports = s.ports := by
  unfold State.judgeLow
  (repeat' split) <;> simp

@[simp] theorem State.appendEntry_frame (e : SeqEntry) (s : State) :
    (s.appendEntry e).pending = s.pending ∧ (s.appendEntry e).due = s.due ∧ (s.appendEntry e).resetInput = s.resetInput ∧
      (s.appendEntry e).mode = s.mode ∧ (s.appendEntry e).layout = s.layout ∧ (s.appendEntry e).styles = s.styles ∧
      (s.appendEntry e).sets = s.sets ∧ (s.appendEntry e).bodies = s.bodies ∧ (s.appendEntry e).nextKey = s.nextKey ∧
      (s.appendEntry e).lineList = s.lineList ∧ (s.appendEntry e).stations = s.stations ∧ (s.appendEntry e).lines = s.lines ∧
      (s.appendEntry e).library = s.library ∧ (s.appendEntry e).schedules = s.schedules ∧ (s.appendEntry e).curves = s.curves ∧
      (s.appendEntry e).robots = s.robots ∧ (s.appendEntry e).staging = s.staging ∧ (s.appendEntry e).pend = s.pend ∧
      (s.appendEntry e).buses = s.buses ∧ (s.appendEntry e).ports = s.ports ∧ (s.appendEntry e).attention = s.attention := by
  unfold State.appendEntry
  simp

@[simp] theorem State.appendEntries_frame (s : State) (es : List SeqEntry) (n : Nat) :
    (s.appendEntries es n).1.pending = s.pending ∧ (s.appendEntries es n).1.due = s.due ∧ (s.appendEntries es n).1.resetInput = s.resetInput ∧
      (s.appendEntries es n).1.mode = s.mode ∧ (s.appendEntries es n).1.layout = s.layout ∧ (s.appendEntries es n).1.styles = s.styles ∧
      (s.appendEntries es n).1.sets = s.sets ∧ (s.appendEntries es n).1.bodies = s.bodies ∧ (s.appendEntries es n).1.nextKey = s.nextKey ∧
      (s.appendEntries es n).1.lineList = s.lineList ∧ (s.appendEntries es n).1.stations = s.stations ∧ (s.appendEntries es n).1.lines = s.lines ∧
      (s.appendEntries es n).1.library = s.library ∧ (s.appendEntries es n).1.schedules = s.schedules ∧ (s.appendEntries es n).1.curves = s.curves ∧
      (s.appendEntries es n).1.robots = s.robots ∧ (s.appendEntries es n).1.staging = s.staging ∧ (s.appendEntries es n).1.pend = s.pend ∧
      (s.appendEntries es n).1.buses = s.buses ∧ (s.appendEntries es n).1.ports = s.ports ∧ (s.appendEntries es n).1.attention = s.attention := by
  induction es generalizing s n with
  | nil => simp [State.appendEntries]
  | cons e es ih => unfold State.appendEntries; split <;> simp [ih]

@[simp] theorem State.advanceRead_frame (s : State) :
    s.advanceRead.pending = s.pending ∧ s.advanceRead.due = s.due ∧ s.advanceRead.resetInput = s.resetInput ∧
      s.advanceRead.mode = s.mode ∧ s.advanceRead.layout = s.layout ∧ s.advanceRead.styles = s.styles ∧
      s.advanceRead.sets = s.sets ∧ s.advanceRead.bodies = s.bodies ∧ s.advanceRead.nextKey = s.nextKey ∧
      s.advanceRead.lineList = s.lineList ∧ s.advanceRead.stations = s.stations ∧ s.advanceRead.lines = s.lines ∧
      s.advanceRead.library = s.library ∧ s.advanceRead.schedules = s.schedules ∧ s.advanceRead.curves = s.curves ∧
      s.advanceRead.robots = s.robots ∧ s.advanceRead.staging = s.staging ∧ s.advanceRead.pend = s.pend ∧
      s.advanceRead.buses = s.buses ∧ s.advanceRead.ports = s.ports ∧ s.advanceRead.attention = s.attention := by
  unfold State.advanceRead
  simp

@[simp] theorem State.emptyRing_frame (s : State) :
    s.emptyRing.pending = s.pending ∧ s.emptyRing.due = s.due ∧ s.emptyRing.resetInput = s.resetInput ∧
      s.emptyRing.mode = s.mode ∧ s.emptyRing.layout = s.layout ∧ s.emptyRing.styles = s.styles ∧
      s.emptyRing.sets = s.sets ∧ s.emptyRing.bodies = s.bodies ∧ s.emptyRing.nextKey = s.nextKey ∧
      s.emptyRing.lineList = s.lineList ∧ s.emptyRing.stations = s.stations ∧ s.emptyRing.lines = s.lines ∧
      s.emptyRing.library = s.library ∧ s.emptyRing.schedules = s.schedules ∧ s.emptyRing.curves = s.curves ∧
      s.emptyRing.robots = s.robots ∧ s.emptyRing.staging = s.staging ∧ s.emptyRing.pend = s.pend ∧
      s.emptyRing.buses = s.buses ∧ s.emptyRing.ports = s.ports := by
  unfold State.emptyRing
  simp

@[simp] theorem State.promote_frame (i : Nat) (psn : Word) (s : State) :
    (s.promote i psn).pending = s.pending ∧ (s.promote i psn).due = s.due ∧ (s.promote i psn).resetInput = s.resetInput ∧
      (s.promote i psn).mode = s.mode ∧ (s.promote i psn).layout = s.layout ∧ (s.promote i psn).ring = s.ring ∧
      (s.promote i psn).bodies = s.bodies ∧ (s.promote i psn).nextKey = s.nextKey ∧ (s.promote i psn).lineList = s.lineList ∧
      (s.promote i psn).stations = s.stations ∧ (s.promote i psn).lines = s.lines ∧ (s.promote i psn).library = s.library ∧
      (s.promote i psn).schedules = s.schedules ∧ (s.promote i psn).curves = s.curves ∧ (s.promote i psn).robots = s.robots ∧
      (s.promote i psn).staging = s.staging ∧ (s.promote i psn).pend = s.pend ∧ (s.promote i psn).buses = s.buses ∧
      (s.promote i psn).ports = s.ports := by
  unfold State.promote
  (repeat' split) <;> simp

@[simp] theorem State.passHead_frame (s : State) :
    s.passHead.pending = s.pending ∧ s.passHead.due = s.due ∧ s.passHead.resetInput = s.resetInput ∧
      s.passHead.mode = s.mode ∧ s.passHead.layout = s.layout ∧ s.passHead.styles = s.styles ∧
      s.passHead.sets = s.sets ∧ s.passHead.bodies = s.bodies ∧ s.passHead.nextKey = s.nextKey ∧
      s.passHead.lineList = s.lineList ∧ s.passHead.stations = s.stations ∧ s.passHead.lines = s.lines ∧
      s.passHead.library = s.library ∧ s.passHead.schedules = s.schedules ∧ s.passHead.curves = s.curves ∧
      s.passHead.robots = s.robots ∧ s.passHead.staging = s.staging ∧ s.passHead.pend = s.pend ∧
      s.passHead.buses = s.buses ∧ s.passHead.ports = s.ports := by
  unfold State.passHead
  (repeat' split) <;> simp

@[simp] theorem State.admitHead_frame (b : Binding) (s : State) :
    (s.admitHead b).pending = s.pending ∧ (s.admitHead b).resetInput = s.resetInput ∧ (s.admitHead b).mode = s.mode ∧
      (s.admitHead b).layout = s.layout ∧ (s.admitHead b).styles = s.styles ∧ (s.admitHead b).stations = s.stations ∧
      (s.admitHead b).lines = s.lines ∧ (s.admitHead b).library = s.library ∧ (s.admitHead b).schedules = s.schedules ∧
      (s.admitHead b).curves = s.curves ∧ (s.admitHead b).robots = s.robots ∧ (s.admitHead b).staging = s.staging ∧
      (s.admitHead b).pend = s.pend ∧ (s.admitHead b).buses = s.buses ∧ (s.admitHead b).ports = s.ports := by
  unfold State.admitHead
  (repeat' split) <;> simp

@[simp] theorem State.stallHead_frame (s : State) :
    s.stallHead.pending = s.pending ∧ s.stallHead.due = s.due ∧ s.stallHead.resetInput = s.resetInput ∧
      s.stallHead.mode = s.mode ∧ s.stallHead.layout = s.layout ∧ s.stallHead.styles = s.styles ∧
      s.stallHead.sets = s.sets ∧ s.stallHead.bodies = s.bodies ∧ s.stallHead.nextKey = s.nextKey ∧
      s.stallHead.lineList = s.lineList ∧ s.stallHead.stations = s.stations ∧ s.stallHead.lines = s.lines ∧
      s.stallHead.library = s.library ∧ s.stallHead.schedules = s.schedules ∧ s.stallHead.curves = s.curves ∧
      s.stallHead.robots = s.robots ∧ s.stallHead.staging = s.staging ∧ s.stallHead.pend = s.pend ∧
      s.stallHead.buses = s.buses ∧ s.stallHead.ports = s.ports := by
  unfold State.stallHead
  (repeat' split) <;> simp

@[simp] theorem State.attemptAgain_frame (s : State) :
    s.attemptAgain.pending = s.pending ∧ s.attemptAgain.resetInput = s.resetInput ∧ s.attemptAgain.mode = s.mode ∧
      s.attemptAgain.layout = s.layout ∧ s.attemptAgain.ring = s.ring ∧ s.attemptAgain.styles = s.styles ∧
      s.attemptAgain.sets = s.sets ∧ s.attemptAgain.bodies = s.bodies ∧ s.attemptAgain.nextKey = s.nextKey ∧
      s.attemptAgain.lineList = s.lineList ∧ s.attemptAgain.stations = s.stations ∧ s.attemptAgain.lines = s.lines ∧
      s.attemptAgain.library = s.library ∧ s.attemptAgain.schedules = s.schedules ∧ s.attemptAgain.curves = s.curves ∧
      s.attemptAgain.robots = s.robots ∧ s.attemptAgain.staging = s.staging ∧ s.attemptAgain.pend = s.pend ∧
      s.attemptAgain.buses = s.buses ∧ s.attemptAgain.ports = s.ports ∧ s.attemptAgain.attention = s.attention := by
  simp [State.attemptAgain]

@[simp] theorem State.admitNext_frame (s : State) :
    s.admitNext.pending = s.pending ∧ s.admitNext.resetInput = s.resetInput ∧ s.admitNext.mode = s.mode ∧
      s.admitNext.layout = s.layout ∧ s.admitNext.stations = s.stations ∧ s.admitNext.lines = s.lines ∧
      s.admitNext.library = s.library ∧ s.admitNext.schedules = s.schedules ∧ s.admitNext.curves = s.curves ∧
      s.admitNext.robots = s.robots ∧ s.admitNext.staging = s.staging ∧ s.admitNext.pend = s.pend ∧
      s.admitNext.buses = s.buses ∧ s.admitNext.ports = s.ports := by
  unfold State.admitNext
  dsimp only
  (repeat' split) <;> simp

@[simp] theorem State.discharge_frame (d : Due) (s : State) :
    (s.discharge d).pending = s.pending ∧ (s.discharge d).resetInput = s.resetInput ∧ (s.discharge d).mode = s.mode ∧
      (s.discharge d).layout = s.layout ∧ (s.discharge d).ring = s.ring ∧ (s.discharge d).styles = s.styles ∧
      (s.discharge d).sets = s.sets ∧ (s.discharge d).bodies = s.bodies ∧ (s.discharge d).nextKey = s.nextKey ∧
      (s.discharge d).lineList = s.lineList ∧ (s.discharge d).stations = s.stations ∧ (s.discharge d).lines = s.lines ∧
      (s.discharge d).library = s.library ∧ (s.discharge d).schedules = s.schedules ∧ (s.discharge d).curves = s.curves ∧
      (s.discharge d).robots = s.robots ∧ (s.discharge d).staging = s.staging ∧ (s.discharge d).pend = s.pend ∧
      (s.discharge d).buses = s.buses ∧ (s.discharge d).ports = s.ports ∧ (s.discharge d).attention = s.attention := by
  unfold State.discharge
  simp

@[simp] theorem State.writeCurrent_frame (i : Nat) (p : StylePart) (s : State) :
    (s.writeCurrent i p).pending = s.pending ∧ (s.writeCurrent i p).due = s.due ∧ (s.writeCurrent i p).resetInput = s.resetInput ∧
      (s.writeCurrent i p).mode = s.mode ∧ (s.writeCurrent i p).layout = s.layout ∧ (s.writeCurrent i p).ring = s.ring ∧
      (s.writeCurrent i p).bodies = s.bodies ∧ (s.writeCurrent i p).nextKey = s.nextKey ∧ (s.writeCurrent i p).lineList = s.lineList ∧
      (s.writeCurrent i p).stations = s.stations ∧ (s.writeCurrent i p).lines = s.lines ∧ (s.writeCurrent i p).library = s.library ∧
      (s.writeCurrent i p).schedules = s.schedules ∧ (s.writeCurrent i p).curves = s.curves ∧ (s.writeCurrent i p).robots = s.robots ∧
      (s.writeCurrent i p).staging = s.staging ∧ (s.writeCurrent i p).pend = s.pend ∧ (s.writeCurrent i p).buses = s.buses ∧
      (s.writeCurrent i p).ports = s.ports ∧ (s.writeCurrent i p).attention = s.attention := by
  unfold State.writeCurrent
  simp

@[simp] theorem State.writePending_frame (i : Nat) (p : PendingPart) (s : State) :
    (s.writePending i p).pending = s.pending ∧ (s.writePending i p).due = s.due ∧ (s.writePending i p).resetInput = s.resetInput ∧
      (s.writePending i p).mode = s.mode ∧ (s.writePending i p).layout = s.layout ∧ (s.writePending i p).ring = s.ring ∧
      (s.writePending i p).bodies = s.bodies ∧ (s.writePending i p).nextKey = s.nextKey ∧ (s.writePending i p).lineList = s.lineList ∧
      (s.writePending i p).stations = s.stations ∧ (s.writePending i p).lines = s.lines ∧ (s.writePending i p).library = s.library ∧
      (s.writePending i p).schedules = s.schedules ∧ (s.writePending i p).curves = s.curves ∧ (s.writePending i p).robots = s.robots ∧
      (s.writePending i p).staging = s.staging ∧ (s.writePending i p).pend = s.pend ∧ (s.writePending i p).buses = s.buses ∧
      (s.writePending i p).ports = s.ports ∧ (s.writePending i p).attention = s.attention := by
  unfold State.writePending
  simp

@[simp] theorem State.clearStyle_frame (i : Nat) (s : State) :
    (s.clearStyle i).pending = s.pending ∧ (s.clearStyle i).due = s.due ∧ (s.clearStyle i).resetInput = s.resetInput ∧
      (s.clearStyle i).mode = s.mode ∧ (s.clearStyle i).layout = s.layout ∧ (s.clearStyle i).ring = s.ring ∧
      (s.clearStyle i).bodies = s.bodies ∧ (s.clearStyle i).nextKey = s.nextKey ∧ (s.clearStyle i).lineList = s.lineList ∧
      (s.clearStyle i).stations = s.stations ∧ (s.clearStyle i).lines = s.lines ∧ (s.clearStyle i).library = s.library ∧
      (s.clearStyle i).schedules = s.schedules ∧ (s.clearStyle i).curves = s.curves ∧ (s.clearStyle i).robots = s.robots ∧
      (s.clearStyle i).staging = s.staging ∧ (s.clearStyle i).pend = s.pend ∧ (s.clearStyle i).buses = s.buses ∧
      (s.clearStyle i).ports = s.ports ∧ (s.clearStyle i).attention = s.attention := by
  unfold State.clearStyle
  simp

@[simp] theorem State.resizeStyles_frame (s : State) :
    s.resizeStyles.pending = s.pending ∧ s.resizeStyles.due = s.due ∧ s.resizeStyles.resetInput = s.resetInput ∧
      s.resizeStyles.mode = s.mode ∧ s.resizeStyles.layout = s.layout ∧ s.resizeStyles.ring = s.ring ∧
      s.resizeStyles.bodies = s.bodies ∧ s.resizeStyles.nextKey = s.nextKey ∧ s.resizeStyles.lineList = s.lineList ∧
      s.resizeStyles.stations = s.stations ∧ s.resizeStyles.lines = s.lines ∧ s.resizeStyles.library = s.library ∧
      s.resizeStyles.schedules = s.schedules ∧ s.resizeStyles.curves = s.curves ∧ s.resizeStyles.robots = s.robots ∧
      s.resizeStyles.staging = s.staging ∧ s.resizeStyles.pend = s.pend ∧ s.resizeStyles.buses = s.buses ∧
      s.resizeStyles.ports = s.ports ∧ s.resizeStyles.attention = s.attention := by
  unfold State.resizeStyles
  and_intros <;> exact foldl_keeps _ _ (fun t a => by simp) _ _

@[simp] theorem State.dropRefs_frame (entries : List DispatchEntry) (s : State) :
    (s.dropRefs entries).pending = s.pending ∧ (s.dropRefs entries).due = s.due ∧ (s.dropRefs entries).resetInput = s.resetInput ∧
      (s.dropRefs entries).mode = s.mode ∧ (s.dropRefs entries).layout = s.layout ∧ (s.dropRefs entries).ring = s.ring ∧
      (s.dropRefs entries).styles = s.styles ∧ (s.dropRefs entries).sets = s.sets ∧ (s.dropRefs entries).bodies = s.bodies ∧
      (s.dropRefs entries).nextKey = s.nextKey ∧ (s.dropRefs entries).lineList = s.lineList ∧ (s.dropRefs entries).stations = s.stations ∧
      (s.dropRefs entries).lines = s.lines ∧ (s.dropRefs entries).schedules = s.schedules ∧ (s.dropRefs entries).curves = s.curves ∧
      (s.dropRefs entries).robots = s.robots ∧ (s.dropRefs entries).staging = s.staging ∧ (s.dropRefs entries).pend = s.pend ∧
      (s.dropRefs entries).buses = s.buses ∧ (s.dropRefs entries).ports = s.ports ∧ (s.dropRefs entries).attention = s.attention := by
  unfold State.dropRefs
  induction entries generalizing s with
  | nil => simp
  | cons a l ih =>
    simp only [List.foldl_cons]
    simp [ih]

@[simp] theorem State.addRefs_frame (entries : List DispatchEntry) (s : State) :
    (s.addRefs entries).pending = s.pending ∧ (s.addRefs entries).due = s.due ∧ (s.addRefs entries).resetInput = s.resetInput ∧
      (s.addRefs entries).mode = s.mode ∧ (s.addRefs entries).layout = s.layout ∧ (s.addRefs entries).ring = s.ring ∧
      (s.addRefs entries).styles = s.styles ∧ (s.addRefs entries).sets = s.sets ∧ (s.addRefs entries).bodies = s.bodies ∧
      (s.addRefs entries).nextKey = s.nextKey ∧ (s.addRefs entries).lineList = s.lineList ∧ (s.addRefs entries).stations = s.stations ∧
      (s.addRefs entries).lines = s.lines ∧ (s.addRefs entries).schedules = s.schedules ∧ (s.addRefs entries).curves = s.curves ∧
      (s.addRefs entries).robots = s.robots ∧ (s.addRefs entries).staging = s.staging ∧ (s.addRefs entries).pend = s.pend ∧
      (s.addRefs entries).buses = s.buses ∧ (s.addRefs entries).ports = s.ports ∧ (s.addRefs entries).attention = s.attention := by
  unfold State.addRefs
  induction entries generalizing s with
  | nil => simp
  | cons a l ih =>
    simp only [List.foldl_cons]
    simp [ih]

@[simp] theorem State.openWork_frame (i k : Nat) (s : State) :
    (s.openWork i k).pending = s.pending ∧ (s.openWork i k).resetInput = s.resetInput ∧ (s.openWork i k).mode = s.mode ∧
      (s.openWork i k).layout = s.layout ∧ (s.openWork i k).ring = s.ring ∧ (s.openWork i k).styles = s.styles ∧
      (s.openWork i k).sets = s.sets ∧ (s.openWork i k).nextKey = s.nextKey ∧ (s.openWork i k).lineList = s.lineList ∧
      (s.openWork i k).lines = s.lines ∧ (s.openWork i k).library = s.library ∧ (s.openWork i k).schedules = s.schedules ∧
      (s.openWork i k).curves = s.curves ∧ (s.openWork i k).robots = s.robots ∧ (s.openWork i k).staging = s.staging ∧
      (s.openWork i k).pend = s.pend ∧ (s.openWork i k).buses = s.buses ∧ (s.openWork i k).ports = s.ports := by
  simp only [State.openWork]
  (repeat' split) <;> simp

@[simp] theorem State.exitBody_frame (k : Nat) (s : State) :
    (s.exitBody k).pending = s.pending ∧ (s.exitBody k).resetInput = s.resetInput ∧ (s.exitBody k).mode = s.mode ∧
      (s.exitBody k).layout = s.layout ∧ (s.exitBody k).ring = s.ring ∧ (s.exitBody k).styles = s.styles ∧
      (s.exitBody k).nextKey = s.nextKey ∧ (s.exitBody k).stations = s.stations ∧ (s.exitBody k).lines = s.lines ∧
      (s.exitBody k).library = s.library ∧ (s.exitBody k).schedules = s.schedules ∧ (s.exitBody k).curves = s.curves ∧
      (s.exitBody k).robots = s.robots ∧ (s.exitBody k).staging = s.staging ∧ (s.exitBody k).pend = s.pend ∧
      (s.exitBody k).buses = s.buses ∧ (s.exitBody k).ports = s.ports := by
  unfold State.exitBody
  (repeat' split) <;> simp

@[simp] theorem State.moveOn_frame (i k : Nat) (s : State) :
    (s.moveOn i k).pending = s.pending ∧ (s.moveOn i k).resetInput = s.resetInput ∧ (s.moveOn i k).mode = s.mode ∧
      (s.moveOn i k).layout = s.layout ∧ (s.moveOn i k).ring = s.ring ∧ (s.moveOn i k).styles = s.styles ∧
      (s.moveOn i k).nextKey = s.nextKey ∧ (s.moveOn i k).stations = s.stations ∧ (s.moveOn i k).lines = s.lines ∧
      (s.moveOn i k).library = s.library ∧ (s.moveOn i k).schedules = s.schedules ∧ (s.moveOn i k).curves = s.curves ∧
      (s.moveOn i k).robots = s.robots ∧ (s.moveOn i k).staging = s.staging ∧ (s.moveOn i k).pend = s.pend ∧
      (s.moveOn i k).buses = s.buses ∧ (s.moveOn i k).ports = s.ports := by
  unfold State.moveOn
  (repeat' split) <;> simp

@[simp] theorem State.leaveUnwelded_frame (i k : Nat) (move : Bool) (s : State) :
    (s.leaveUnwelded i k move).pending = s.pending ∧ (s.leaveUnwelded i k move).resetInput = s.resetInput ∧ (s.leaveUnwelded i k move).mode = s.mode ∧
      (s.leaveUnwelded i k move).layout = s.layout ∧ (s.leaveUnwelded i k move).ring = s.ring ∧ (s.leaveUnwelded i k move).styles = s.styles ∧
      (s.leaveUnwelded i k move).nextKey = s.nextKey ∧ (s.leaveUnwelded i k move).lines = s.lines ∧ (s.leaveUnwelded i k move).library = s.library ∧
      (s.leaveUnwelded i k move).schedules = s.schedules ∧ (s.leaveUnwelded i k move).curves = s.curves ∧ (s.leaveUnwelded i k move).staging = s.staging ∧
      (s.leaveUnwelded i k move).buses = s.buses ∧ (s.leaveUnwelded i k move).ports = s.ports := by
  unfold State.leaveUnwelded
  (repeat' split) <;> simp

@[simp] theorem State.leaveUnowed_frame (i k : Nat) (b : Body) (s : State) :
    (s.leaveUnowed i k b).pending = s.pending ∧ (s.leaveUnowed i k b).resetInput = s.resetInput ∧ (s.leaveUnowed i k b).mode = s.mode ∧
      (s.leaveUnowed i k b).layout = s.layout ∧ (s.leaveUnowed i k b).ring = s.ring ∧ (s.leaveUnowed i k b).styles = s.styles ∧
      (s.leaveUnowed i k b).sets = s.sets ∧ (s.leaveUnowed i k b).nextKey = s.nextKey ∧ (s.leaveUnowed i k b).lineList = s.lineList ∧
      (s.leaveUnowed i k b).lines = s.lines ∧ (s.leaveUnowed i k b).library = s.library ∧ (s.leaveUnowed i k b).schedules = s.schedules ∧
      (s.leaveUnowed i k b).curves = s.curves ∧ (s.leaveUnowed i k b).robots = s.robots ∧ (s.leaveUnowed i k b).staging = s.staging ∧
      (s.leaveUnowed i k b).pend = s.pend ∧ (s.leaveUnowed i k b).buses = s.buses ∧ (s.leaveUnowed i k b).ports = s.ports := by
  simp only [State.leaveUnowed]
  (repeat' split) <;> simp

@[simp] theorem State.departure_frame (i : Nat) (s : State) :
    (s.departure i).1.pending = s.pending ∧ (s.departure i).1.resetInput = s.resetInput ∧ (s.departure i).1.mode = s.mode ∧
      (s.departure i).1.layout = s.layout ∧ (s.departure i).1.ring = s.ring ∧ (s.departure i).1.styles = s.styles ∧
      (s.departure i).1.nextKey = s.nextKey ∧ (s.departure i).1.lines = s.lines ∧ (s.departure i).1.library = s.library ∧
      (s.departure i).1.schedules = s.schedules ∧ (s.departure i).1.curves = s.curves ∧ (s.departure i).1.staging = s.staging ∧
      (s.departure i).1.buses = s.buses ∧ (s.departure i).1.ports = s.ports := by
  unfold State.departure
  (repeat' split) <;> simp

@[simp] theorem State.impliedDeparture_frame (i : Nat) (b : Body) (s : State) :
    (s.impliedDeparture i b).pending = s.pending ∧ (s.impliedDeparture i b).resetInput = s.resetInput ∧ (s.impliedDeparture i b).mode = s.mode ∧
      (s.impliedDeparture i b).layout = s.layout ∧ (s.impliedDeparture i b).ring = s.ring ∧ (s.impliedDeparture i b).styles = s.styles ∧
      (s.impliedDeparture i b).nextKey = s.nextKey ∧ (s.impliedDeparture i b).lines = s.lines ∧ (s.impliedDeparture i b).library = s.library ∧
      (s.impliedDeparture i b).schedules = s.schedules ∧ (s.impliedDeparture i b).curves = s.curves ∧ (s.impliedDeparture i b).staging = s.staging ∧
      (s.impliedDeparture i b).buses = s.buses ∧ (s.impliedDeparture i b).ports = s.ports := by
  unfold State.impliedDeparture
  (repeat' split) <;> simp

@[simp] theorem State.bypass_frame (i k : Nat) (s : State) :
    (s.bypass i k).pending = s.pending ∧ (s.bypass i k).due = s.due ∧ (s.bypass i k).resetInput = s.resetInput ∧
      (s.bypass i k).mode = s.mode ∧ (s.bypass i k).layout = s.layout ∧ (s.bypass i k).ring = s.ring ∧
      (s.bypass i k).styles = s.styles ∧ (s.bypass i k).sets = s.sets ∧ (s.bypass i k).nextKey = s.nextKey ∧
      (s.bypass i k).lineList = s.lineList ∧ (s.bypass i k).stations = s.stations ∧ (s.bypass i k).lines = s.lines ∧
      (s.bypass i k).library = s.library ∧ (s.bypass i k).schedules = s.schedules ∧ (s.bypass i k).curves = s.curves ∧
      (s.bypass i k).robots = s.robots ∧ (s.bypass i k).staging = s.staging ∧ (s.bypass i k).pend = s.pend ∧
      (s.bypass i k).buses = s.buses ∧ (s.bypass i k).ports = s.ports := by
  simp only [State.bypass]
  (repeat' split) <;> simp

@[simp] theorem State.takeArrival_frame (i k : Nat) (s : State) :
    (s.takeArrival i k).pending = s.pending ∧ (s.takeArrival i k).resetInput = s.resetInput ∧ (s.takeArrival i k).mode = s.mode ∧
      (s.takeArrival i k).layout = s.layout ∧ (s.takeArrival i k).ring = s.ring ∧ (s.takeArrival i k).styles = s.styles ∧
      (s.takeArrival i k).sets = s.sets ∧ (s.takeArrival i k).nextKey = s.nextKey ∧ (s.takeArrival i k).lineList = s.lineList ∧
      (s.takeArrival i k).lines = s.lines ∧ (s.takeArrival i k).library = s.library ∧ (s.takeArrival i k).schedules = s.schedules ∧
      (s.takeArrival i k).curves = s.curves ∧ (s.takeArrival i k).robots = s.robots ∧ (s.takeArrival i k).staging = s.staging ∧
      (s.takeArrival i k).pend = s.pend ∧ (s.takeArrival i k).buses = s.buses ∧ (s.takeArrival i k).ports = s.ports := by
  simp only [State.takeArrival]
  (repeat' split) <;> simp

@[simp] theorem State.arrival_frame (i : Nat) (tag : Option Word) (s : State) :
    (s.arrival i tag).1.pending = s.pending ∧ (s.arrival i tag).1.resetInput = s.resetInput ∧ (s.arrival i tag).1.mode = s.mode ∧
      (s.arrival i tag).1.layout = s.layout ∧ (s.arrival i tag).1.ring = s.ring ∧ (s.arrival i tag).1.styles = s.styles ∧
      (s.arrival i tag).1.nextKey = s.nextKey ∧ (s.arrival i tag).1.lines = s.lines ∧ (s.arrival i tag).1.library = s.library ∧
      (s.arrival i tag).1.schedules = s.schedules ∧ (s.arrival i tag).1.curves = s.curves ∧ (s.arrival i tag).1.staging = s.staging ∧
      (s.arrival i tag).1.buses = s.buses ∧ (s.arrival i tag).1.ports = s.ports := by
  unfold State.arrival
  (repeat' split) <;> simp

@[simp] theorem State.pullBody_frame (b : Body) (reason : Byte) (s : State) :
    (s.pullBody b reason).pending = s.pending ∧ (s.pullBody b reason).resetInput = s.resetInput ∧ (s.pullBody b reason).mode = s.mode ∧
      (s.pullBody b reason).layout = s.layout ∧ (s.pullBody b reason).ring = s.ring ∧ (s.pullBody b reason).styles = s.styles ∧
      (s.pullBody b reason).nextKey = s.nextKey ∧ (s.pullBody b reason).lines = s.lines ∧ (s.pullBody b reason).library = s.library ∧
      (s.pullBody b reason).schedules = s.schedules ∧ (s.pullBody b reason).curves = s.curves ∧ (s.pullBody b reason).staging = s.staging ∧
      (s.pullBody b reason).buses = s.buses ∧ (s.pullBody b reason).ports = s.ports := by
  unfold State.pullBody
  (repeat' split) <;> simp

@[simp] theorem State.reinsertBody_frame (b : Body) (i : Nat) (s : State) :
    (s.reinsertBody b i).pending = s.pending ∧ (s.reinsertBody b i).resetInput = s.resetInput ∧ (s.reinsertBody b i).mode = s.mode ∧
      (s.reinsertBody b i).layout = s.layout ∧ (s.reinsertBody b i).ring = s.ring ∧ (s.reinsertBody b i).styles = s.styles ∧
      (s.reinsertBody b i).sets = s.sets ∧ (s.reinsertBody b i).nextKey = s.nextKey ∧ (s.reinsertBody b i).stations = s.stations ∧
      (s.reinsertBody b i).lines = s.lines ∧ (s.reinsertBody b i).library = s.library ∧ (s.reinsertBody b i).schedules = s.schedules ∧
      (s.reinsertBody b i).curves = s.curves ∧ (s.reinsertBody b i).robots = s.robots ∧ (s.reinsertBody b i).staging = s.staging ∧
      (s.reinsertBody b i).pend = s.pend ∧ (s.reinsertBody b i).buses = s.buses ∧ (s.reinsertBody b i).ports = s.ports ∧
      (s.reinsertBody b i).attention = s.attention := by
  unfold State.reinsertBody
  (repeat' split) <;> simp

@[simp] theorem State.releaseStation_frame (i : Nat) (s : State) :
    (s.releaseStation i).pending = s.pending ∧ (s.releaseStation i).resetInput = s.resetInput ∧ (s.releaseStation i).mode = s.mode ∧
      (s.releaseStation i).layout = s.layout ∧ (s.releaseStation i).ring = s.ring ∧ (s.releaseStation i).styles = s.styles ∧
      (s.releaseStation i).sets = s.sets ∧ (s.releaseStation i).nextKey = s.nextKey ∧ (s.releaseStation i).lineList = s.lineList ∧
      (s.releaseStation i).lines = s.lines ∧ (s.releaseStation i).library = s.library ∧ (s.releaseStation i).schedules = s.schedules ∧
      (s.releaseStation i).curves = s.curves ∧ (s.releaseStation i).robots = s.robots ∧ (s.releaseStation i).staging = s.staging ∧
      (s.releaseStation i).pend = s.pend ∧ (s.releaseStation i).buses = s.buses ∧ (s.releaseStation i).ports = s.ports := by
  unfold State.releaseStation
  (repeat' split) <;> simp

@[simp] theorem State.clearWithBody_frame (i k : Nat) (s : State) :
    (s.clearWithBody i k).pending = s.pending ∧ (s.clearWithBody i k).resetInput = s.resetInput ∧ (s.clearWithBody i k).mode = s.mode ∧
      (s.clearWithBody i k).layout = s.layout ∧ (s.clearWithBody i k).ring = s.ring ∧ (s.clearWithBody i k).styles = s.styles ∧
      (s.clearWithBody i k).sets = s.sets ∧ (s.clearWithBody i k).nextKey = s.nextKey ∧ (s.clearWithBody i k).lineList = s.lineList ∧
      (s.clearWithBody i k).lines = s.lines ∧ (s.clearWithBody i k).library = s.library ∧ (s.clearWithBody i k).schedules = s.schedules ∧
      (s.clearWithBody i k).curves = s.curves ∧ (s.clearWithBody i k).staging = s.staging ∧ (s.clearWithBody i k).buses = s.buses ∧
      (s.clearWithBody i k).ports = s.ports := by
  unfold State.clearWithBody
  simp

@[simp] theorem State.openWindow_frame (i : Nat) (w : Window) (s : State) :
    (s.openWindow i w).pending = s.pending ∧ (s.openWindow i w).due = s.due ∧ (s.openWindow i w).resetInput = s.resetInput ∧
      (s.openWindow i w).mode = s.mode ∧ (s.openWindow i w).layout = s.layout ∧ (s.openWindow i w).ring = s.ring ∧
      (s.openWindow i w).styles = s.styles ∧ (s.openWindow i w).sets = s.sets ∧ (s.openWindow i w).bodies = s.bodies ∧
      (s.openWindow i w).nextKey = s.nextKey ∧ (s.openWindow i w).lineList = s.lineList ∧ (s.openWindow i w).stations = s.stations ∧
      (s.openWindow i w).library = s.library ∧ (s.openWindow i w).schedules = s.schedules ∧ (s.openWindow i w).curves = s.curves ∧
      (s.openWindow i w).robots = s.robots ∧ (s.openWindow i w).staging = s.staging ∧ (s.openWindow i w).pend = s.pend ∧
      (s.openWindow i w).buses = s.buses ∧ (s.openWindow i w).ports = s.ports ∧ (s.openWindow i w).attention = s.attention := by
  unfold State.openWindow
  simp

@[simp] theorem State.closeWindow_frame (i : Nat) (s : State) :
    (s.closeWindow i).pending = s.pending ∧ (s.closeWindow i).due = s.due ∧ (s.closeWindow i).resetInput = s.resetInput ∧
      (s.closeWindow i).mode = s.mode ∧ (s.closeWindow i).layout = s.layout ∧ (s.closeWindow i).ring = s.ring ∧
      (s.closeWindow i).styles = s.styles ∧ (s.closeWindow i).sets = s.sets ∧ (s.closeWindow i).bodies = s.bodies ∧
      (s.closeWindow i).nextKey = s.nextKey ∧ (s.closeWindow i).lineList = s.lineList ∧ (s.closeWindow i).stations = s.stations ∧
      (s.closeWindow i).library = s.library ∧ (s.closeWindow i).schedules = s.schedules ∧ (s.closeWindow i).curves = s.curves ∧
      (s.closeWindow i).robots = s.robots ∧ (s.closeWindow i).staging = s.staging ∧ (s.closeWindow i).pend = s.pend ∧
      (s.closeWindow i).buses = s.buses ∧ (s.closeWindow i).ports = s.ports ∧ (s.closeWindow i).attention = s.attention := by
  unfold State.closeWindow
  simp

@[simp] theorem State.setEcho_frame (i : Nat) (e : Echo) (s : State) :
    (s.setEcho i e).pending = s.pending ∧ (s.setEcho i e).due = s.due ∧ (s.setEcho i e).resetInput = s.resetInput ∧
      (s.setEcho i e).mode = s.mode ∧ (s.setEcho i e).layout = s.layout ∧ (s.setEcho i e).ring = s.ring ∧
      (s.setEcho i e).styles = s.styles ∧ (s.setEcho i e).sets = s.sets ∧ (s.setEcho i e).bodies = s.bodies ∧
      (s.setEcho i e).nextKey = s.nextKey ∧ (s.setEcho i e).lineList = s.lineList ∧ (s.setEcho i e).stations = s.stations ∧
      (s.setEcho i e).library = s.library ∧ (s.setEcho i e).schedules = s.schedules ∧ (s.setEcho i e).curves = s.curves ∧
      (s.setEcho i e).robots = s.robots ∧ (s.setEcho i e).staging = s.staging ∧ (s.setEcho i e).pend = s.pend ∧
      (s.setEcho i e).buses = s.buses ∧ (s.setEcho i e).ports = s.ports ∧ (s.setEcho i e).attention = s.attention := by
  unfold State.setEcho
  simp

@[simp] theorem State.departureReport_frame (i : Nat) (owed other : Echo) (s : State) :
    (s.departureReport i owed other).1.pending = s.pending ∧ (s.departureReport i owed other).1.resetInput = s.resetInput ∧
      (s.departureReport i owed other).1.mode = s.mode ∧ (s.departureReport i owed other).1.layout = s.layout ∧
      (s.departureReport i owed other).1.ring = s.ring ∧ (s.departureReport i owed other).1.styles = s.styles ∧
      (s.departureReport i owed other).1.nextKey = s.nextKey ∧ (s.departureReport i owed other).1.library = s.library ∧
      (s.departureReport i owed other).1.schedules = s.schedules ∧ (s.departureReport i owed other).1.curves = s.curves ∧
      (s.departureReport i owed other).1.staging = s.staging ∧ (s.departureReport i owed other).1.buses = s.buses ∧
      (s.departureReport i owed other).1.ports = s.ports := by
  simp only [State.departureReport]
  (repeat' split) <;> simp

@[simp] theorem State.lineArrival_frame (i : Nat) (s : State) :
    (s.lineArrival i).1.pending = s.pending ∧ (s.lineArrival i).1.resetInput = s.resetInput ∧ (s.lineArrival i).1.mode = s.mode ∧
      (s.lineArrival i).1.layout = s.layout ∧ (s.lineArrival i).1.ring = s.ring ∧ (s.lineArrival i).1.styles = s.styles ∧
      (s.lineArrival i).1.nextKey = s.nextKey ∧ (s.lineArrival i).1.library = s.library ∧ (s.lineArrival i).1.schedules = s.schedules ∧
      (s.lineArrival i).1.curves = s.curves ∧ (s.lineArrival i).1.staging = s.staging ∧ (s.lineArrival i).1.buses = s.buses ∧
      (s.lineArrival i).1.ports = s.ports := by
  unfold State.lineArrival
  (repeat' split) <;> simp

@[simp] theorem State.lineDeparture_frame (i : Nat) (s : State) :
    (s.lineDeparture i).1.pending = s.pending ∧ (s.lineDeparture i).1.resetInput = s.resetInput ∧ (s.lineDeparture i).1.mode = s.mode ∧
      (s.lineDeparture i).1.layout = s.layout ∧ (s.lineDeparture i).1.ring = s.ring ∧ (s.lineDeparture i).1.styles = s.styles ∧
      (s.lineDeparture i).1.nextKey = s.nextKey ∧ (s.lineDeparture i).1.library = s.library ∧ (s.lineDeparture i).1.schedules = s.schedules ∧
      (s.lineDeparture i).1.curves = s.curves ∧ (s.lineDeparture i).1.staging = s.staging ∧ (s.lineDeparture i).1.buses = s.buses ∧
      (s.lineDeparture i).1.ports = s.ports := by
  unfold State.lineDeparture
  (repeat' split) <;> simp

@[simp] theorem State.presenceReport_frame (i : Nat) (was : Bool) (s : State) :
    (s.presenceReport i was).1.pending = s.pending ∧ (s.presenceReport i was).1.resetInput = s.resetInput ∧ (s.presenceReport i was).1.mode = s.mode ∧
      (s.presenceReport i was).1.layout = s.layout ∧ (s.presenceReport i was).1.ring = s.ring ∧ (s.presenceReport i was).1.styles = s.styles ∧
      (s.presenceReport i was).1.nextKey = s.nextKey ∧ (s.presenceReport i was).1.library = s.library ∧ (s.presenceReport i was).1.schedules = s.schedules ∧
      (s.presenceReport i was).1.curves = s.curves ∧ (s.presenceReport i was).1.staging = s.staging ∧ (s.presenceReport i was).1.buses = s.buses ∧
      (s.presenceReport i was).1.ports = s.ports := by
  unfold State.presenceReport
  (repeat' split) <;> simp

@[simp] theorem State.accept_frame (i : Nat) (level : Level) (s : State) :
    (s.accept i level).pending = s.pending ∧ (s.accept i level).due = s.due ∧ (s.accept i level).resetInput = s.resetInput ∧
      (s.accept i level).mode = s.mode ∧ (s.accept i level).layout = s.layout ∧ (s.accept i level).ring = s.ring ∧
      (s.accept i level).styles = s.styles ∧ (s.accept i level).sets = s.sets ∧ (s.accept i level).bodies = s.bodies ∧
      (s.accept i level).nextKey = s.nextKey ∧ (s.accept i level).lineList = s.lineList ∧ (s.accept i level).stations = s.stations ∧
      (s.accept i level).library = s.library ∧ (s.accept i level).schedules = s.schedules ∧ (s.accept i level).curves = s.curves ∧
      (s.accept i level).robots = s.robots ∧ (s.accept i level).staging = s.staging ∧ (s.accept i level).pend = s.pend ∧
      (s.accept i level).buses = s.buses ∧ (s.accept i level).ports = s.ports ∧ (s.accept i level).attention = s.attention := by
  unfold State.accept
  simp

@[simp] theorem State.expireWindow_frame (i : Nat) (s : State) :
    (s.expireWindow i).pending = s.pending ∧ (s.expireWindow i).resetInput = s.resetInput ∧ (s.expireWindow i).mode = s.mode ∧
      (s.expireWindow i).layout = s.layout ∧ (s.expireWindow i).ring = s.ring ∧ (s.expireWindow i).styles = s.styles ∧
      (s.expireWindow i).sets = s.sets ∧ (s.expireWindow i).bodies = s.bodies ∧ (s.expireWindow i).nextKey = s.nextKey ∧
      (s.expireWindow i).lineList = s.lineList ∧ (s.expireWindow i).library = s.library ∧ (s.expireWindow i).schedules = s.schedules ∧
      (s.expireWindow i).curves = s.curves ∧ (s.expireWindow i).robots = s.robots ∧ (s.expireWindow i).staging = s.staging ∧
      (s.expireWindow i).pend = s.pend ∧ (s.expireWindow i).buses = s.buses ∧ (s.expireWindow i).ports = s.ports := by
  unfold State.expireWindow
  (repeat' split) <;> simp

@[simp] theorem State.expireEcho_frame (i : Nat) (s : State) :
    (s.expireEcho i).pending = s.pending ∧ (s.expireEcho i).due = s.due ∧ (s.expireEcho i).resetInput = s.resetInput ∧
      (s.expireEcho i).mode = s.mode ∧ (s.expireEcho i).layout = s.layout ∧ (s.expireEcho i).ring = s.ring ∧
      (s.expireEcho i).styles = s.styles ∧ (s.expireEcho i).sets = s.sets ∧ (s.expireEcho i).bodies = s.bodies ∧
      (s.expireEcho i).nextKey = s.nextKey ∧ (s.expireEcho i).lineList = s.lineList ∧ (s.expireEcho i).stations = s.stations ∧
      (s.expireEcho i).library = s.library ∧ (s.expireEcho i).schedules = s.schedules ∧ (s.expireEcho i).curves = s.curves ∧
      (s.expireEcho i).robots = s.robots ∧ (s.expireEcho i).staging = s.staging ∧ (s.expireEcho i).pend = s.pend ∧
      (s.expireEcho i).buses = s.buses ∧ (s.expireEcho i).ports = s.ports ∧ (s.expireEcho i).attention = s.attention := by
  unfold State.expireEcho
  (repeat' split) <;> simp

@[simp] theorem State.frameArrival_frame (i : Nat) (tag : Word) (s : State) :
    (s.frameArrival i tag).1.pending = s.pending ∧ (s.frameArrival i tag).1.resetInput = s.resetInput ∧ (s.frameArrival i tag).1.mode = s.mode ∧
      (s.frameArrival i tag).1.layout = s.layout ∧ (s.frameArrival i tag).1.ring = s.ring ∧ (s.frameArrival i tag).1.styles = s.styles ∧
      (s.frameArrival i tag).1.nextKey = s.nextKey ∧ (s.frameArrival i tag).1.library = s.library ∧ (s.frameArrival i tag).1.schedules = s.schedules ∧
      (s.frameArrival i tag).1.curves = s.curves ∧ (s.frameArrival i tag).1.staging = s.staging ∧ (s.frameArrival i tag).1.buses = s.buses ∧
      (s.frameArrival i tag).1.ports = s.ports := by
  unfold State.frameArrival
  (repeat' split) <;> simp

@[simp] theorem State.frameDeparture_frame (i : Nat) (s : State) :
    (s.frameDeparture i).1.pending = s.pending ∧ (s.frameDeparture i).1.resetInput = s.resetInput ∧ (s.frameDeparture i).1.mode = s.mode ∧
      (s.frameDeparture i).1.layout = s.layout ∧ (s.frameDeparture i).1.ring = s.ring ∧ (s.frameDeparture i).1.styles = s.styles ∧
      (s.frameDeparture i).1.nextKey = s.nextKey ∧ (s.frameDeparture i).1.library = s.library ∧ (s.frameDeparture i).1.schedules = s.schedules ∧
      (s.frameDeparture i).1.curves = s.curves ∧ (s.frameDeparture i).1.staging = s.staging ∧ (s.frameDeparture i).1.buses = s.buses ∧
      (s.frameDeparture i).1.ports = s.ports := by
  unfold State.frameDeparture
  (repeat' split) <;> simp

@[simp] theorem State.writeSense_frame (i : Nat) (x : Sense) (s : State) :
    (s.writeSense i x).pending = s.pending ∧ (s.writeSense i x).due = s.due ∧ (s.writeSense i x).resetInput = s.resetInput ∧
      (s.writeSense i x).mode = s.mode ∧ (s.writeSense i x).ring = s.ring ∧ (s.writeSense i x).styles = s.styles ∧
      (s.writeSense i x).sets = s.sets ∧ (s.writeSense i x).bodies = s.bodies ∧ (s.writeSense i x).nextKey = s.nextKey ∧
      (s.writeSense i x).lineList = s.lineList ∧ (s.writeSense i x).stations = s.stations ∧ (s.writeSense i x).lines = s.lines ∧
      (s.writeSense i x).library = s.library ∧ (s.writeSense i x).schedules = s.schedules ∧ (s.writeSense i x).curves = s.curves ∧
      (s.writeSense i x).robots = s.robots ∧ (s.writeSense i x).staging = s.staging ∧ (s.writeSense i x).pend = s.pend ∧
      (s.writeSense i x).buses = s.buses ∧ (s.writeSense i x).ports = s.ports ∧ (s.writeSense i x).attention = s.attention := by
  unfold State.writeSense
  simp

end Machine
end Sys2Proof
end

