-- ==== Sys2Proof/Laws/FramesRobots.lean ====
section
/-!
SUPPORT. For each shared operation of Programs, Calculator, Staging, Selection, Buses, once: the fields of State it leaves as they are, whatever its
operands. A field not listed is one the operation may write.
-/
namespace Sys2Proof
namespace Machine

@[simp] theorem State.returnBlocks_frame (bs : List Nat) (s : State) :
    (s.returnBlocks bs).pending = s.pending ∧ (s.returnBlocks bs).due = s.due ∧ (s.returnBlocks bs).resetInput = s.resetInput ∧
      (s.returnBlocks bs).mode = s.mode ∧ (s.returnBlocks bs).layout = s.layout ∧ (s.returnBlocks bs).ring = s.ring ∧
      (s.returnBlocks bs).styles = s.styles ∧ (s.returnBlocks bs).sets = s.sets ∧ (s.returnBlocks bs).bodies = s.bodies ∧
      (s.returnBlocks bs).nextKey = s.nextKey ∧ (s.returnBlocks bs).lineList = s.lineList ∧ (s.returnBlocks bs).stations = s.stations ∧
      (s.returnBlocks bs).lines = s.lines ∧ (s.returnBlocks bs).schedules = s.schedules ∧ (s.returnBlocks bs).curves = s.curves ∧
      (s.returnBlocks bs).robots = s.robots ∧ (s.returnBlocks bs).staging = s.staging ∧ (s.returnBlocks bs).pend = s.pend ∧
      (s.returnBlocks bs).buses = s.buses ∧ (s.returnBlocks bs).ports = s.ports ∧ (s.returnBlocks bs).attention = s.attention := by
  unfold State.returnBlocks
  simp

@[simp] theorem State.takeBlocks_frame (n : Nat) (bs : List Nat) (s : State) :
    (s.takeBlocks n bs).pending = s.pending ∧ (s.takeBlocks n bs).due = s.due ∧ (s.takeBlocks n bs).resetInput = s.resetInput ∧
      (s.takeBlocks n bs).mode = s.mode ∧ (s.takeBlocks n bs).layout = s.layout ∧ (s.takeBlocks n bs).ring = s.ring ∧
      (s.takeBlocks n bs).styles = s.styles ∧ (s.takeBlocks n bs).sets = s.sets ∧ (s.takeBlocks n bs).bodies = s.bodies ∧
      (s.takeBlocks n bs).nextKey = s.nextKey ∧ (s.takeBlocks n bs).lineList = s.lineList ∧ (s.takeBlocks n bs).stations = s.stations ∧
      (s.takeBlocks n bs).lines = s.lines ∧ (s.takeBlocks n bs).schedules = s.schedules ∧ (s.takeBlocks n bs).curves = s.curves ∧
      (s.takeBlocks n bs).robots = s.robots ∧ (s.takeBlocks n bs).staging = s.staging ∧ (s.takeBlocks n bs).pend = s.pend ∧
      (s.takeBlocks n bs).buses = s.buses ∧ (s.takeBlocks n bs).ports = s.ports ∧ (s.takeBlocks n bs).attention = s.attention := by
  unfold State.takeBlocks
  simp

@[simp] theorem State.emptyProg_frame (n : Nat) (d : ProgData) (s : State) :
    (s.emptyProg n d).pending = s.pending ∧ (s.emptyProg n d).due = s.due ∧ (s.emptyProg n d).resetInput = s.resetInput ∧
      (s.emptyProg n d).mode = s.mode ∧ (s.emptyProg n d).layout = s.layout ∧ (s.emptyProg n d).ring = s.ring ∧
      (s.emptyProg n d).styles = s.styles ∧ (s.emptyProg n d).sets = s.sets ∧ (s.emptyProg n d).bodies = s.bodies ∧
      (s.emptyProg n d).nextKey = s.nextKey ∧ (s.emptyProg n d).lineList = s.lineList ∧ (s.emptyProg n d).stations = s.stations ∧
      (s.emptyProg n d).lines = s.lines ∧ (s.emptyProg n d).schedules = s.schedules ∧ (s.emptyProg n d).curves = s.curves ∧
      (s.emptyProg n d).robots = s.robots ∧ (s.emptyProg n d).staging = s.staging ∧ (s.emptyProg n d).pend = s.pend ∧
      (s.emptyProg n d).buses = s.buses ∧ (s.emptyProg n d).ports = s.ports ∧ (s.emptyProg n d).attention = s.attention := by
  unfold State.emptyProg
  simp

@[simp] theorem State.abandonOf_frame (p : Fin 4) (s : State) :
    (s.abandonOf p).pending = s.pending ∧ (s.abandonOf p).due = s.due ∧ (s.abandonOf p).resetInput = s.resetInput ∧
      (s.abandonOf p).mode = s.mode ∧ (s.abandonOf p).layout = s.layout ∧ (s.abandonOf p).ring = s.ring ∧
      (s.abandonOf p).styles = s.styles ∧ (s.abandonOf p).sets = s.sets ∧ (s.abandonOf p).bodies = s.bodies ∧
      (s.abandonOf p).nextKey = s.nextKey ∧ (s.abandonOf p).lineList = s.lineList ∧ (s.abandonOf p).stations = s.stations ∧
      (s.abandonOf p).lines = s.lines ∧ (s.abandonOf p).schedules = s.schedules ∧ (s.abandonOf p).curves = s.curves ∧
      (s.abandonOf p).robots = s.robots ∧ (s.abandonOf p).staging = s.staging ∧ (s.abandonOf p).pend = s.pend ∧
      (s.abandonOf p).buses = s.buses ∧ (s.abandonOf p).ports = s.ports ∧ (s.abandonOf p).attention = s.attention := by
  unfold State.abandonOf
  (repeat' split) <;> simp

@[simp] theorem State.storePoint_frame (blocks : List Nat) (i : Nat) (p : Point) (s : State) :
    (s.storePoint blocks i p).pending = s.pending ∧ (s.storePoint blocks i p).due = s.due ∧ (s.storePoint blocks i p).resetInput = s.resetInput ∧
      (s.storePoint blocks i p).mode = s.mode ∧ (s.storePoint blocks i p).layout = s.layout ∧ (s.storePoint blocks i p).ring = s.ring ∧
      (s.storePoint blocks i p).styles = s.styles ∧ (s.storePoint blocks i p).sets = s.sets ∧ (s.storePoint blocks i p).bodies = s.bodies ∧
      (s.storePoint blocks i p).nextKey = s.nextKey ∧ (s.storePoint blocks i p).lineList = s.lineList ∧ (s.storePoint blocks i p).stations = s.stations ∧
      (s.storePoint blocks i p).lines = s.lines ∧ (s.storePoint blocks i p).schedules = s.schedules ∧ (s.storePoint blocks i p).curves = s.curves ∧
      (s.storePoint blocks i p).robots = s.robots ∧ (s.storePoint blocks i p).staging = s.staging ∧ (s.storePoint blocks i p).pend = s.pend ∧
      (s.storePoint blocks i p).buses = s.buses ∧ (s.storePoint blocks i p).ports = s.ports ∧ (s.storePoint blocks i p).attention = s.attention := by
  unfold State.storePoint
  simp

@[simp] theorem State.storePoints_frame (bl : List Nat) (i : Nat) (ps : List Point) (s : State) :
    (s.storePoints bl i ps).pending = s.pending ∧ (s.storePoints bl i ps).due = s.due ∧ (s.storePoints bl i ps).resetInput = s.resetInput ∧
      (s.storePoints bl i ps).mode = s.mode ∧ (s.storePoints bl i ps).layout = s.layout ∧ (s.storePoints bl i ps).ring = s.ring ∧
      (s.storePoints bl i ps).styles = s.styles ∧ (s.storePoints bl i ps).sets = s.sets ∧ (s.storePoints bl i ps).bodies = s.bodies ∧
      (s.storePoints bl i ps).nextKey = s.nextKey ∧ (s.storePoints bl i ps).lineList = s.lineList ∧ (s.storePoints bl i ps).stations = s.stations ∧
      (s.storePoints bl i ps).lines = s.lines ∧ (s.storePoints bl i ps).schedules = s.schedules ∧ (s.storePoints bl i ps).curves = s.curves ∧
      (s.storePoints bl i ps).robots = s.robots ∧ (s.storePoints bl i ps).staging = s.staging ∧ (s.storePoints bl i ps).pend = s.pend ∧
      (s.storePoints bl i ps).buses = s.buses ∧ (s.storePoints bl i ps).ports = s.ports ∧ (s.storePoints bl i ps).attention = s.attention := by
  induction ps generalizing s i with
  | nil => simp [State.storePoints]
  | cons p ps ih => unfold State.storePoints; simp [ih]

@[simp] theorem State.staleSlots_frame (n : Nat) (stamp : Word) (s : State) :
    (s.staleSlots n stamp).pending = s.pending ∧ (s.staleSlots n stamp).resetInput = s.resetInput ∧ (s.staleSlots n stamp).mode = s.mode ∧
      (s.staleSlots n stamp).layout = s.layout ∧ (s.staleSlots n stamp).ring = s.ring ∧ (s.staleSlots n stamp).styles = s.styles ∧
      (s.staleSlots n stamp).sets = s.sets ∧ (s.staleSlots n stamp).bodies = s.bodies ∧ (s.staleSlots n stamp).nextKey = s.nextKey ∧
      (s.staleSlots n stamp).lineList = s.lineList ∧ (s.staleSlots n stamp).stations = s.stations ∧ (s.staleSlots n stamp).lines = s.lines ∧
      (s.staleSlots n stamp).library = s.library ∧ (s.staleSlots n stamp).schedules = s.schedules ∧ (s.staleSlots n stamp).curves = s.curves ∧
      (s.staleSlots n stamp).staging = s.staging ∧ (s.staleSlots n stamp).pend = s.pend ∧ (s.staleSlots n stamp).buses = s.buses ∧
      (s.staleSlots n stamp).ports = s.ports ∧ (s.staleSlots n stamp).attention = s.attention := by
  unfold State.staleSlots
  simp

@[simp] theorem State.calculate_frame (r : Nat) (list : List Nat) (trim : Int) (s : State) :
    (s.calculate r list trim).1.pending = s.pending ∧ (s.calculate r list trim).1.due = s.due ∧ (s.calculate r list trim).1.resetInput = s.resetInput ∧
      (s.calculate r list trim).1.mode = s.mode ∧ (s.calculate r list trim).1.layout = s.layout ∧ (s.calculate r list trim).1.ring = s.ring ∧
      (s.calculate r list trim).1.styles = s.styles ∧ (s.calculate r list trim).1.sets = s.sets ∧ (s.calculate r list trim).1.bodies = s.bodies ∧
      (s.calculate r list trim).1.nextKey = s.nextKey ∧ (s.calculate r list trim).1.lineList = s.lineList ∧ (s.calculate r list trim).1.stations = s.stations ∧
      (s.calculate r list trim).1.lines = s.lines ∧ (s.calculate r list trim).1.library = s.library ∧ (s.calculate r list trim).1.schedules = s.schedules ∧
      (s.calculate r list trim).1.curves = s.curves ∧ (s.calculate r list trim).1.staging = s.staging ∧ (s.calculate r list trim).1.pend = s.pend ∧
      (s.calculate r list trim).1.buses = s.buses ∧ (s.calculate r list trim).1.ports = s.ports ∧ (s.calculate r list trim).1.attention = s.attention := by
  unfold State.calculate
  (repeat' split) <;> simp

@[simp] theorem State.beginLoad_frame (r slot n : Nat) (j : Job) (s : State) :
    (s.beginLoad r slot n j).pending = s.pending ∧ (s.beginLoad r slot n j).resetInput = s.resetInput ∧ (s.beginLoad r slot n j).mode = s.mode ∧
      (s.beginLoad r slot n j).layout = s.layout ∧ (s.beginLoad r slot n j).ring = s.ring ∧ (s.beginLoad r slot n j).styles = s.styles ∧
      (s.beginLoad r slot n j).sets = s.sets ∧ (s.beginLoad r slot n j).bodies = s.bodies ∧ (s.beginLoad r slot n j).nextKey = s.nextKey ∧
      (s.beginLoad r slot n j).lineList = s.lineList ∧ (s.beginLoad r slot n j).stations = s.stations ∧ (s.beginLoad r slot n j).lines = s.lines ∧
      (s.beginLoad r slot n j).schedules = s.schedules ∧ (s.beginLoad r slot n j).curves = s.curves ∧ (s.beginLoad r slot n j).pend = s.pend ∧
      (s.beginLoad r slot n j).buses = s.buses ∧ (s.beginLoad r slot n j).ports = s.ports ∧ (s.beginLoad r slot n j).attention = s.attention := by
  unfold State.beginLoad
  simp

@[simp] theorem State.blockHead_frame (r : Nat) (s : State) :
    (s.blockHead r).pending = s.pending ∧ (s.blockHead r).due = s.due ∧ (s.blockHead r).resetInput = s.resetInput ∧
      (s.blockHead r).mode = s.mode ∧ (s.blockHead r).layout = s.layout ∧ (s.blockHead r).ring = s.ring ∧
      (s.blockHead r).styles = s.styles ∧ (s.blockHead r).sets = s.sets ∧ (s.blockHead r).bodies = s.bodies ∧
      (s.blockHead r).nextKey = s.nextKey ∧ (s.blockHead r).lineList = s.lineList ∧ (s.blockHead r).stations = s.stations ∧
      (s.blockHead r).lines = s.lines ∧ (s.blockHead r).library = s.library ∧ (s.blockHead r).schedules = s.schedules ∧
      (s.blockHead r).curves = s.curves ∧ (s.blockHead r).robots = s.robots ∧ (s.blockHead r).pend = s.pend ∧
      (s.blockHead r).buses = s.buses ∧ (s.blockHead r).ports = s.ports := by
  unfold State.blockHead
  (repeat' split) <;> simp

@[simp] theorem State.activate_frame (r : Nat) (s : State) :
    (s.activate r).pending = s.pending ∧ (s.activate r).resetInput = s.resetInput ∧ (s.activate r).mode = s.mode ∧
      (s.activate r).layout = s.layout ∧ (s.activate r).ring = s.ring ∧ (s.activate r).styles = s.styles ∧
      (s.activate r).sets = s.sets ∧ (s.activate r).bodies = s.bodies ∧ (s.activate r).nextKey = s.nextKey ∧
      (s.activate r).lineList = s.lineList ∧ (s.activate r).stations = s.stations ∧ (s.activate r).lines = s.lines ∧
      (s.activate r).schedules = s.schedules ∧ (s.activate r).curves = s.curves ∧ (s.activate r).pend = s.pend ∧
      (s.activate r).buses = s.buses ∧ (s.activate r).ports = s.ports := by
  unfold State.activate
  (repeat' split) <;> simp

/-- When a load may begin for a job, and of how many points (R89, R90, R128). -/
theorem State.loadable_eq_some (s : State) (r : Nat) (j : Job) (count : Nat) :
    s.loadable r j = some count ↔
      (∃ w ∈ s.windowPrograms r, w.1 = j.program) ∧ ∃ d, s.ready j.program = some (j.stamp, d) ∧ d.count = count := by
  unfold State.loadable State.loadingOf
  cases h : s.ready j.program with
  | none => simp
  | some x =>
    obtain ⟨stamp, d⟩ := x
    simp only [List.any_eq_true, beq_iff_eq, Option.some.injEq, Prod.mk.injEq, ← ite_and, Option.ite_none_right_eq_some]
    constructor
    · rintro ⟨⟨hw, rfl⟩, rfl⟩
      exact ⟨hw, d, ⟨rfl, rfl⟩, rfl⟩
    · rintro ⟨hw, _, ⟨rfl, rfl⟩, rfl⟩
      exact ⟨⟨hw, rfl⟩, rfl⟩

/-- All an activation attempt can do (R131, R133): nothing, begin the head job's load in the slot chosen, or block it. -/
theorem State.activate_cases (r : Nat) (s : State) :
    s.activate r = s ∨ ∃ j rest count, (s.stage r).jobs = j :: rest ∧ s.mayActivate r = true ∧ s.loadable r j = some count ∧
      ((∃ i, s.chooseSlot r = some i ∧ s.activate r = s.beginLoad r i count j) ∨
        s.chooseSlot r = none ∧ s.activate r = s.blockHead r) := by
  unfold State.activate
  split
  · split
    · exact .inl rfl
    · rename_i j rest hj
      cases hl : s.loadable r j with
      | none => exact .inl rfl
      | some count =>
        cases hc : s.chooseSlot r with
        | none => exact .inr ⟨j, rest, count, hj, ‹_›, hl, .inr ⟨rfl, rfl⟩⟩
        | some i => exact .inr ⟨j, rest, count, hj, ‹_›, hl, .inl ⟨i, rfl, rfl⟩⟩
  · exact .inl rfl

@[simp] theorem State.recompute_frame (r : Nat) (s : State) :
    (s.recompute r).pending = s.pending ∧ (s.recompute r).resetInput = s.resetInput ∧ (s.recompute r).mode = s.mode ∧
      (s.recompute r).layout = s.layout ∧ (s.recompute r).ring = s.ring ∧ (s.recompute r).styles = s.styles ∧
      (s.recompute r).sets = s.sets ∧ (s.recompute r).bodies = s.bodies ∧ (s.recompute r).nextKey = s.nextKey ∧
      (s.recompute r).lineList = s.lineList ∧ (s.recompute r).stations = s.stations ∧ (s.recompute r).lines = s.lines ∧
      (s.recompute r).schedules = s.schedules ∧ (s.recompute r).curves = s.curves ∧ (s.recompute r).pend = s.pend ∧
      (s.recompute r).buses = s.buses ∧ (s.recompute r).ports = s.ports := by
  unfold State.recompute
  (repeat' split) <;> simp

@[simp] theorem State.beginSelection_frame (r i slot : Nat) (b : Body) (e : DispatchEntry) (s : State) :
    (s.beginSelection r i slot b e).pending = s.pending ∧ (s.beginSelection r i slot b e).resetInput = s.resetInput ∧
      (s.beginSelection r i slot b e).mode = s.mode ∧ (s.beginSelection r i slot b e).layout = s.layout ∧
      (s.beginSelection r i slot b e).ring = s.ring ∧ (s.beginSelection r i slot b e).styles = s.styles ∧
      (s.beginSelection r i slot b e).sets = s.sets ∧ (s.beginSelection r i slot b e).nextKey = s.nextKey ∧
      (s.beginSelection r i slot b e).lineList = s.lineList ∧ (s.beginSelection r i slot b e).lines = s.lines ∧
      (s.beginSelection r i slot b e).library = s.library ∧ (s.beginSelection r i slot b e).schedules = s.schedules ∧
      (s.beginSelection r i slot b e).curves = s.curves ∧ (s.beginSelection r i slot b e).staging = s.staging ∧
      (s.beginSelection r i slot b e).buses = s.buses ∧ (s.beginSelection r i slot b e).ports = s.ports := by
  simp only [State.beginSelection]
  (repeat' split) <;> simp

@[simp] theorem State.programLate_frame (r i : Nat) (s : State) :
    (s.programLate r i).pending = s.pending ∧ (s.programLate r i).due = s.due ∧ (s.programLate r i).resetInput = s.resetInput ∧
      (s.programLate r i).mode = s.mode ∧ (s.programLate r i).layout = s.layout ∧ (s.programLate r i).ring = s.ring ∧
      (s.programLate r i).styles = s.styles ∧ (s.programLate r i).sets = s.sets ∧ (s.programLate r i).bodies = s.bodies ∧
      (s.programLate r i).nextKey = s.nextKey ∧ (s.programLate r i).lineList = s.lineList ∧ (s.programLate r i).lines = s.lines ∧
      (s.programLate r i).library = s.library ∧ (s.programLate r i).schedules = s.schedules ∧ (s.programLate r i).curves = s.curves ∧
      (s.programLate r i).robots = s.robots ∧ (s.programLate r i).staging = s.staging ∧ (s.programLate r i).pend = s.pend ∧
      (s.programLate r i).buses = s.buses ∧ (s.programLate r i).ports = s.ports := by
  unfold State.programLate
  (repeat' split) <;> simp

@[simp] theorem State.attemptSelection_frame (r : Nat) (s : State) :
    (s.attemptSelection r).pending = s.pending ∧ (s.attemptSelection r).resetInput = s.resetInput ∧ (s.attemptSelection r).mode = s.mode ∧
      (s.attemptSelection r).layout = s.layout ∧ (s.attemptSelection r).ring = s.ring ∧ (s.attemptSelection r).styles = s.styles ∧
      (s.attemptSelection r).sets = s.sets ∧ (s.attemptSelection r).nextKey = s.nextKey ∧ (s.attemptSelection r).lineList = s.lineList ∧
      (s.attemptSelection r).lines = s.lines ∧ (s.attemptSelection r).library = s.library ∧ (s.attemptSelection r).schedules = s.schedules ∧
      (s.attemptSelection r).curves = s.curves ∧ (s.attemptSelection r).staging = s.staging ∧ (s.attemptSelection r).buses = s.buses ∧
      (s.attemptSelection r).ports = s.ports := by
  unfold State.attemptSelection
  (repeat' split) <;> simp

@[simp] theorem State.acknowledged_frame (r : Nat) (sel : Selection) (s : State) :
    (s.acknowledged r sel).pending = s.pending ∧ (s.acknowledged r sel).resetInput = s.resetInput ∧ (s.acknowledged r sel).mode = s.mode ∧
      (s.acknowledged r sel).layout = s.layout ∧ (s.acknowledged r sel).ring = s.ring ∧ (s.acknowledged r sel).styles = s.styles ∧
      (s.acknowledged r sel).sets = s.sets ∧ (s.acknowledged r sel).nextKey = s.nextKey ∧ (s.acknowledged r sel).lineList = s.lineList ∧
      (s.acknowledged r sel).lines = s.lines ∧ (s.acknowledged r sel).library = s.library ∧ (s.acknowledged r sel).schedules = s.schedules ∧
      (s.acknowledged r sel).curves = s.curves ∧ (s.acknowledged r sel).staging = s.staging ∧ (s.acknowledged r sel).pend = s.pend ∧
      (s.acknowledged r sel).buses = s.buses ∧ (s.acknowledged r sel).ports = s.ports := by
  unfold State.acknowledged
  dsimp only
  generalize State.stationOf _ r = o
  cases o <;> simp

@[simp] theorem State.orphanAbort_frame (r : Nat) (f : SelectFrame) (s : State) :
    (s.orphanAbort r f).pending = s.pending ∧ (s.orphanAbort r f).due = s.due ∧ (s.orphanAbort r f).resetInput = s.resetInput ∧
      (s.orphanAbort r f).mode = s.mode ∧ (s.orphanAbort r f).layout = s.layout ∧ (s.orphanAbort r f).ring = s.ring ∧
      (s.orphanAbort r f).styles = s.styles ∧ (s.orphanAbort r f).sets = s.sets ∧ (s.orphanAbort r f).bodies = s.bodies ∧
      (s.orphanAbort r f).nextKey = s.nextKey ∧ (s.orphanAbort r f).lineList = s.lineList ∧ (s.orphanAbort r f).stations = s.stations ∧
      (s.orphanAbort r f).lines = s.lines ∧ (s.orphanAbort r f).library = s.library ∧ (s.orphanAbort r f).schedules = s.schedules ∧
      (s.orphanAbort r f).curves = s.curves ∧ (s.orphanAbort r f).robots = s.robots ∧ (s.orphanAbort r f).staging = s.staging ∧
      (s.orphanAbort r f).buses = s.buses ∧ (s.orphanAbort r f).ports = s.ports ∧ (s.orphanAbort r f).attention = s.attention := by
  unfold State.orphanAbort
  simp

@[simp] theorem State.takeAck_frame (r : Nat) (f : SelectFrame) (s : State) :
    (s.takeAck r f).pending = s.pending ∧ (s.takeAck r f).resetInput = s.resetInput ∧ (s.takeAck r f).mode = s.mode ∧
      (s.takeAck r f).layout = s.layout ∧ (s.takeAck r f).ring = s.ring ∧ (s.takeAck r f).styles = s.styles ∧
      (s.takeAck r f).sets = s.sets ∧ (s.takeAck r f).nextKey = s.nextKey ∧ (s.takeAck r f).lineList = s.lineList ∧
      (s.takeAck r f).lines = s.lines ∧ (s.takeAck r f).library = s.library ∧ (s.takeAck r f).schedules = s.schedules ∧
      (s.takeAck r f).curves = s.curves ∧ (s.takeAck r f).staging = s.staging ∧ (s.takeAck r f).buses = s.buses ∧
      (s.takeAck r f).ports = s.ports := by
  unfold State.takeAck
  (repeat' split) <;> simp

@[simp] theorem State.refuseSlot_frame (r i : Nat) (s : State) :
    (s.refuseSlot r i).pending = s.pending ∧ (s.refuseSlot r i).resetInput = s.resetInput ∧ (s.refuseSlot r i).mode = s.mode ∧
      (s.refuseSlot r i).layout = s.layout ∧ (s.refuseSlot r i).ring = s.ring ∧ (s.refuseSlot r i).styles = s.styles ∧
      (s.refuseSlot r i).sets = s.sets ∧ (s.refuseSlot r i).bodies = s.bodies ∧ (s.refuseSlot r i).nextKey = s.nextKey ∧
      (s.refuseSlot r i).lineList = s.lineList ∧ (s.refuseSlot r i).stations = s.stations ∧ (s.refuseSlot r i).lines = s.lines ∧
      (s.refuseSlot r i).library = s.library ∧ (s.refuseSlot r i).schedules = s.schedules ∧ (s.refuseSlot r i).curves = s.curves ∧
      (s.refuseSlot r i).staging = s.staging ∧ (s.refuseSlot r i).pend = s.pend ∧ (s.refuseSlot r i).buses = s.buses ∧
      (s.refuseSlot r i).ports = s.ports ∧ (s.refuseSlot r i).attention = s.attention := by
  unfold State.refuseSlot
  (repeat' split) <;> simp

@[simp] theorem State.takeNakSlot_frame (r : Nat) (f : SelectFrame) (s : State) :
    (s.takeNakSlot r f).pending = s.pending ∧ (s.takeNakSlot r f).resetInput = s.resetInput ∧ (s.takeNakSlot r f).mode = s.mode ∧
      (s.takeNakSlot r f).layout = s.layout ∧ (s.takeNakSlot r f).ring = s.ring ∧ (s.takeNakSlot r f).styles = s.styles ∧
      (s.takeNakSlot r f).sets = s.sets ∧ (s.takeNakSlot r f).nextKey = s.nextKey ∧ (s.takeNakSlot r f).lineList = s.lineList ∧
      (s.takeNakSlot r f).lines = s.lines ∧ (s.takeNakSlot r f).library = s.library ∧ (s.takeNakSlot r f).schedules = s.schedules ∧
      (s.takeNakSlot r f).curves = s.curves ∧ (s.takeNakSlot r f).staging = s.staging ∧ (s.takeNakSlot r f).pend = s.pend ∧
      (s.takeNakSlot r f).buses = s.buses ∧ (s.takeNakSlot r f).ports = s.ports := by
  unfold State.takeNakSlot
  (repeat' split) <;> simp

@[simp] theorem State.takeNakBusy_frame (r : Nat) (f : SelectFrame) (s : State) :
    (s.takeNakBusy r f).pending = s.pending ∧ (s.takeNakBusy r f).due = s.due ∧ (s.takeNakBusy r f).resetInput = s.resetInput ∧
      (s.takeNakBusy r f).mode = s.mode ∧ (s.takeNakBusy r f).layout = s.layout ∧ (s.takeNakBusy r f).ring = s.ring ∧
      (s.takeNakBusy r f).styles = s.styles ∧ (s.takeNakBusy r f).sets = s.sets ∧ (s.takeNakBusy r f).bodies = s.bodies ∧
      (s.takeNakBusy r f).nextKey = s.nextKey ∧ (s.takeNakBusy r f).lineList = s.lineList ∧ (s.takeNakBusy r f).stations = s.stations ∧
      (s.takeNakBusy r f).lines = s.lines ∧ (s.takeNakBusy r f).library = s.library ∧ (s.takeNakBusy r f).schedules = s.schedules ∧
      (s.takeNakBusy r f).curves = s.curves ∧ (s.takeNakBusy r f).staging = s.staging ∧ (s.takeNakBusy r f).pend = s.pend ∧
      (s.takeNakBusy r f).buses = s.buses ∧ (s.takeNakBusy r f).ports = s.ports ∧ (s.takeNakBusy r f).attention = s.attention := by
  unfold State.takeNakBusy
  (repeat' split) <;> simp

@[simp] theorem State.abortedWelds_frame (r n : Nat) (sel : Selection) (s : State) :
    (s.abortedWelds r n sel).pending = s.pending ∧ (s.abortedWelds r n sel).due = s.due ∧ (s.abortedWelds r n sel).resetInput = s.resetInput ∧
      (s.abortedWelds r n sel).mode = s.mode ∧ (s.abortedWelds r n sel).layout = s.layout ∧ (s.abortedWelds r n sel).ring = s.ring ∧
      (s.abortedWelds r n sel).styles = s.styles ∧ (s.abortedWelds r n sel).sets = s.sets ∧ (s.abortedWelds r n sel).nextKey = s.nextKey ∧
      (s.abortedWelds r n sel).lineList = s.lineList ∧ (s.abortedWelds r n sel).stations = s.stations ∧ (s.abortedWelds r n sel).lines = s.lines ∧
      (s.abortedWelds r n sel).library = s.library ∧ (s.abortedWelds r n sel).schedules = s.schedules ∧ (s.abortedWelds r n sel).curves = s.curves ∧
      (s.abortedWelds r n sel).robots = s.robots ∧ (s.abortedWelds r n sel).staging = s.staging ∧ (s.abortedWelds r n sel).pend = s.pend ∧
      (s.abortedWelds r n sel).buses = s.buses ∧ (s.abortedWelds r n sel).ports = s.ports ∧ (s.abortedWelds r n sel).attention = s.attention := by
  unfold State.abortedWelds
  (repeat' split) <;> simp

@[simp] theorem State.answerAbort_frame (r : Nat) (sel : Selection) (welds : Option Nat) (s : State) :
    (s.answerAbort r sel welds).pending = s.pending ∧ (s.answerAbort r sel welds).resetInput = s.resetInput ∧ (s.answerAbort r sel welds).mode = s.mode ∧
      (s.answerAbort r sel welds).layout = s.layout ∧ (s.answerAbort r sel welds).ring = s.ring ∧ (s.answerAbort r sel welds).styles = s.styles ∧
      (s.answerAbort r sel welds).sets = s.sets ∧ (s.answerAbort r sel welds).nextKey = s.nextKey ∧ (s.answerAbort r sel welds).lineList = s.lineList ∧
      (s.answerAbort r sel welds).lines = s.lines ∧ (s.answerAbort r sel welds).library = s.library ∧ (s.answerAbort r sel welds).schedules = s.schedules ∧
      (s.answerAbort r sel welds).curves = s.curves ∧ (s.answerAbort r sel welds).staging = s.staging ∧ (s.answerAbort r sel welds).buses = s.buses ∧
      (s.answerAbort r sel welds).ports = s.ports := by
  unfold State.answerAbort
  (repeat' split) <;> simp

@[simp] theorem State.takeAborted_frame (r : Nat) (orphan : Bool) (n : Nat) (s : State) :
    (s.takeAborted r orphan n).pending = s.pending ∧ (s.takeAborted r orphan n).resetInput = s.resetInput ∧ (s.takeAborted r orphan n).mode = s.mode ∧
      (s.takeAborted r orphan n).layout = s.layout ∧ (s.takeAborted r orphan n).ring = s.ring ∧ (s.takeAborted r orphan n).styles = s.styles ∧
      (s.takeAborted r orphan n).sets = s.sets ∧ (s.takeAborted r orphan n).nextKey = s.nextKey ∧ (s.takeAborted r orphan n).lineList = s.lineList ∧
      (s.takeAborted r orphan n).lines = s.lines ∧ (s.takeAborted r orphan n).library = s.library ∧ (s.takeAborted r orphan n).schedules = s.schedules ∧
      (s.takeAborted r orphan n).curves = s.curves ∧ (s.takeAborted r orphan n).staging = s.staging ∧ (s.takeAborted r orphan n).buses = s.buses ∧
      (s.takeAborted r orphan n).ports = s.ports := by
  unfold State.takeAborted
  (repeat' split) <;> simp

@[simp] theorem State.matchingDone_frame (r : Nat) (sel : Selection) (rec1 : StatusRecord) (s : State) :
    (s.matchingDone r sel rec1).pending = s.pending ∧ (s.matchingDone r sel rec1).resetInput = s.resetInput ∧ (s.matchingDone r sel rec1).mode = s.mode ∧
      (s.matchingDone r sel rec1).layout = s.layout ∧ (s.matchingDone r sel rec1).ring = s.ring ∧ (s.matchingDone r sel rec1).styles = s.styles ∧
      (s.matchingDone r sel rec1).sets = s.sets ∧ (s.matchingDone r sel rec1).nextKey = s.nextKey ∧ (s.matchingDone r sel rec1).lineList = s.lineList ∧
      (s.matchingDone r sel rec1).lines = s.lines ∧ (s.matchingDone r sel rec1).library = s.library ∧ (s.matchingDone r sel rec1).schedules = s.schedules ∧
      (s.matchingDone r sel rec1).curves = s.curves ∧ (s.matchingDone r sel rec1).staging = s.staging ∧ (s.matchingDone r sel rec1).pend = s.pend ∧
      (s.matchingDone r sel rec1).buses = s.buses ∧ (s.matchingDone r sel rec1).ports = s.ports := by
  simp only [State.matchingDone]
  (repeat' split) <;> simp

@[simp] theorem State.statusAgainstMotion_frame (r : Nat) (rec1 : StatusRecord) (toAbort : Bool) (s : State) :
    (s.statusAgainstMotion r rec1 toAbort).pending = s.pending ∧ (s.statusAgainstMotion r rec1 toAbort).resetInput = s.resetInput ∧
      (s.statusAgainstMotion r rec1 toAbort).mode = s.mode ∧ (s.statusAgainstMotion r rec1 toAbort).layout = s.layout ∧
      (s.statusAgainstMotion r rec1 toAbort).ring = s.ring ∧ (s.statusAgainstMotion r rec1 toAbort).styles = s.styles ∧
      (s.statusAgainstMotion r rec1 toAbort).sets = s.sets ∧ (s.statusAgainstMotion r rec1 toAbort).nextKey = s.nextKey ∧
      (s.statusAgainstMotion r rec1 toAbort).lineList = s.lineList ∧ (s.statusAgainstMotion r rec1 toAbort).lines = s.lines ∧
      (s.statusAgainstMotion r rec1 toAbort).library = s.library ∧ (s.statusAgainstMotion r rec1 toAbort).schedules = s.schedules ∧
      (s.statusAgainstMotion r rec1 toAbort).curves = s.curves ∧ (s.statusAgainstMotion r rec1 toAbort).staging = s.staging ∧
      (s.statusAgainstMotion r rec1 toAbort).buses = s.buses ∧ (s.statusAgainstMotion r rec1 toAbort).ports = s.ports := by
  unfold State.statusAgainstMotion
  dsimp only
  cases (s.robot r).motion <;> cases s.stationOf r <;> (repeat' split) <;> simp

@[simp] theorem State.takeDress_frame (r : Nat) (rec1 : StatusRecord) (s : State) :
    (s.takeDress r rec1).pending = s.pending ∧ (s.takeDress r rec1).due = s.due ∧ (s.takeDress r rec1).resetInput = s.resetInput ∧
      (s.takeDress r rec1).mode = s.mode ∧ (s.takeDress r rec1).layout = s.layout ∧ (s.takeDress r rec1).ring = s.ring ∧
      (s.takeDress r rec1).styles = s.styles ∧ (s.takeDress r rec1).sets = s.sets ∧ (s.takeDress r rec1).bodies = s.bodies ∧
      (s.takeDress r rec1).nextKey = s.nextKey ∧ (s.takeDress r rec1).lineList = s.lineList ∧ (s.takeDress r rec1).stations = s.stations ∧
      (s.takeDress r rec1).lines = s.lines ∧ (s.takeDress r rec1).library = s.library ∧ (s.takeDress r rec1).schedules = s.schedules ∧
      (s.takeDress r rec1).curves = s.curves ∧ (s.takeDress r rec1).staging = s.staging ∧ (s.takeDress r rec1).pend = s.pend ∧
      (s.takeDress r rec1).buses = s.buses ∧ (s.takeDress r rec1).ports = s.ports := by
  unfold State.takeDress
  (repeat' split) <;> simp

@[simp] theorem State.takePending_frame (r : Nat) (c : TxClass) (s : State) :
    (s.takePending r c).pending = s.pending ∧ (s.takePending r c).due = s.due ∧ (s.takePending r c).resetInput = s.resetInput ∧
      (s.takePending r c).mode = s.mode ∧ (s.takePending r c).layout = s.layout ∧ (s.takePending r c).ring = s.ring ∧
      (s.takePending r c).styles = s.styles ∧ (s.takePending r c).sets = s.sets ∧ (s.takePending r c).bodies = s.bodies ∧
      (s.takePending r c).nextKey = s.nextKey ∧ (s.takePending r c).lineList = s.lineList ∧ (s.takePending r c).stations = s.stations ∧
      (s.takePending r c).lines = s.lines ∧ (s.takePending r c).library = s.library ∧ (s.takePending r c).schedules = s.schedules ∧
      (s.takePending r c).curves = s.curves ∧ (s.takePending r c).robots = s.robots ∧ (s.takePending r c).buses = s.buses ∧
      (s.takePending r c).ports = s.ports ∧ (s.takePending r c).attention = s.attention := by
  unfold State.takePending
  (repeat' split) <;> simp

@[simp] theorem State.putOnBus_frame (b : Nat) (o : OnBus) (s : State) :
    (s.putOnBus b o).pending = s.pending ∧ (s.putOnBus b o).due = s.due ∧ (s.putOnBus b o).resetInput = s.resetInput ∧
      (s.putOnBus b o).mode = s.mode ∧ (s.putOnBus b o).layout = s.layout ∧ (s.putOnBus b o).ring = s.ring ∧
      (s.putOnBus b o).styles = s.styles ∧ (s.putOnBus b o).sets = s.sets ∧ (s.putOnBus b o).bodies = s.bodies ∧
      (s.putOnBus b o).nextKey = s.nextKey ∧ (s.putOnBus b o).lineList = s.lineList ∧ (s.putOnBus b o).stations = s.stations ∧
      (s.putOnBus b o).lines = s.lines ∧ (s.putOnBus b o).library = s.library ∧ (s.putOnBus b o).schedules = s.schedules ∧
      (s.putOnBus b o).curves = s.curves ∧ (s.putOnBus b o).robots = s.robots ∧ (s.putOnBus b o).staging = s.staging ∧
      (s.putOnBus b o).pend = s.pend ∧ (s.putOnBus b o).ports = s.ports ∧ (s.putOnBus b o).attention = s.attention := by
  unfold State.putOnBus
  (repeat' split) <;> simp

@[simp] theorem State.arbitrate_frame (b : Fin 4) (s : State) :
    (s.arbitrate b).pending = s.pending ∧ (s.arbitrate b).due = s.due ∧ (s.arbitrate b).resetInput = s.resetInput ∧
      (s.arbitrate b).mode = s.mode ∧ (s.arbitrate b).layout = s.layout ∧ (s.arbitrate b).ring = s.ring ∧
      (s.arbitrate b).styles = s.styles ∧ (s.arbitrate b).sets = s.sets ∧ (s.arbitrate b).bodies = s.bodies ∧
      (s.arbitrate b).nextKey = s.nextKey ∧ (s.arbitrate b).lineList = s.lineList ∧ (s.arbitrate b).stations = s.stations ∧
      (s.arbitrate b).lines = s.lines ∧ (s.arbitrate b).library = s.library ∧ (s.arbitrate b).schedules = s.schedules ∧
      (s.arbitrate b).curves = s.curves ∧ (s.arbitrate b).robots = s.robots ∧ (s.arbitrate b).ports = s.ports ∧
      (s.arbitrate b).attention = s.attention := by
  unfold State.arbitrate
  (repeat' split) <;> simp

@[simp] theorem State.expirePoll_frame (r : Nat) (s : State) :
    (s.expirePoll r).pending = s.pending ∧ (s.expirePoll r).due = s.due ∧ (s.expirePoll r).resetInput = s.resetInput ∧
      (s.expirePoll r).mode = s.mode ∧ (s.expirePoll r).layout = s.layout ∧ (s.expirePoll r).ring = s.ring ∧
      (s.expirePoll r).styles = s.styles ∧ (s.expirePoll r).sets = s.sets ∧ (s.expirePoll r).bodies = s.bodies ∧
      (s.expirePoll r).nextKey = s.nextKey ∧ (s.expirePoll r).lineList = s.lineList ∧ (s.expirePoll r).stations = s.stations ∧
      (s.expirePoll r).lines = s.lines ∧ (s.expirePoll r).library = s.library ∧ (s.expirePoll r).schedules = s.schedules ∧
      (s.expirePoll r).curves = s.curves ∧ (s.expirePoll r).staging = s.staging ∧ (s.expirePoll r).buses = s.buses ∧
      (s.expirePoll r).ports = s.ports ∧ (s.expirePoll r).attention = s.attention := by
  unfold State.expirePoll
  (repeat' split) <;> simp

@[simp] theorem State.expireBusy_frame (r : Nat) (s : State) :
    (s.expireBusy r).pending = s.pending ∧ (s.expireBusy r).due = s.due ∧ (s.expireBusy r).resetInput = s.resetInput ∧
      (s.expireBusy r).mode = s.mode ∧ (s.expireBusy r).layout = s.layout ∧ (s.expireBusy r).ring = s.ring ∧
      (s.expireBusy r).styles = s.styles ∧ (s.expireBusy r).sets = s.sets ∧ (s.expireBusy r).bodies = s.bodies ∧
      (s.expireBusy r).nextKey = s.nextKey ∧ (s.expireBusy r).lineList = s.lineList ∧ (s.expireBusy r).stations = s.stations ∧
      (s.expireBusy r).lines = s.lines ∧ (s.expireBusy r).library = s.library ∧ (s.expireBusy r).schedules = s.schedules ∧
      (s.expireBusy r).curves = s.curves ∧ (s.expireBusy r).staging = s.staging ∧ (s.expireBusy r).buses = s.buses ∧
      (s.expireBusy r).ports = s.ports ∧ (s.expireBusy r).attention = s.attention := by
  unfold State.expireBusy
  (repeat' split) <;> simp

@[simp] theorem State.expirePace_frame (b : Nat) (s : State) :
    (s.expirePace b).pending = s.pending ∧ (s.expirePace b).due = s.due ∧ (s.expirePace b).resetInput = s.resetInput ∧
      (s.expirePace b).mode = s.mode ∧ (s.expirePace b).layout = s.layout ∧ (s.expirePace b).ring = s.ring ∧
      (s.expirePace b).styles = s.styles ∧ (s.expirePace b).sets = s.sets ∧ (s.expirePace b).bodies = s.bodies ∧
      (s.expirePace b).nextKey = s.nextKey ∧ (s.expirePace b).lineList = s.lineList ∧ (s.expirePace b).stations = s.stations ∧
      (s.expirePace b).lines = s.lines ∧ (s.expirePace b).library = s.library ∧ (s.expirePace b).schedules = s.schedules ∧
      (s.expirePace b).curves = s.curves ∧ (s.expirePace b).robots = s.robots ∧ (s.expirePace b).staging = s.staging ∧
      (s.expirePace b).pend = s.pend ∧ (s.expirePace b).ports = s.ports ∧ (s.expirePace b).attention = s.attention := by
  unfold State.expirePace
  simp

@[simp] theorem State.endTx_frame (b : Nat) (s : State) :
    (s.endTx b).pending = s.pending ∧ (s.endTx b).due = s.due ∧ (s.endTx b).resetInput = s.resetInput ∧
      (s.endTx b).mode = s.mode ∧ (s.endTx b).layout = s.layout ∧ (s.endTx b).ring = s.ring ∧
      (s.endTx b).styles = s.styles ∧ (s.endTx b).sets = s.sets ∧ (s.endTx b).bodies = s.bodies ∧
      (s.endTx b).nextKey = s.nextKey ∧ (s.endTx b).lineList = s.lineList ∧ (s.endTx b).stations = s.stations ∧
      (s.endTx b).lines = s.lines ∧ (s.endTx b).library = s.library ∧ (s.endTx b).schedules = s.schedules ∧
      (s.endTx b).curves = s.curves ∧ (s.endTx b).robots = s.robots ∧ (s.endTx b).staging = s.staging ∧
      (s.endTx b).pend = s.pend ∧ (s.endTx b).ports = s.ports ∧ (s.endTx b).attention = s.attention := by
  unfold State.endTx
  simp

@[simp] theorem State.restartPoll_frame (r : Nat) (s : State) :
    (s.restartPoll r).pending = s.pending ∧ (s.restartPoll r).due = s.due ∧ (s.restartPoll r).resetInput = s.resetInput ∧
      (s.restartPoll r).mode = s.mode ∧ (s.restartPoll r).layout = s.layout ∧ (s.restartPoll r).ring = s.ring ∧
      (s.restartPoll r).styles = s.styles ∧ (s.restartPoll r).sets = s.sets ∧ (s.restartPoll r).bodies = s.bodies ∧
      (s.restartPoll r).nextKey = s.nextKey ∧ (s.restartPoll r).lineList = s.lineList ∧ (s.restartPoll r).stations = s.stations ∧
      (s.restartPoll r).lines = s.lines ∧ (s.restartPoll r).library = s.library ∧ (s.restartPoll r).schedules = s.schedules ∧
      (s.restartPoll r).curves = s.curves ∧ (s.restartPoll r).staging = s.staging ∧ (s.restartPoll r).pend = s.pend ∧
      (s.restartPoll r).buses = s.buses ∧ (s.restartPoll r).ports = s.ports ∧ (s.restartPoll r).attention = s.attention := by
  unfold State.restartPoll
  simp

@[simp] theorem State.noReply_frame (b : Nat) (s : State) :
    (s.noReply b).pending = s.pending ∧ (s.noReply b).resetInput = s.resetInput ∧ (s.noReply b).mode = s.mode ∧
      (s.noReply b).layout = s.layout ∧ (s.noReply b).ring = s.ring ∧ (s.noReply b).styles = s.styles ∧
      (s.noReply b).sets = s.sets ∧ (s.noReply b).nextKey = s.nextKey ∧ (s.noReply b).lineList = s.lineList ∧
      (s.noReply b).lines = s.lines ∧ (s.noReply b).schedules = s.schedules ∧ (s.noReply b).curves = s.curves ∧
      (s.noReply b).ports = s.ports := by
  unfold State.noReply
  (repeat' split) <;> simp

@[simp] theorem State.takeFaultCode_frame (r : Nat) (rec1 : StatusRecord) (s : State) :
    (s.takeFaultCode r rec1).pending = s.pending ∧ (s.takeFaultCode r rec1).resetInput = s.resetInput ∧ (s.takeFaultCode r rec1).mode = s.mode ∧
      (s.takeFaultCode r rec1).layout = s.layout ∧ (s.takeFaultCode r rec1).ring = s.ring ∧ (s.takeFaultCode r rec1).styles = s.styles ∧
      (s.takeFaultCode r rec1).sets = s.sets ∧ (s.takeFaultCode r rec1).bodies = s.bodies ∧ (s.takeFaultCode r rec1).nextKey = s.nextKey ∧
      (s.takeFaultCode r rec1).lineList = s.lineList ∧ (s.takeFaultCode r rec1).stations = s.stations ∧ (s.takeFaultCode r rec1).lines = s.lines ∧
      (s.takeFaultCode r rec1).schedules = s.schedules ∧ (s.takeFaultCode r rec1).curves = s.curves ∧ (s.takeFaultCode r rec1).pend = s.pend ∧
      (s.takeFaultCode r rec1).buses = s.buses ∧ (s.takeFaultCode r rec1).ports = s.ports := by
  unfold State.takeFaultCode
  (repeat' split) <;> simp

@[simp] theorem State.comeOnline_frame (r : Nat) (rec1 : StatusRecord) (s : State) :
    (s.comeOnline r rec1).pending = s.pending ∧ (s.comeOnline r rec1).resetInput = s.resetInput ∧ (s.comeOnline r rec1).mode = s.mode ∧
      (s.comeOnline r rec1).layout = s.layout ∧ (s.comeOnline r rec1).ring = s.ring ∧ (s.comeOnline r rec1).styles = s.styles ∧
      (s.comeOnline r rec1).sets = s.sets ∧ (s.comeOnline r rec1).bodies = s.bodies ∧ (s.comeOnline r rec1).nextKey = s.nextKey ∧
      (s.comeOnline r rec1).lineList = s.lineList ∧ (s.comeOnline r rec1).stations = s.stations ∧ (s.comeOnline r rec1).lines = s.lines ∧
      (s.comeOnline r rec1).schedules = s.schedules ∧ (s.comeOnline r rec1).curves = s.curves ∧ (s.comeOnline r rec1).buses = s.buses ∧
      (s.comeOnline r rec1).ports = s.ports := by
  unfold State.comeOnline
  simp

@[simp] theorem State.takeStatus_frame (r : Nat) (rec1 : StatusRecord) (toAbort : Bool) (s : State) :
    (s.takeStatus r rec1 toAbort).pending = s.pending ∧ (s.takeStatus r rec1 toAbort).resetInput = s.resetInput ∧
      (s.takeStatus r rec1 toAbort).mode = s.mode ∧ (s.takeStatus r rec1 toAbort).layout = s.layout ∧
      (s.takeStatus r rec1 toAbort).ring = s.ring ∧ (s.takeStatus r rec1 toAbort).styles = s.styles ∧
      (s.takeStatus r rec1 toAbort).sets = s.sets ∧ (s.takeStatus r rec1 toAbort).nextKey = s.nextKey ∧
      (s.takeStatus r rec1 toAbort).lineList = s.lineList ∧ (s.takeStatus r rec1 toAbort).lines = s.lines ∧
      (s.takeStatus r rec1 toAbort).schedules = s.schedules ∧ (s.takeStatus r rec1 toAbort).curves = s.curves ∧
      (s.takeStatus r rec1 toAbort).buses = s.buses ∧ (s.takeStatus r rec1 toAbort).ports = s.ports := by
  unfold State.takeStatus
  (repeat' split) <;> simp

@[simp] theorem State.classifyFrom_frame (r i : Nat) (xs : List SlotRecord) (s : State) :
    (s.classifyFrom r i xs).pending = s.pending ∧ (s.classifyFrom r i xs).due = s.due ∧ (s.classifyFrom r i xs).resetInput = s.resetInput ∧
      (s.classifyFrom r i xs).mode = s.mode ∧ (s.classifyFrom r i xs).layout = s.layout ∧ (s.classifyFrom r i xs).ring = s.ring ∧
      (s.classifyFrom r i xs).styles = s.styles ∧ (s.classifyFrom r i xs).sets = s.sets ∧ (s.classifyFrom r i xs).bodies = s.bodies ∧
      (s.classifyFrom r i xs).nextKey = s.nextKey ∧ (s.classifyFrom r i xs).lineList = s.lineList ∧ (s.classifyFrom r i xs).stations = s.stations ∧
      (s.classifyFrom r i xs).lines = s.lines ∧ (s.classifyFrom r i xs).library = s.library ∧ (s.classifyFrom r i xs).schedules = s.schedules ∧
      (s.classifyFrom r i xs).curves = s.curves ∧ (s.classifyFrom r i xs).staging = s.staging ∧ (s.classifyFrom r i xs).pend = s.pend ∧
      (s.classifyFrom r i xs).buses = s.buses ∧ (s.classifyFrom r i xs).ports = s.ports ∧ (s.classifyFrom r i xs).attention = s.attention := by
  induction xs generalizing s i with
  | nil => simp [State.classifyFrom]
  | cons x xs ih => unfold State.classifyFrom; simp only [ih]; split <;> simp

@[simp] theorem State.placeLoad_frame (r : Nat) (req : DropRequest) (s : State) :
    (s.placeLoad r req).pending = s.pending ∧ (s.placeLoad r req).due = s.due ∧ (s.placeLoad r req).resetInput = s.resetInput ∧
      (s.placeLoad r req).mode = s.mode ∧ (s.placeLoad r req).layout = s.layout ∧ (s.placeLoad r req).ring = s.ring ∧
      (s.placeLoad r req).styles = s.styles ∧ (s.placeLoad r req).sets = s.sets ∧ (s.placeLoad r req).bodies = s.bodies ∧
      (s.placeLoad r req).nextKey = s.nextKey ∧ (s.placeLoad r req).lineList = s.lineList ∧ (s.placeLoad r req).stations = s.stations ∧
      (s.placeLoad r req).lines = s.lines ∧ (s.placeLoad r req).library = s.library ∧ (s.placeLoad r req).schedules = s.schedules ∧
      (s.placeLoad r req).curves = s.curves ∧ (s.placeLoad r req).robots = s.robots ∧ (s.placeLoad r req).pend = s.pend ∧
      (s.placeLoad r req).buses = s.buses ∧ (s.placeLoad r req).ports = s.ports ∧ (s.placeLoad r req).attention = s.attention := by
  unfold State.placeLoad
  simp

@[simp] theorem State.nextLoadFrame_frame (r : Nat) (l : Load) (next : Nat) (s : State) :
    (s.nextLoadFrame r l next).pending = s.pending ∧ (s.nextLoadFrame r l next).due = s.due ∧ (s.nextLoadFrame r l next).resetInput = s.resetInput ∧
      (s.nextLoadFrame r l next).mode = s.mode ∧ (s.nextLoadFrame r l next).layout = s.layout ∧ (s.nextLoadFrame r l next).ring = s.ring ∧
      (s.nextLoadFrame r l next).styles = s.styles ∧ (s.nextLoadFrame r l next).sets = s.sets ∧ (s.nextLoadFrame r l next).bodies = s.bodies ∧
      (s.nextLoadFrame r l next).nextKey = s.nextKey ∧ (s.nextLoadFrame r l next).lineList = s.lineList ∧ (s.nextLoadFrame r l next).stations = s.stations ∧
      (s.nextLoadFrame r l next).lines = s.lines ∧ (s.nextLoadFrame r l next).library = s.library ∧ (s.nextLoadFrame r l next).schedules = s.schedules ∧
      (s.nextLoadFrame r l next).curves = s.curves ∧ (s.nextLoadFrame r l next).robots = s.robots ∧ (s.nextLoadFrame r l next).pend = s.pend ∧
      (s.nextLoadFrame r l next).buses = s.buses ∧ (s.nextLoadFrame r l next).ports = s.ports ∧ (s.nextLoadFrame r l next).attention = s.attention := by
  unfold State.nextLoadFrame
  (repeat' split) <;> simp

@[simp] theorem State.takeLoadAck_frame (r : Nat) (req : DropRequest) (s : State) :
    (s.takeLoadAck r req).pending = s.pending ∧ (s.takeLoadAck r req).resetInput = s.resetInput ∧ (s.takeLoadAck r req).mode = s.mode ∧
      (s.takeLoadAck r req).layout = s.layout ∧ (s.takeLoadAck r req).ring = s.ring ∧ (s.takeLoadAck r req).styles = s.styles ∧
      (s.takeLoadAck r req).sets = s.sets ∧ (s.takeLoadAck r req).bodies = s.bodies ∧ (s.takeLoadAck r req).nextKey = s.nextKey ∧
      (s.takeLoadAck r req).lineList = s.lineList ∧ (s.takeLoadAck r req).stations = s.stations ∧ (s.takeLoadAck r req).lines = s.lines ∧
      (s.takeLoadAck r req).schedules = s.schedules ∧ (s.takeLoadAck r req).curves = s.curves ∧ (s.takeLoadAck r req).pend = s.pend ∧
      (s.takeLoadAck r req).buses = s.buses ∧ (s.takeLoadAck r req).ports = s.ports := by
  unfold State.takeLoadAck
  (repeat' split) <;> simp

@[simp] theorem State.loadMatches_frame (r : Nat) (l : Load) (s : State) :
    (s.loadMatches r l).pending = s.pending ∧ (s.loadMatches r l).resetInput = s.resetInput ∧ (s.loadMatches r l).mode = s.mode ∧
      (s.loadMatches r l).layout = s.layout ∧ (s.loadMatches r l).ring = s.ring ∧ (s.loadMatches r l).styles = s.styles ∧
      (s.loadMatches r l).sets = s.sets ∧ (s.loadMatches r l).bodies = s.bodies ∧ (s.loadMatches r l).nextKey = s.nextKey ∧
      (s.loadMatches r l).lineList = s.lineList ∧ (s.loadMatches r l).stations = s.stations ∧ (s.loadMatches r l).lines = s.lines ∧
      (s.loadMatches r l).schedules = s.schedules ∧ (s.loadMatches r l).curves = s.curves ∧ (s.loadMatches r l).pend = s.pend ∧
      (s.loadMatches r l).buses = s.buses ∧ (s.loadMatches r l).ports = s.ports := by
  unfold State.loadMatches
  simp

@[simp] theorem State.loadMismatch_frame (r : Nat) (l : Load) (s : State) :
    (s.loadMismatch r l).pending = s.pending ∧ (s.loadMismatch r l).resetInput = s.resetInput ∧ (s.loadMismatch r l).mode = s.mode ∧
      (s.loadMismatch r l).layout = s.layout ∧ (s.loadMismatch r l).ring = s.ring ∧ (s.loadMismatch r l).styles = s.styles ∧
      (s.loadMismatch r l).sets = s.sets ∧ (s.loadMismatch r l).bodies = s.bodies ∧ (s.loadMismatch r l).nextKey = s.nextKey ∧
      (s.loadMismatch r l).lineList = s.lineList ∧ (s.loadMismatch r l).stations = s.stations ∧ (s.loadMismatch r l).lines = s.lines ∧
      (s.loadMismatch r l).schedules = s.schedules ∧ (s.loadMismatch r l).curves = s.curves ∧ (s.loadMismatch r l).pend = s.pend ∧
      (s.loadMismatch r l).buses = s.buses ∧ (s.loadMismatch r l).ports = s.ports := by
  simp only [State.loadMismatch]
  (repeat' split) <;> simp

@[simp] theorem State.takeLoadCheck_frame (r : Nat) (req : DropRequest) (check : Word) (s : State) :
    (s.takeLoadCheck r req check).pending = s.pending ∧ (s.takeLoadCheck r req check).resetInput = s.resetInput ∧
      (s.takeLoadCheck r req check).mode = s.mode ∧ (s.takeLoadCheck r req check).layout = s.layout ∧
      (s.takeLoadCheck r req check).ring = s.ring ∧ (s.takeLoadCheck r req check).styles = s.styles ∧
      (s.takeLoadCheck r req check).sets = s.sets ∧ (s.takeLoadCheck r req check).bodies = s.bodies ∧
      (s.takeLoadCheck r req check).nextKey = s.nextKey ∧ (s.takeLoadCheck r req check).lineList = s.lineList ∧
      (s.takeLoadCheck r req check).stations = s.stations ∧ (s.takeLoadCheck r req check).lines = s.lines ∧
      (s.takeLoadCheck r req check).schedules = s.schedules ∧ (s.takeLoadCheck r req check).curves = s.curves ∧
      (s.takeLoadCheck r req check).pend = s.pend ∧ (s.takeLoadCheck r req check).buses = s.buses ∧
      (s.takeLoadCheck r req check).ports = s.ports := by
  unfold State.takeLoadCheck
  (repeat' split) <;> simp

end Machine
end Sys2Proof
end

