-- ==== Sys2Proof/Laws/FramesSystem.lean ====
section
/-!
SUPPORT. For each shared operation of System, Timing, once: the fields of State it leaves as they are, whatever its
operands. A field not listed is one the operation may write.
-/
namespace Sys2Proof
namespace Machine

@[simp] theorem State.placeRobot_frame (r : Nat) (s : State) :
    (s.placeRobot r).pending = s.pending ∧ (s.placeRobot r).due = s.due ∧ (s.placeRobot r).resetInput = s.resetInput ∧
      (s.placeRobot r).mode = s.mode ∧ (s.placeRobot r).layout = s.layout ∧ (s.placeRobot r).ring = s.ring ∧
      (s.placeRobot r).styles = s.styles ∧ (s.placeRobot r).sets = s.sets ∧ (s.placeRobot r).bodies = s.bodies ∧
      (s.placeRobot r).nextKey = s.nextKey ∧ (s.placeRobot r).lineList = s.lineList ∧ (s.placeRobot r).stations = s.stations ∧
      (s.placeRobot r).lines = s.lines ∧ (s.placeRobot r).library = s.library ∧ (s.placeRobot r).schedules = s.schedules ∧
      (s.placeRobot r).curves = s.curves ∧ (s.placeRobot r).staging = s.staging ∧ (s.placeRobot r).pend = s.pend ∧
      (s.placeRobot r).buses = s.buses ∧ (s.placeRobot r).ports = s.ports ∧ (s.placeRobot r).attention = s.attention := by
  unfold State.placeRobot
  simp

@[simp] theorem State.changeRobots_frame (new : Layout) (s : State) :
    (s.changeRobots new).pending = s.pending ∧ (s.changeRobots new).resetInput = s.resetInput ∧ (s.changeRobots new).mode = s.mode ∧
      (s.changeRobots new).ring = s.ring ∧ (s.changeRobots new).styles = s.styles ∧ (s.changeRobots new).sets = s.sets ∧
      (s.changeRobots new).nextKey = s.nextKey ∧ (s.changeRobots new).lineList = s.lineList ∧ (s.changeRobots new).lines = s.lines ∧
      (s.changeRobots new).schedules = s.schedules ∧ (s.changeRobots new).curves = s.curves ∧ (s.changeRobots new).ports = s.ports := by
  unfold State.changeRobots
  and_intros <;> refine (foldl_keeps _ _ (fun t a => by simp) _ _).trans ((foldl_keeps _ _ (fun t a => by simp) _ _).trans ?_) <;>
    dsimp only <;> exact (foldl_keeps _ _ (fun t a => by simp) _ _)

@[simp] theorem State.restartRing_frame (was : Nat) (s : State) :
    (s.restartRing was).pending = s.pending ∧ (s.restartRing was).due = s.due ∧ (s.restartRing was).resetInput = s.resetInput ∧
      (s.restartRing was).mode = s.mode ∧ (s.restartRing was).layout = s.layout ∧ (s.restartRing was).styles = s.styles ∧
      (s.restartRing was).sets = s.sets ∧ (s.restartRing was).bodies = s.bodies ∧ (s.restartRing was).nextKey = s.nextKey ∧
      (s.restartRing was).lineList = s.lineList ∧ (s.restartRing was).stations = s.stations ∧ (s.restartRing was).lines = s.lines ∧
      (s.restartRing was).library = s.library ∧ (s.restartRing was).schedules = s.schedules ∧ (s.restartRing was).curves = s.curves ∧
      (s.restartRing was).robots = s.robots ∧ (s.restartRing was).staging = s.staging ∧ (s.restartRing was).pend = s.pend ∧
      (s.restartRing was).buses = s.buses ∧ (s.restartRing was).ports = s.ports := by
  unfold State.restartRing
  simp

@[simp] theorem State.resetStations_frame (s : State) :
    s.resetStations.pending = s.pending ∧ s.resetStations.due = s.due ∧ s.resetStations.resetInput = s.resetInput ∧
      s.resetStations.mode = s.mode ∧ s.resetStations.layout = s.layout ∧ s.resetStations.ring = s.ring ∧
      s.resetStations.styles = s.styles ∧ s.resetStations.sets = s.sets ∧ s.resetStations.bodies = s.bodies ∧
      s.resetStations.nextKey = s.nextKey ∧ s.resetStations.lineList = s.lineList ∧ s.resetStations.lines = s.lines ∧
      s.resetStations.library = s.library ∧ s.resetStations.schedules = s.schedules ∧ s.resetStations.curves = s.curves ∧
      s.resetStations.robots = s.robots ∧ s.resetStations.staging = s.staging ∧ s.resetStations.pend = s.pend ∧
      s.resetStations.buses = s.buses ∧ s.resetStations.ports = s.ports ∧ s.resetStations.attention = s.attention := by
  unfold State.resetStations
  simp

@[simp] theorem State.applyThreshold_frame (p : Nat) (s : State) :
    (s.applyThreshold p).pending = s.pending ∧ (s.applyThreshold p).due = s.due ∧ (s.applyThreshold p).resetInput = s.resetInput ∧
      (s.applyThreshold p).mode = s.mode ∧ (s.applyThreshold p).layout = s.layout ∧ (s.applyThreshold p).ring = s.ring ∧
      (s.applyThreshold p).styles = s.styles ∧ (s.applyThreshold p).sets = s.sets ∧ (s.applyThreshold p).bodies = s.bodies ∧
      (s.applyThreshold p).nextKey = s.nextKey ∧ (s.applyThreshold p).lineList = s.lineList ∧ (s.applyThreshold p).stations = s.stations ∧
      (s.applyThreshold p).lines = s.lines ∧ (s.applyThreshold p).library = s.library ∧ (s.applyThreshold p).schedules = s.schedules ∧
      (s.applyThreshold p).curves = s.curves ∧ (s.applyThreshold p).robots = s.robots ∧ (s.applyThreshold p).staging = s.staging ∧
      (s.applyThreshold p).pend = s.pend ∧ (s.applyThreshold p).buses = s.buses := by
  simp only [State.applyThreshold]
  (repeat' split) <;> simp

@[simp] theorem State.applyLayout_frame (new : Layout) (s : State) :
    (s.applyLayout new).pending = s.pending ∧ (s.applyLayout new).resetInput = s.resetInput ∧ (s.applyLayout new).mode = s.mode ∧
      (s.applyLayout new).nextKey = s.nextKey ∧ (s.applyLayout new).lineList = s.lineList ∧ (s.applyLayout new).lines = s.lines ∧
      (s.applyLayout new).schedules = s.schedules ∧ (s.applyLayout new).curves = s.curves := by
  unfold State.applyLayout
  and_intros <;> refine (foldl_keeps _ _ (fun t a => by simp) _ _).trans ?_ <;> (repeat' split) <;> simp

@[simp] theorem State.loadStations_frame (s : State) :
    s.loadStations.pending = s.pending ∧ s.loadStations.due = s.due ∧ s.loadStations.resetInput = s.resetInput ∧
      s.loadStations.mode = s.mode ∧ s.loadStations.layout = s.layout ∧ s.loadStations.ring = s.ring ∧
      s.loadStations.styles = s.styles ∧ s.loadStations.sets = s.sets ∧ s.loadStations.bodies = s.bodies ∧
      s.loadStations.nextKey = s.nextKey ∧ s.loadStations.lineList = s.lineList ∧ s.loadStations.lines = s.lines ∧
      s.loadStations.library = s.library ∧ s.loadStations.schedules = s.schedules ∧ s.loadStations.curves = s.curves ∧
      s.loadStations.robots = s.robots ∧ s.loadStations.staging = s.staging ∧ s.loadStations.pend = s.pend ∧
      s.loadStations.buses = s.buses ∧ s.loadStations.ports = s.ports ∧ s.loadStations.attention = s.attention := by
  unfold State.loadStations
  simp

@[simp] theorem State.startRun_frame (s : State) :
    s.startRun.pending = s.pending ∧ s.startRun.resetInput = s.resetInput ∧ s.startRun.layout = s.layout ∧
      s.startRun.ring = s.ring ∧ s.startRun.styles = s.styles ∧ s.startRun.sets = s.sets ∧
      s.startRun.bodies = s.bodies ∧ s.startRun.nextKey = s.nextKey ∧ s.startRun.lineList = s.lineList ∧
      s.startRun.lines = s.lines ∧ s.startRun.schedules = s.schedules ∧ s.startRun.curves = s.curves ∧
      s.startRun.pend = s.pend ∧ s.startRun.buses = s.buses ∧ s.startRun.ports = s.ports := by
  unfold State.startRun
  dsimp only
  and_intros <;> simp <;> refine (foldl_keeps _ _ (fun t a => by simp) _ _).trans ?_ <;> simp

@[simp] theorem State.closePresence_frame (s : State) :
    s.closePresence.pending = s.pending ∧ s.closePresence.due = s.due ∧ s.closePresence.resetInput = s.resetInput ∧
      s.closePresence.mode = s.mode ∧ s.closePresence.layout = s.layout ∧ s.closePresence.ring = s.ring ∧
      s.closePresence.styles = s.styles ∧ s.closePresence.sets = s.sets ∧ s.closePresence.bodies = s.bodies ∧
      s.closePresence.nextKey = s.nextKey ∧ s.closePresence.lineList = s.lineList ∧ s.closePresence.stations = s.stations ∧
      s.closePresence.library = s.library ∧ s.closePresence.schedules = s.schedules ∧ s.closePresence.curves = s.curves ∧
      s.closePresence.robots = s.robots ∧ s.closePresence.staging = s.staging ∧ s.closePresence.pend = s.pend ∧
      s.closePresence.buses = s.buses ∧ s.closePresence.ports = s.ports ∧ s.closePresence.attention = s.attention := by
  unfold State.closePresence
  simp

@[simp] theorem State.keepPollTimer_frame (s : State) (r : Nat) (t : State) :
    (s.keepPollTimer r t).pending = t.pending ∧ (s.keepPollTimer r t).due = t.due ∧
      (s.keepPollTimer r t).resetInput = t.resetInput ∧ (s.keepPollTimer r t).mode = t.mode ∧
      (s.keepPollTimer r t).layout = t.layout ∧ (s.keepPollTimer r t).ring = t.ring ∧
      (s.keepPollTimer r t).styles = t.styles ∧ (s.keepPollTimer r t).sets = t.sets ∧
      (s.keepPollTimer r t).bodies = t.bodies ∧ (s.keepPollTimer r t).nextKey = t.nextKey ∧
      (s.keepPollTimer r t).lineList = t.lineList ∧ (s.keepPollTimer r t).stations = t.stations ∧
      (s.keepPollTimer r t).lines = t.lines ∧ (s.keepPollTimer r t).library = t.library ∧
      (s.keepPollTimer r t).schedules = t.schedules ∧ (s.keepPollTimer r t).curves = t.curves ∧
      (s.keepPollTimer r t).staging = t.staging ∧ (s.keepPollTimer r t).pend = t.pend ∧
      (s.keepPollTimer r t).buses = t.buses ∧ (s.keepPollTimer r t).ports = t.ports ∧
      (s.keepPollTimer r t).attention = t.attention := by
  simp [State.keepPollTimer]

@[simp] theorem State.resetSelection_frame (r : Nat) (s : State) :
    (s.resetSelection r).pending = s.pending ∧ (s.resetSelection r).resetInput = s.resetInput ∧ (s.resetSelection r).mode = s.mode ∧
      (s.resetSelection r).layout = s.layout ∧ (s.resetSelection r).ring = s.ring ∧ (s.resetSelection r).styles = s.styles ∧
      (s.resetSelection r).sets = s.sets ∧ (s.resetSelection r).nextKey = s.nextKey ∧ (s.resetSelection r).lineList = s.lineList ∧
      (s.resetSelection r).lines = s.lines ∧ (s.resetSelection r).library = s.library ∧ (s.resetSelection r).schedules = s.schedules ∧
      (s.resetSelection r).curves = s.curves ∧ (s.resetSelection r).staging = s.staging ∧ (s.resetSelection r).buses = s.buses ∧
      (s.resetSelection r).ports = s.ports := by
  unfold State.resetSelection
  (repeat' split) <;> simp

@[simp] theorem State.resetStaging_frame (r : Nat) (s : State) :
    (s.resetStaging r).pending = s.pending ∧ (s.resetStaging r).resetInput = s.resetInput ∧ (s.resetStaging r).mode = s.mode ∧
      (s.resetStaging r).layout = s.layout ∧ (s.resetStaging r).ring = s.ring ∧ (s.resetStaging r).styles = s.styles ∧
      (s.resetStaging r).sets = s.sets ∧ (s.resetStaging r).bodies = s.bodies ∧ (s.resetStaging r).nextKey = s.nextKey ∧
      (s.resetStaging r).lineList = s.lineList ∧ (s.resetStaging r).stations = s.stations ∧ (s.resetStaging r).lines = s.lines ∧
      (s.resetStaging r).schedules = s.schedules ∧ (s.resetStaging r).curves = s.curves ∧ (s.resetStaging r).pend = s.pend ∧
      (s.resetStaging r).buses = s.buses ∧ (s.resetStaging r).ports = s.ports ∧ (s.resetStaging r).attention = s.attention := by
  unfold State.resetStaging
  (repeat' split) <;> simp

@[simp] theorem State.freeAll_frame (s : State) :
    s.freeAll.pending = s.pending ∧ s.freeAll.due = s.due ∧ s.freeAll.resetInput = s.resetInput ∧
      s.freeAll.mode = s.mode ∧ s.freeAll.layout = s.layout ∧ s.freeAll.ring = s.ring ∧
      s.freeAll.styles = s.styles ∧ s.freeAll.nextKey = s.nextKey ∧ s.freeAll.stations = s.stations ∧
      s.freeAll.lines = s.lines ∧ s.freeAll.library = s.library ∧ s.freeAll.schedules = s.schedules ∧
      s.freeAll.curves = s.curves ∧ s.freeAll.robots = s.robots ∧ s.freeAll.staging = s.staging ∧
      s.freeAll.pend = s.pend ∧ s.freeAll.buses = s.buses ∧ s.freeAll.ports = s.ports ∧
      s.freeAll.attention = s.attention := by
  unfold State.freeAll
  dsimp only
  and_intros <;> exact (foldl_keeps _ _ (fun t a => by simp) _ _)

@[simp] theorem State.trackReset_frame (s : State) :
    s.trackReset.pending = s.pending ∧ s.trackReset.resetInput = s.resetInput ∧ s.trackReset.mode = s.mode ∧
      s.trackReset.layout = s.layout ∧ s.trackReset.styles = s.styles ∧ s.trackReset.nextKey = s.nextKey ∧
      s.trackReset.schedules = s.schedules ∧ s.trackReset.curves = s.curves ∧ s.trackReset.buses = s.buses ∧
      s.trackReset.ports = s.ports := by
  unfold State.trackReset
  and_intros <;> simp <;> refine (foldl_keeps _ _ (fun t a => by simp) _ _).trans (by simp)

@[simp] theorem State.overrunAt_frame (i : Nat) (s : State) :
    (s.overrunAt i).pending = s.pending ∧ (s.overrunAt i).due = s.due ∧ (s.overrunAt i).resetInput = s.resetInput ∧
      (s.overrunAt i).mode = s.mode ∧ (s.overrunAt i).layout = s.layout ∧ (s.overrunAt i).ring = s.ring ∧
      (s.overrunAt i).styles = s.styles ∧ (s.overrunAt i).sets = s.sets ∧ (s.overrunAt i).bodies = s.bodies ∧
      (s.overrunAt i).nextKey = s.nextKey ∧ (s.overrunAt i).lineList = s.lineList ∧ (s.overrunAt i).lines = s.lines ∧
      (s.overrunAt i).library = s.library ∧ (s.overrunAt i).schedules = s.schedules ∧ (s.overrunAt i).curves = s.curves ∧
      (s.overrunAt i).robots = s.robots ∧ (s.overrunAt i).staging = s.staging ∧ (s.overrunAt i).pend = s.pend ∧
      (s.overrunAt i).buses = s.buses ∧ (s.overrunAt i).ports = s.ports := by
  unfold State.overrunAt
  (repeat' split) <;> simp

@[simp] theorem State.takeAdmission_frame (s : State) :
    s.takeAdmission.pending = s.pending ∧ s.takeAdmission.resetInput = s.resetInput ∧ s.takeAdmission.mode = s.mode ∧
      s.takeAdmission.layout = s.layout ∧ s.takeAdmission.stations = s.stations ∧ s.takeAdmission.lines = s.lines ∧
      s.takeAdmission.library = s.library ∧ s.takeAdmission.schedules = s.schedules ∧ s.takeAdmission.curves = s.curves ∧
      s.takeAdmission.robots = s.robots ∧ s.takeAdmission.staging = s.staging ∧ s.takeAdmission.pend = s.pend ∧
      s.takeAdmission.buses = s.buses ∧ s.takeAdmission.ports = s.ports := by
  unfold State.takeAdmission
  simp

@[simp] theorem State.takeRecompute_frame (r : Nat) (s : State) :
    (s.takeRecompute r).pending = s.pending ∧ (s.takeRecompute r).resetInput = s.resetInput ∧ (s.takeRecompute r).mode = s.mode ∧
      (s.takeRecompute r).layout = s.layout ∧ (s.takeRecompute r).ring = s.ring ∧ (s.takeRecompute r).styles = s.styles ∧
      (s.takeRecompute r).sets = s.sets ∧ (s.takeRecompute r).bodies = s.bodies ∧ (s.takeRecompute r).nextKey = s.nextKey ∧
      (s.takeRecompute r).lineList = s.lineList ∧ (s.takeRecompute r).stations = s.stations ∧ (s.takeRecompute r).lines = s.lines ∧
      (s.takeRecompute r).schedules = s.schedules ∧ (s.takeRecompute r).curves = s.curves ∧ (s.takeRecompute r).pend = s.pend ∧
      (s.takeRecompute r).buses = s.buses ∧ (s.takeRecompute r).ports = s.ports := by
  unfold State.takeRecompute
  simp

@[simp] theorem State.takeSelection_frame (r : Nat) (s : State) :
    (s.takeSelection r).pending = s.pending ∧ (s.takeSelection r).resetInput = s.resetInput ∧ (s.takeSelection r).mode = s.mode ∧
      (s.takeSelection r).layout = s.layout ∧ (s.takeSelection r).ring = s.ring ∧ (s.takeSelection r).styles = s.styles ∧
      (s.takeSelection r).sets = s.sets ∧ (s.takeSelection r).nextKey = s.nextKey ∧ (s.takeSelection r).lineList = s.lineList ∧
      (s.takeSelection r).lines = s.lines ∧ (s.takeSelection r).library = s.library ∧ (s.takeSelection r).schedules = s.schedules ∧
      (s.takeSelection r).curves = s.curves ∧ (s.takeSelection r).staging = s.staging ∧ (s.takeSelection r).buses = s.buses ∧
      (s.takeSelection r).ports = s.ports := by
  unfold State.takeSelection
  simp

@[simp] theorem State.takeDue_frame (d : Due) (s : State) :
    (s.takeDue d).pending = s.pending ∧ (s.takeDue d).resetInput = s.resetInput ∧ (s.takeDue d).mode = s.mode ∧
      (s.takeDue d).layout = s.layout ∧ (s.takeDue d).lines = s.lines ∧ (s.takeDue d).schedules = s.schedules ∧
      (s.takeDue d).curves = s.curves ∧ (s.takeDue d).buses = s.buses ∧ (s.takeDue d).ports = s.ports := by
  unfold State.takeDue
  (repeat' split) <;> simp

@[simp] theorem State.sampleLine_frame (i : Nat) (s : State) :
    (s.sampleLine i).pending = s.pending ∧ (s.sampleLine i).resetInput = s.resetInput ∧ (s.sampleLine i).mode = s.mode ∧
      (s.sampleLine i).layout = s.layout ∧ (s.sampleLine i).ring = s.ring ∧ (s.sampleLine i).styles = s.styles ∧
      (s.sampleLine i).nextKey = s.nextKey ∧ (s.sampleLine i).library = s.library ∧ (s.sampleLine i).schedules = s.schedules ∧
      (s.sampleLine i).curves = s.curves ∧ (s.sampleLine i).staging = s.staging ∧ (s.sampleLine i).buses = s.buses ∧
      (s.sampleLine i).ports = s.ports := by
  simp only [State.sampleLine]
  (repeat' split) <;> simp

@[simp] theorem State.tickWindow_frame (i : Nat) (s : State) :
    (s.tickWindow i).pending = s.pending ∧ (s.tickWindow i).resetInput = s.resetInput ∧ (s.tickWindow i).mode = s.mode ∧
      (s.tickWindow i).layout = s.layout ∧ (s.tickWindow i).ring = s.ring ∧ (s.tickWindow i).styles = s.styles ∧
      (s.tickWindow i).sets = s.sets ∧ (s.tickWindow i).bodies = s.bodies ∧ (s.tickWindow i).nextKey = s.nextKey ∧
      (s.tickWindow i).lineList = s.lineList ∧ (s.tickWindow i).library = s.library ∧ (s.tickWindow i).schedules = s.schedules ∧
      (s.tickWindow i).curves = s.curves ∧ (s.tickWindow i).robots = s.robots ∧ (s.tickWindow i).staging = s.staging ∧
      (s.tickWindow i).pend = s.pend ∧ (s.tickWindow i).buses = s.buses ∧ (s.tickWindow i).ports = s.ports := by
  unfold State.tickWindow
  (repeat' split) <;> simp

@[simp] theorem State.tickEcho_frame (i : Nat) (s : State) :
    (s.tickEcho i).pending = s.pending ∧ (s.tickEcho i).due = s.due ∧ (s.tickEcho i).resetInput = s.resetInput ∧
      (s.tickEcho i).mode = s.mode ∧ (s.tickEcho i).layout = s.layout ∧ (s.tickEcho i).ring = s.ring ∧
      (s.tickEcho i).styles = s.styles ∧ (s.tickEcho i).sets = s.sets ∧ (s.tickEcho i).bodies = s.bodies ∧
      (s.tickEcho i).nextKey = s.nextKey ∧ (s.tickEcho i).lineList = s.lineList ∧ (s.tickEcho i).stations = s.stations ∧
      (s.tickEcho i).library = s.library ∧ (s.tickEcho i).schedules = s.schedules ∧ (s.tickEcho i).curves = s.curves ∧
      (s.tickEcho i).robots = s.robots ∧ (s.tickEcho i).staging = s.staging ∧ (s.tickEcho i).pend = s.pend ∧
      (s.tickEcho i).buses = s.buses ∧ (s.tickEcho i).ports = s.ports ∧ (s.tickEcho i).attention = s.attention := by
  unfold State.tickEcho
  (repeat' split) <;> simp

@[simp] theorem State.tickWatch_frame (i : Nat) (s : State) :
    (s.tickWatch i).pending = s.pending ∧ (s.tickWatch i).due = s.due ∧ (s.tickWatch i).resetInput = s.resetInput ∧
      (s.tickWatch i).mode = s.mode ∧ (s.tickWatch i).layout = s.layout ∧ (s.tickWatch i).ring = s.ring ∧
      (s.tickWatch i).styles = s.styles ∧ (s.tickWatch i).sets = s.sets ∧ (s.tickWatch i).bodies = s.bodies ∧
      (s.tickWatch i).nextKey = s.nextKey ∧ (s.tickWatch i).lineList = s.lineList ∧ (s.tickWatch i).lines = s.lines ∧
      (s.tickWatch i).library = s.library ∧ (s.tickWatch i).schedules = s.schedules ∧ (s.tickWatch i).curves = s.curves ∧
      (s.tickWatch i).robots = s.robots ∧ (s.tickWatch i).staging = s.staging ∧ (s.tickWatch i).pend = s.pend ∧
      (s.tickWatch i).buses = s.buses ∧ (s.tickWatch i).ports = s.ports := by
  simp only [State.tickWatch]
  (repeat' split) <;> simp

@[simp] theorem State.tickPoll_frame (r : Nat) (s : State) :
    (s.tickPoll r).pending = s.pending ∧ (s.tickPoll r).due = s.due ∧ (s.tickPoll r).resetInput = s.resetInput ∧
      (s.tickPoll r).mode = s.mode ∧ (s.tickPoll r).layout = s.layout ∧ (s.tickPoll r).ring = s.ring ∧
      (s.tickPoll r).styles = s.styles ∧ (s.tickPoll r).sets = s.sets ∧ (s.tickPoll r).bodies = s.bodies ∧
      (s.tickPoll r).nextKey = s.nextKey ∧ (s.tickPoll r).lineList = s.lineList ∧ (s.tickPoll r).stations = s.stations ∧
      (s.tickPoll r).lines = s.lines ∧ (s.tickPoll r).library = s.library ∧ (s.tickPoll r).schedules = s.schedules ∧
      (s.tickPoll r).curves = s.curves ∧ (s.tickPoll r).staging = s.staging ∧ (s.tickPoll r).buses = s.buses ∧
      (s.tickPoll r).ports = s.ports ∧ (s.tickPoll r).attention = s.attention := by
  unfold State.tickPoll
  (repeat' split) <;> simp

@[simp] theorem State.tickBusy_frame (r : Nat) (s : State) :
    (s.tickBusy r).pending = s.pending ∧ (s.tickBusy r).due = s.due ∧ (s.tickBusy r).resetInput = s.resetInput ∧
      (s.tickBusy r).mode = s.mode ∧ (s.tickBusy r).layout = s.layout ∧ (s.tickBusy r).ring = s.ring ∧
      (s.tickBusy r).styles = s.styles ∧ (s.tickBusy r).sets = s.sets ∧ (s.tickBusy r).bodies = s.bodies ∧
      (s.tickBusy r).nextKey = s.nextKey ∧ (s.tickBusy r).lineList = s.lineList ∧ (s.tickBusy r).stations = s.stations ∧
      (s.tickBusy r).lines = s.lines ∧ (s.tickBusy r).library = s.library ∧ (s.tickBusy r).schedules = s.schedules ∧
      (s.tickBusy r).curves = s.curves ∧ (s.tickBusy r).staging = s.staging ∧ (s.tickBusy r).buses = s.buses ∧
      (s.tickBusy r).ports = s.ports ∧ (s.tickBusy r).attention = s.attention := by
  unfold State.tickBusy
  (repeat' split) <;> simp

@[simp] theorem State.tickPace_frame (b : Nat) (s : State) :
    (s.tickPace b).pending = s.pending ∧ (s.tickPace b).due = s.due ∧ (s.tickPace b).resetInput = s.resetInput ∧
      (s.tickPace b).mode = s.mode ∧ (s.tickPace b).layout = s.layout ∧ (s.tickPace b).ring = s.ring ∧
      (s.tickPace b).styles = s.styles ∧ (s.tickPace b).sets = s.sets ∧ (s.tickPace b).bodies = s.bodies ∧
      (s.tickPace b).nextKey = s.nextKey ∧ (s.tickPace b).lineList = s.lineList ∧ (s.tickPace b).stations = s.stations ∧
      (s.tickPace b).lines = s.lines ∧ (s.tickPace b).library = s.library ∧ (s.tickPace b).schedules = s.schedules ∧
      (s.tickPace b).curves = s.curves ∧ (s.tickPace b).robots = s.robots ∧ (s.tickPace b).staging = s.staging ∧
      (s.tickPace b).pend = s.pend ∧ (s.tickPace b).ports = s.ports ∧ (s.tickPace b).attention = s.attention := by
  unfold State.tickPace
  simp

@[simp] theorem State.tickReply_frame (b : Nat) (s : State) :
    (s.tickReply b).pending = s.pending ∧ (s.tickReply b).resetInput = s.resetInput ∧ (s.tickReply b).mode = s.mode ∧
      (s.tickReply b).layout = s.layout ∧ (s.tickReply b).ring = s.ring ∧ (s.tickReply b).styles = s.styles ∧
      (s.tickReply b).sets = s.sets ∧ (s.tickReply b).nextKey = s.nextKey ∧ (s.tickReply b).lineList = s.lineList ∧
      (s.tickReply b).lines = s.lines ∧ (s.tickReply b).schedules = s.schedules ∧ (s.tickReply b).curves = s.curves ∧
      (s.tickReply b).ports = s.ports := by
  unfold State.tickReply
  (repeat' split) <;> simp

@[simp] theorem State.tick_frame (s : State) :
    s.tick.pending = s.pending ∧ s.tick.resetInput = s.resetInput ∧ s.tick.mode = s.mode ∧
      s.tick.layout = s.layout ∧ s.tick.ring = s.ring ∧ s.tick.styles = s.styles ∧
      s.tick.nextKey = s.nextKey ∧ s.tick.schedules = s.schedules ∧ s.tick.curves = s.curves ∧
      s.tick.ports = s.ports := by
  unfold State.tick
  and_intros <;>
    exact (foldl_keeps _ _ (fun t a => by simp) _ _).trans ((foldl_keeps _ _ (fun t a => by simp) _ _).trans
      ((foldl_keeps _ _ (fun t a => by simp) _ _).trans (foldl_keeps _ _ (fun t a => by simp) _ _)))

@[simp] theorem State.beginReply_frame (p : Fin 4) (s : State) :
    (s.beginReply p).pending = s.pending ∧ (s.beginReply p).due = s.due ∧ (s.beginReply p).resetInput = s.resetInput ∧
      (s.beginReply p).mode = s.mode ∧ (s.beginReply p).layout = s.layout ∧ (s.beginReply p).ring = s.ring ∧
      (s.beginReply p).styles = s.styles ∧ (s.beginReply p).sets = s.sets ∧ (s.beginReply p).bodies = s.bodies ∧
      (s.beginReply p).nextKey = s.nextKey ∧ (s.beginReply p).lineList = s.lineList ∧
      (s.beginReply p).stations = s.stations ∧ (s.beginReply p).lines = s.lines ∧ (s.beginReply p).library = s.library ∧
      (s.beginReply p).schedules = s.schedules ∧ (s.beginReply p).curves = s.curves ∧ (s.beginReply p).robots = s.robots ∧
      (s.beginReply p).staging = s.staging ∧ (s.beginReply p).pend = s.pend ∧ (s.beginReply p).buses = s.buses ∧
      (s.beginReply p).attention = s.attention := by
  simp [State.beginReply]

@[simp] theorem State.idle_frame (s : State) :
    s.idle.pending = s.pending ∧ s.idle.resetInput = s.resetInput ∧ s.idle.mode = s.mode ∧
      s.idle.layout = s.layout ∧ s.idle.schedules = s.schedules ∧ s.idle.curves = s.curves := by
  unfold State.idle
  (repeat' split) <;> simp

end Machine
end Sys2Proof
end

