-- ==== Sys2Proof/Laws/FramesRequests.lean ====
section
/-!
SUPPORT. For the block that serves each request, once: the fields of State it leaves as they are, whatever its answer. A
field not listed is one the request may write.
-/
namespace Sys2Proof
namespace Machine

@[simp] theorem State.refuse_state (s : State) (c : Code) (k : Contents) : (s.refuse c k).state = s := rfl
@[simp] theorem State.refuse_code (s : State) (c : Code) (k : Contents) : (s.refuse c k).code = c := rfl
@[simp] theorem State.refuse_contents (s : State) (c : Code) (k : Contents) : (s.refuse c k).contents = k := rfl
@[simp] theorem State.done_state (s : State) (k : Contents) : (s.done k).state = s := rfl
@[simp] theorem State.done_code (s : State) (k : Contents) : (s.done k).code = .done := rfl
@[simp] theorem State.done_contents (s : State) (k : Contents) : (s.done k).contents = k := rfl

@[simp] theorem readAttentionBlock_frame (h : Hdr) (s : State) :
    (readAttentionBlock h s).state.pending = s.pending ∧ (readAttentionBlock h s).state.due = s.due ∧
      (readAttentionBlock h s).state.resetInput = s.resetInput ∧ (readAttentionBlock h s).state.mode = s.mode ∧
      (readAttentionBlock h s).state.layout = s.layout ∧ (readAttentionBlock h s).state.ring = s.ring ∧
      (readAttentionBlock h s).state.styles = s.styles ∧ (readAttentionBlock h s).state.sets = s.sets ∧
      (readAttentionBlock h s).state.bodies = s.bodies ∧ (readAttentionBlock h s).state.nextKey = s.nextKey ∧
      (readAttentionBlock h s).state.lineList = s.lineList ∧ (readAttentionBlock h s).state.stations = s.stations ∧
      (readAttentionBlock h s).state.lines = s.lines ∧ (readAttentionBlock h s).state.library = s.library ∧
      (readAttentionBlock h s).state.schedules = s.schedules ∧ (readAttentionBlock h s).state.curves = s.curves ∧
      (readAttentionBlock h s).state.robots = s.robots ∧ (readAttentionBlock h s).state.staging = s.staging ∧
      (readAttentionBlock h s).state.pend = s.pend ∧ (readAttentionBlock h s).state.buses = s.buses ∧
      (readAttentionBlock h s).state.ports = s.ports := by
  unfold readAttentionBlock
  (repeat' split) <;> simp

@[simp] theorem setAttentionMaskBlock_frame (h : Hdr) (mask : Byte) (s : State) :
    (setAttentionMaskBlock h mask s).state.pending = s.pending ∧ (setAttentionMaskBlock h mask s).state.due = s.due ∧
      (setAttentionMaskBlock h mask s).state.resetInput = s.resetInput ∧ (setAttentionMaskBlock h mask s).state.mode = s.mode ∧
      (setAttentionMaskBlock h mask s).state.layout = s.layout ∧ (setAttentionMaskBlock h mask s).state.ring = s.ring ∧
      (setAttentionMaskBlock h mask s).state.styles = s.styles ∧ (setAttentionMaskBlock h mask s).state.sets = s.sets ∧
      (setAttentionMaskBlock h mask s).state.bodies = s.bodies ∧ (setAttentionMaskBlock h mask s).state.nextKey = s.nextKey ∧
      (setAttentionMaskBlock h mask s).state.lineList = s.lineList ∧ (setAttentionMaskBlock h mask s).state.stations = s.stations ∧
      (setAttentionMaskBlock h mask s).state.lines = s.lines ∧ (setAttentionMaskBlock h mask s).state.library = s.library ∧
      (setAttentionMaskBlock h mask s).state.schedules = s.schedules ∧ (setAttentionMaskBlock h mask s).state.curves = s.curves ∧
      (setAttentionMaskBlock h mask s).state.robots = s.robots ∧ (setAttentionMaskBlock h mask s).state.staging = s.staging ∧
      (setAttentionMaskBlock h mask s).state.pend = s.pend ∧ (setAttentionMaskBlock h mask s).state.buses = s.buses ∧
      (setAttentionMaskBlock h mask s).state.ports = s.ports := by
  unfold setAttentionMaskBlock
  (repeat' split) <;> simp

@[simp] theorem statusBlock_frame (h : Hdr) (s : State) :
    (statusBlock h s).state.pending = s.pending ∧ (statusBlock h s).state.due = s.due ∧ (statusBlock h s).state.resetInput = s.resetInput ∧
      (statusBlock h s).state.mode = s.mode ∧ (statusBlock h s).state.layout = s.layout ∧ (statusBlock h s).state.ring = s.ring ∧
      (statusBlock h s).state.styles = s.styles ∧ (statusBlock h s).state.sets = s.sets ∧ (statusBlock h s).state.bodies = s.bodies ∧
      (statusBlock h s).state.nextKey = s.nextKey ∧ (statusBlock h s).state.lineList = s.lineList ∧ (statusBlock h s).state.stations = s.stations ∧
      (statusBlock h s).state.lines = s.lines ∧ (statusBlock h s).state.library = s.library ∧ (statusBlock h s).state.schedules = s.schedules ∧
      (statusBlock h s).state.curves = s.curves ∧ (statusBlock h s).state.robots = s.robots ∧ (statusBlock h s).state.staging = s.staging ∧
      (statusBlock h s).state.pend = s.pend ∧ (statusBlock h s).state.buses = s.buses ∧ (statusBlock h s).state.ports = s.ports ∧
      (statusBlock h s).state.attention = s.attention := by
  unfold statusBlock
  (repeat' split) <;> simp

@[simp] theorem seqAppendBlock_frame (h : Hdr) (entries : List SeqEntry) (s : State) :
    (seqAppendBlock h entries s).state.pending = s.pending ∧ (seqAppendBlock h entries s).state.resetInput = s.resetInput ∧
      (seqAppendBlock h entries s).state.mode = s.mode ∧ (seqAppendBlock h entries s).state.layout = s.layout ∧
      (seqAppendBlock h entries s).state.styles = s.styles ∧ (seqAppendBlock h entries s).state.sets = s.sets ∧
      (seqAppendBlock h entries s).state.bodies = s.bodies ∧ (seqAppendBlock h entries s).state.nextKey = s.nextKey ∧
      (seqAppendBlock h entries s).state.lineList = s.lineList ∧ (seqAppendBlock h entries s).state.stations = s.stations ∧
      (seqAppendBlock h entries s).state.lines = s.lines ∧ (seqAppendBlock h entries s).state.library = s.library ∧
      (seqAppendBlock h entries s).state.schedules = s.schedules ∧ (seqAppendBlock h entries s).state.curves = s.curves ∧
      (seqAppendBlock h entries s).state.robots = s.robots ∧ (seqAppendBlock h entries s).state.staging = s.staging ∧
      (seqAppendBlock h entries s).state.pend = s.pend ∧ (seqAppendBlock h entries s).state.buses = s.buses ∧
      (seqAppendBlock h entries s).state.ports = s.ports ∧ (seqAppendBlock h entries s).state.attention = s.attention := by
  simp only [seqAppendBlock]
  (repeat' split) <;> simp

@[simp] theorem seqSkipBlock_frame (h : Hdr) (s : State) :
    (seqSkipBlock h s).state.pending = s.pending ∧ (seqSkipBlock h s).state.resetInput = s.resetInput ∧ (seqSkipBlock h s).state.mode = s.mode ∧
      (seqSkipBlock h s).state.layout = s.layout ∧ (seqSkipBlock h s).state.styles = s.styles ∧ (seqSkipBlock h s).state.sets = s.sets ∧
      (seqSkipBlock h s).state.bodies = s.bodies ∧ (seqSkipBlock h s).state.nextKey = s.nextKey ∧ (seqSkipBlock h s).state.lineList = s.lineList ∧
      (seqSkipBlock h s).state.stations = s.stations ∧ (seqSkipBlock h s).state.lines = s.lines ∧ (seqSkipBlock h s).state.library = s.library ∧
      (seqSkipBlock h s).state.schedules = s.schedules ∧ (seqSkipBlock h s).state.curves = s.curves ∧ (seqSkipBlock h s).state.robots = s.robots ∧
      (seqSkipBlock h s).state.staging = s.staging ∧ (seqSkipBlock h s).state.pend = s.pend ∧ (seqSkipBlock h s).state.buses = s.buses ∧
      (seqSkipBlock h s).state.ports = s.ports := by
  unfold seqSkipBlock
  (repeat' split) <;> simp

@[simp] theorem seqLoopOnBlock_frame (h : Hdr) (listed : Bool) (s : State) :
    (seqLoopOnBlock h listed s).state.pending = s.pending ∧ (seqLoopOnBlock h listed s).state.resetInput = s.resetInput ∧
      (seqLoopOnBlock h listed s).state.mode = s.mode ∧ (seqLoopOnBlock h listed s).state.layout = s.layout ∧
      (seqLoopOnBlock h listed s).state.styles = s.styles ∧ (seqLoopOnBlock h listed s).state.sets = s.sets ∧
      (seqLoopOnBlock h listed s).state.bodies = s.bodies ∧ (seqLoopOnBlock h listed s).state.nextKey = s.nextKey ∧
      (seqLoopOnBlock h listed s).state.lineList = s.lineList ∧ (seqLoopOnBlock h listed s).state.stations = s.stations ∧
      (seqLoopOnBlock h listed s).state.lines = s.lines ∧ (seqLoopOnBlock h listed s).state.library = s.library ∧
      (seqLoopOnBlock h listed s).state.schedules = s.schedules ∧ (seqLoopOnBlock h listed s).state.curves = s.curves ∧
      (seqLoopOnBlock h listed s).state.robots = s.robots ∧ (seqLoopOnBlock h listed s).state.staging = s.staging ∧
      (seqLoopOnBlock h listed s).state.pend = s.pend ∧ (seqLoopOnBlock h listed s).state.buses = s.buses ∧
      (seqLoopOnBlock h listed s).state.ports = s.ports ∧ (seqLoopOnBlock h listed s).state.attention = s.attention := by
  unfold seqLoopOnBlock
  (repeat' split) <;> simp

@[simp] theorem seqLoopOffBlock_frame (h : Hdr) (listed : Bool) (s : State) :
    (seqLoopOffBlock h listed s).state.pending = s.pending ∧ (seqLoopOffBlock h listed s).state.due = s.due ∧
      (seqLoopOffBlock h listed s).state.resetInput = s.resetInput ∧ (seqLoopOffBlock h listed s).state.mode = s.mode ∧
      (seqLoopOffBlock h listed s).state.layout = s.layout ∧ (seqLoopOffBlock h listed s).state.styles = s.styles ∧
      (seqLoopOffBlock h listed s).state.sets = s.sets ∧ (seqLoopOffBlock h listed s).state.bodies = s.bodies ∧
      (seqLoopOffBlock h listed s).state.nextKey = s.nextKey ∧ (seqLoopOffBlock h listed s).state.lineList = s.lineList ∧
      (seqLoopOffBlock h listed s).state.stations = s.stations ∧ (seqLoopOffBlock h listed s).state.lines = s.lines ∧
      (seqLoopOffBlock h listed s).state.library = s.library ∧ (seqLoopOffBlock h listed s).state.schedules = s.schedules ∧
      (seqLoopOffBlock h listed s).state.curves = s.curves ∧ (seqLoopOffBlock h listed s).state.robots = s.robots ∧
      (seqLoopOffBlock h listed s).state.staging = s.staging ∧ (seqLoopOffBlock h listed s).state.pend = s.pend ∧
      (seqLoopOffBlock h listed s).state.buses = s.buses ∧ (seqLoopOffBlock h listed s).state.ports = s.ports := by
  unfold seqLoopOffBlock
  (repeat' split) <;> simp

@[simp] theorem styleWriteBlock_frame (h : Hdr) (i : Nat) (d : Option Disposition) (setNo : Nat) (s : State) :
    (styleWriteBlock h i d setNo s).state.pending = s.pending ∧ (styleWriteBlock h i d setNo s).state.resetInput = s.resetInput ∧
      (styleWriteBlock h i d setNo s).state.mode = s.mode ∧ (styleWriteBlock h i d setNo s).state.layout = s.layout ∧
      (styleWriteBlock h i d setNo s).state.ring = s.ring ∧ (styleWriteBlock h i d setNo s).state.bodies = s.bodies ∧
      (styleWriteBlock h i d setNo s).state.nextKey = s.nextKey ∧ (styleWriteBlock h i d setNo s).state.lineList = s.lineList ∧
      (styleWriteBlock h i d setNo s).state.stations = s.stations ∧ (styleWriteBlock h i d setNo s).state.lines = s.lines ∧
      (styleWriteBlock h i d setNo s).state.library = s.library ∧ (styleWriteBlock h i d setNo s).state.schedules = s.schedules ∧
      (styleWriteBlock h i d setNo s).state.curves = s.curves ∧ (styleWriteBlock h i d setNo s).state.robots = s.robots ∧
      (styleWriteBlock h i d setNo s).state.staging = s.staging ∧ (styleWriteBlock h i d setNo s).state.pend = s.pend ∧
      (styleWriteBlock h i d setNo s).state.buses = s.buses ∧ (styleWriteBlock h i d setNo s).state.ports = s.ports ∧
      (styleWriteBlock h i d setNo s).state.attention = s.attention := by
  unfold styleWriteBlock
  (repeat' split) <;> simp

@[simp] theorem styleWriteEffectivePsnBlock_frame (h : Hdr) (i : Nat) (d : Option Disposition) (setNo : Nat) (psn : Word) (s : State) :
    (styleWriteEffectivePsnBlock h i d setNo psn s).state.pending = s.pending ∧ (styleWriteEffectivePsnBlock h i d setNo psn s).state.resetInput = s.resetInput ∧
      (styleWriteEffectivePsnBlock h i d setNo psn s).state.mode = s.mode ∧ (styleWriteEffectivePsnBlock h i d setNo psn s).state.layout = s.layout ∧
      (styleWriteEffectivePsnBlock h i d setNo psn s).state.ring = s.ring ∧ (styleWriteEffectivePsnBlock h i d setNo psn s).state.bodies = s.bodies ∧
      (styleWriteEffectivePsnBlock h i d setNo psn s).state.nextKey = s.nextKey ∧ (styleWriteEffectivePsnBlock h i d setNo psn s).state.lineList = s.lineList ∧
      (styleWriteEffectivePsnBlock h i d setNo psn s).state.stations = s.stations ∧ (styleWriteEffectivePsnBlock h i d setNo psn s).state.lines = s.lines ∧
      (styleWriteEffectivePsnBlock h i d setNo psn s).state.library = s.library ∧ (styleWriteEffectivePsnBlock h i d setNo psn s).state.schedules = s.schedules ∧
      (styleWriteEffectivePsnBlock h i d setNo psn s).state.curves = s.curves ∧ (styleWriteEffectivePsnBlock h i d setNo psn s).state.robots = s.robots ∧
      (styleWriteEffectivePsnBlock h i d setNo psn s).state.staging = s.staging ∧ (styleWriteEffectivePsnBlock h i d setNo psn s).state.pend = s.pend ∧
      (styleWriteEffectivePsnBlock h i d setNo psn s).state.buses = s.buses ∧ (styleWriteEffectivePsnBlock h i d setNo psn s).state.ports = s.ports ∧
      (styleWriteEffectivePsnBlock h i d setNo psn s).state.attention = s.attention := by
  unfold styleWriteEffectivePsnBlock
  (repeat' split) <;> simp

@[simp] theorem styleCancelBlock_frame (h : Hdr) (i : Nat) (s : State) :
    (styleCancelBlock h i s).state.pending = s.pending ∧ (styleCancelBlock h i s).state.resetInput = s.resetInput ∧
      (styleCancelBlock h i s).state.mode = s.mode ∧ (styleCancelBlock h i s).state.layout = s.layout ∧
      (styleCancelBlock h i s).state.ring = s.ring ∧ (styleCancelBlock h i s).state.bodies = s.bodies ∧
      (styleCancelBlock h i s).state.nextKey = s.nextKey ∧ (styleCancelBlock h i s).state.lineList = s.lineList ∧
      (styleCancelBlock h i s).state.stations = s.stations ∧ (styleCancelBlock h i s).state.lines = s.lines ∧
      (styleCancelBlock h i s).state.library = s.library ∧ (styleCancelBlock h i s).state.schedules = s.schedules ∧
      (styleCancelBlock h i s).state.curves = s.curves ∧ (styleCancelBlock h i s).state.robots = s.robots ∧
      (styleCancelBlock h i s).state.staging = s.staging ∧ (styleCancelBlock h i s).state.pend = s.pend ∧
      (styleCancelBlock h i s).state.buses = s.buses ∧ (styleCancelBlock h i s).state.ports = s.ports ∧
      (styleCancelBlock h i s).state.attention = s.attention := by
  unfold styleCancelBlock
  (repeat' split) <;> simp

@[simp] theorem queryStyleBlock_frame (h : Hdr) (i : Nat) (s : State) :
    (queryStyleBlock h i s).state.pending = s.pending ∧ (queryStyleBlock h i s).state.due = s.due ∧
      (queryStyleBlock h i s).state.resetInput = s.resetInput ∧ (queryStyleBlock h i s).state.mode = s.mode ∧
      (queryStyleBlock h i s).state.layout = s.layout ∧ (queryStyleBlock h i s).state.ring = s.ring ∧
      (queryStyleBlock h i s).state.styles = s.styles ∧ (queryStyleBlock h i s).state.sets = s.sets ∧
      (queryStyleBlock h i s).state.bodies = s.bodies ∧ (queryStyleBlock h i s).state.nextKey = s.nextKey ∧
      (queryStyleBlock h i s).state.lineList = s.lineList ∧ (queryStyleBlock h i s).state.stations = s.stations ∧
      (queryStyleBlock h i s).state.lines = s.lines ∧ (queryStyleBlock h i s).state.library = s.library ∧
      (queryStyleBlock h i s).state.schedules = s.schedules ∧ (queryStyleBlock h i s).state.curves = s.curves ∧
      (queryStyleBlock h i s).state.robots = s.robots ∧ (queryStyleBlock h i s).state.staging = s.staging ∧
      (queryStyleBlock h i s).state.pend = s.pend ∧ (queryStyleBlock h i s).state.buses = s.buses ∧
      (queryStyleBlock h i s).state.ports = s.ports ∧ (queryStyleBlock h i s).state.attention = s.attention := by
  unfold queryStyleBlock
  (repeat' split) <;> simp

/-- Check 2 of R30 passes exactly where 1 to 32 entries are carried and none is faulty in itself. -/
theorem entriesFault_eq_none (entries : List RawEntry) :
    entriesFault entries = none ↔ firstFaulty entries = none ∧ 1 ≤ entries.length ∧ entries.length ≤ 32 := by
  have hmax : Config.setMaxEntries = 32 := rfl
  unfold entriesFault
  cases firstFaulty entries with
  | some p => by_cases h : p < Config.setMaxEntries <;> simp [h]
  | none =>
    by_cases h : entries.length = 0 ∨ Config.setMaxEntries < entries.length
    · simp only [if_pos h]; simp; omega
    · simp only [if_neg h]; simp; omega

@[simp] theorem setWriteBlock_frame (h : Hdr) (n : Nat) (entries : List RawEntry) (s : State) :
    (setWriteBlock h n entries s).state.pending = s.pending ∧ (setWriteBlock h n entries s).state.due = s.due ∧
      (setWriteBlock h n entries s).state.resetInput = s.resetInput ∧ (setWriteBlock h n entries s).state.mode = s.mode ∧
      (setWriteBlock h n entries s).state.layout = s.layout ∧ (setWriteBlock h n entries s).state.ring = s.ring ∧
      (setWriteBlock h n entries s).state.styles = s.styles ∧ (setWriteBlock h n entries s).state.bodies = s.bodies ∧
      (setWriteBlock h n entries s).state.nextKey = s.nextKey ∧ (setWriteBlock h n entries s).state.lineList = s.lineList ∧
      (setWriteBlock h n entries s).state.stations = s.stations ∧ (setWriteBlock h n entries s).state.lines = s.lines ∧
      (setWriteBlock h n entries s).state.schedules = s.schedules ∧ (setWriteBlock h n entries s).state.curves = s.curves ∧
      (setWriteBlock h n entries s).state.robots = s.robots ∧ (setWriteBlock h n entries s).state.staging = s.staging ∧
      (setWriteBlock h n entries s).state.pend = s.pend ∧ (setWriteBlock h n entries s).state.buses = s.buses ∧
      (setWriteBlock h n entries s).state.ports = s.ports ∧ (setWriteBlock h n entries s).state.attention = s.attention := by
  simp only [setWriteBlock]
  (repeat' split) <;> simp

@[simp] theorem setDeleteBlock_frame (h : Hdr) (n : Nat) (s : State) :
    (setDeleteBlock h n s).state.pending = s.pending ∧ (setDeleteBlock h n s).state.due = s.due ∧
      (setDeleteBlock h n s).state.resetInput = s.resetInput ∧ (setDeleteBlock h n s).state.mode = s.mode ∧
      (setDeleteBlock h n s).state.layout = s.layout ∧ (setDeleteBlock h n s).state.ring = s.ring ∧
      (setDeleteBlock h n s).state.styles = s.styles ∧ (setDeleteBlock h n s).state.bodies = s.bodies ∧
      (setDeleteBlock h n s).state.nextKey = s.nextKey ∧ (setDeleteBlock h n s).state.lineList = s.lineList ∧
      (setDeleteBlock h n s).state.stations = s.stations ∧ (setDeleteBlock h n s).state.lines = s.lines ∧
      (setDeleteBlock h n s).state.schedules = s.schedules ∧ (setDeleteBlock h n s).state.curves = s.curves ∧
      (setDeleteBlock h n s).state.robots = s.robots ∧ (setDeleteBlock h n s).state.staging = s.staging ∧
      (setDeleteBlock h n s).state.pend = s.pend ∧ (setDeleteBlock h n s).state.buses = s.buses ∧
      (setDeleteBlock h n s).state.ports = s.ports ∧ (setDeleteBlock h n s).state.attention = s.attention := by
  unfold setDeleteBlock
  (repeat' split) <;> simp

@[simp] theorem querySetBlock_frame (h : Hdr) (n : Nat) (s : State) :
    (querySetBlock h n s).state.pending = s.pending ∧ (querySetBlock h n s).state.due = s.due ∧ (querySetBlock h n s).state.resetInput = s.resetInput ∧
      (querySetBlock h n s).state.mode = s.mode ∧ (querySetBlock h n s).state.layout = s.layout ∧ (querySetBlock h n s).state.ring = s.ring ∧
      (querySetBlock h n s).state.styles = s.styles ∧ (querySetBlock h n s).state.sets = s.sets ∧ (querySetBlock h n s).state.bodies = s.bodies ∧
      (querySetBlock h n s).state.nextKey = s.nextKey ∧ (querySetBlock h n s).state.lineList = s.lineList ∧ (querySetBlock h n s).state.stations = s.stations ∧
      (querySetBlock h n s).state.lines = s.lines ∧ (querySetBlock h n s).state.library = s.library ∧ (querySetBlock h n s).state.schedules = s.schedules ∧
      (querySetBlock h n s).state.curves = s.curves ∧ (querySetBlock h n s).state.robots = s.robots ∧ (querySetBlock h n s).state.staging = s.staging ∧
      (querySetBlock h n s).state.pend = s.pend ∧ (querySetBlock h n s).state.buses = s.buses ∧ (querySetBlock h n s).state.ports = s.ports ∧
      (querySetBlock h n s).state.attention = s.attention := by
  unfold querySetBlock
  (repeat' split) <;> simp

@[simp] theorem schedWriteDefineBlock_frame (h : Hdr) (n : Nat) (f : SchedFields) (s : State) :
    (schedWriteDefineBlock h n f s).state.pending = s.pending ∧ (schedWriteDefineBlock h n f s).state.due = s.due ∧
      (schedWriteDefineBlock h n f s).state.resetInput = s.resetInput ∧ (schedWriteDefineBlock h n f s).state.mode = s.mode ∧
      (schedWriteDefineBlock h n f s).state.layout = s.layout ∧ (schedWriteDefineBlock h n f s).state.ring = s.ring ∧
      (schedWriteDefineBlock h n f s).state.styles = s.styles ∧ (schedWriteDefineBlock h n f s).state.sets = s.sets ∧
      (schedWriteDefineBlock h n f s).state.bodies = s.bodies ∧ (schedWriteDefineBlock h n f s).state.nextKey = s.nextKey ∧
      (schedWriteDefineBlock h n f s).state.lineList = s.lineList ∧ (schedWriteDefineBlock h n f s).state.stations = s.stations ∧
      (schedWriteDefineBlock h n f s).state.lines = s.lines ∧ (schedWriteDefineBlock h n f s).state.library = s.library ∧
      (schedWriteDefineBlock h n f s).state.curves = s.curves ∧ (schedWriteDefineBlock h n f s).state.robots = s.robots ∧
      (schedWriteDefineBlock h n f s).state.staging = s.staging ∧ (schedWriteDefineBlock h n f s).state.pend = s.pend ∧
      (schedWriteDefineBlock h n f s).state.buses = s.buses ∧ (schedWriteDefineBlock h n f s).state.ports = s.ports ∧
      (schedWriteDefineBlock h n f s).state.attention = s.attention := by
  unfold schedWriteDefineBlock
  (repeat' split) <;> simp

@[simp] theorem schedWriteClearBlock_frame (h : Hdr) (n : Nat) (listed : Bool) (s : State) :
    (schedWriteClearBlock h n listed s).state.pending = s.pending ∧ (schedWriteClearBlock h n listed s).state.due = s.due ∧
      (schedWriteClearBlock h n listed s).state.resetInput = s.resetInput ∧ (schedWriteClearBlock h n listed s).state.mode = s.mode ∧
      (schedWriteClearBlock h n listed s).state.layout = s.layout ∧ (schedWriteClearBlock h n listed s).state.ring = s.ring ∧
      (schedWriteClearBlock h n listed s).state.styles = s.styles ∧ (schedWriteClearBlock h n listed s).state.sets = s.sets ∧
      (schedWriteClearBlock h n listed s).state.bodies = s.bodies ∧ (schedWriteClearBlock h n listed s).state.nextKey = s.nextKey ∧
      (schedWriteClearBlock h n listed s).state.lineList = s.lineList ∧ (schedWriteClearBlock h n listed s).state.stations = s.stations ∧
      (schedWriteClearBlock h n listed s).state.lines = s.lines ∧ (schedWriteClearBlock h n listed s).state.library = s.library ∧
      (schedWriteClearBlock h n listed s).state.curves = s.curves ∧ (schedWriteClearBlock h n listed s).state.robots = s.robots ∧
      (schedWriteClearBlock h n listed s).state.staging = s.staging ∧ (schedWriteClearBlock h n listed s).state.pend = s.pend ∧
      (schedWriteClearBlock h n listed s).state.buses = s.buses ∧ (schedWriteClearBlock h n listed s).state.ports = s.ports ∧
      (schedWriteClearBlock h n listed s).state.attention = s.attention := by
  unfold schedWriteClearBlock
  (repeat' split) <;> simp

@[simp] theorem stepperWriteBlock_frame (h : Hdr) (g : Nat) (steps : List CurveStep) (s : State) :
    (stepperWriteBlock h g steps s).state.pending = s.pending ∧ (stepperWriteBlock h g steps s).state.due = s.due ∧
      (stepperWriteBlock h g steps s).state.resetInput = s.resetInput ∧ (stepperWriteBlock h g steps s).state.mode = s.mode ∧
      (stepperWriteBlock h g steps s).state.layout = s.layout ∧ (stepperWriteBlock h g steps s).state.ring = s.ring ∧
      (stepperWriteBlock h g steps s).state.styles = s.styles ∧ (stepperWriteBlock h g steps s).state.sets = s.sets ∧
      (stepperWriteBlock h g steps s).state.bodies = s.bodies ∧ (stepperWriteBlock h g steps s).state.nextKey = s.nextKey ∧
      (stepperWriteBlock h g steps s).state.lineList = s.lineList ∧ (stepperWriteBlock h g steps s).state.stations = s.stations ∧
      (stepperWriteBlock h g steps s).state.lines = s.lines ∧ (stepperWriteBlock h g steps s).state.library = s.library ∧
      (stepperWriteBlock h g steps s).state.schedules = s.schedules ∧ (stepperWriteBlock h g steps s).state.robots = s.robots ∧
      (stepperWriteBlock h g steps s).state.staging = s.staging ∧ (stepperWriteBlock h g steps s).state.pend = s.pend ∧
      (stepperWriteBlock h g steps s).state.buses = s.buses ∧ (stepperWriteBlock h g steps s).state.ports = s.ports ∧
      (stepperWriteBlock h g steps s).state.attention = s.attention := by
  unfold stepperWriteBlock
  (repeat' split) <;> simp

@[simp] theorem progOpenBlock_frame (h : Hdr) (n count : Nat) (check : Word) (s : State) :
    (progOpenBlock h n count check s).state.pending = s.pending ∧ (progOpenBlock h n count check s).state.due = s.due ∧
      (progOpenBlock h n count check s).state.resetInput = s.resetInput ∧ (progOpenBlock h n count check s).state.mode = s.mode ∧
      (progOpenBlock h n count check s).state.layout = s.layout ∧ (progOpenBlock h n count check s).state.ring = s.ring ∧
      (progOpenBlock h n count check s).state.styles = s.styles ∧ (progOpenBlock h n count check s).state.sets = s.sets ∧
      (progOpenBlock h n count check s).state.bodies = s.bodies ∧ (progOpenBlock h n count check s).state.nextKey = s.nextKey ∧
      (progOpenBlock h n count check s).state.lineList = s.lineList ∧ (progOpenBlock h n count check s).state.stations = s.stations ∧
      (progOpenBlock h n count check s).state.lines = s.lines ∧ (progOpenBlock h n count check s).state.schedules = s.schedules ∧
      (progOpenBlock h n count check s).state.curves = s.curves ∧ (progOpenBlock h n count check s).state.robots = s.robots ∧
      (progOpenBlock h n count check s).state.staging = s.staging ∧ (progOpenBlock h n count check s).state.pend = s.pend ∧
      (progOpenBlock h n count check s).state.buses = s.buses ∧ (progOpenBlock h n count check s).state.ports = s.ports ∧
      (progOpenBlock h n count check s).state.attention = s.attention := by
  unfold progOpenBlock
  (repeat' split) <;> simp

@[simp] theorem progDataBlock_frame (h : Hdr) (n first : Nat) (points : List RawPoint) (s : State) :
    (progDataBlock h n first points s).state.pending = s.pending ∧ (progDataBlock h n first points s).state.due = s.due ∧
      (progDataBlock h n first points s).state.resetInput = s.resetInput ∧ (progDataBlock h n first points s).state.mode = s.mode ∧
      (progDataBlock h n first points s).state.layout = s.layout ∧ (progDataBlock h n first points s).state.ring = s.ring ∧
      (progDataBlock h n first points s).state.styles = s.styles ∧ (progDataBlock h n first points s).state.sets = s.sets ∧
      (progDataBlock h n first points s).state.bodies = s.bodies ∧ (progDataBlock h n first points s).state.nextKey = s.nextKey ∧
      (progDataBlock h n first points s).state.lineList = s.lineList ∧ (progDataBlock h n first points s).state.stations = s.stations ∧
      (progDataBlock h n first points s).state.lines = s.lines ∧ (progDataBlock h n first points s).state.schedules = s.schedules ∧
      (progDataBlock h n first points s).state.curves = s.curves ∧ (progDataBlock h n first points s).state.robots = s.robots ∧
      (progDataBlock h n first points s).state.staging = s.staging ∧ (progDataBlock h n first points s).state.pend = s.pend ∧
      (progDataBlock h n first points s).state.buses = s.buses ∧ (progDataBlock h n first points s).state.ports = s.ports ∧
      (progDataBlock h n first points s).state.attention = s.attention := by
  unfold progDataBlock
  (repeat' split) <;> simp

@[simp] theorem progCloseBlock_frame (h : Hdr) (n : Nat) (s : State) :
    (progCloseBlock h n s).state.pending = s.pending ∧ (progCloseBlock h n s).state.due = s.due ∧
      (progCloseBlock h n s).state.resetInput = s.resetInput ∧ (progCloseBlock h n s).state.mode = s.mode ∧
      (progCloseBlock h n s).state.layout = s.layout ∧ (progCloseBlock h n s).state.ring = s.ring ∧
      (progCloseBlock h n s).state.styles = s.styles ∧ (progCloseBlock h n s).state.sets = s.sets ∧
      (progCloseBlock h n s).state.bodies = s.bodies ∧ (progCloseBlock h n s).state.nextKey = s.nextKey ∧
      (progCloseBlock h n s).state.lineList = s.lineList ∧ (progCloseBlock h n s).state.stations = s.stations ∧
      (progCloseBlock h n s).state.lines = s.lines ∧ (progCloseBlock h n s).state.schedules = s.schedules ∧
      (progCloseBlock h n s).state.curves = s.curves ∧ (progCloseBlock h n s).state.robots = s.robots ∧
      (progCloseBlock h n s).state.staging = s.staging ∧ (progCloseBlock h n s).state.pend = s.pend ∧
      (progCloseBlock h n s).state.buses = s.buses ∧ (progCloseBlock h n s).state.ports = s.ports ∧
      (progCloseBlock h n s).state.attention = s.attention := by
  unfold progCloseBlock
  (repeat' split) <;> simp

@[simp] theorem progDeleteBlock_frame (h : Hdr) (n : Nat) (s : State) :
    (progDeleteBlock h n s).state.pending = s.pending ∧ (progDeleteBlock h n s).state.resetInput = s.resetInput ∧
      (progDeleteBlock h n s).state.mode = s.mode ∧ (progDeleteBlock h n s).state.layout = s.layout ∧
      (progDeleteBlock h n s).state.ring = s.ring ∧ (progDeleteBlock h n s).state.styles = s.styles ∧
      (progDeleteBlock h n s).state.sets = s.sets ∧ (progDeleteBlock h n s).state.bodies = s.bodies ∧
      (progDeleteBlock h n s).state.nextKey = s.nextKey ∧ (progDeleteBlock h n s).state.lineList = s.lineList ∧
      (progDeleteBlock h n s).state.stations = s.stations ∧ (progDeleteBlock h n s).state.lines = s.lines ∧
      (progDeleteBlock h n s).state.schedules = s.schedules ∧ (progDeleteBlock h n s).state.curves = s.curves ∧
      (progDeleteBlock h n s).state.staging = s.staging ∧ (progDeleteBlock h n s).state.pend = s.pend ∧
      (progDeleteBlock h n s).state.buses = s.buses ∧ (progDeleteBlock h n s).state.ports = s.ports ∧
      (progDeleteBlock h n s).state.attention = s.attention := by
  unfold progDeleteBlock
  (repeat' split) <;> simp

@[simp] theorem queryProgramBlock_frame (h : Hdr) (n : Nat) (range : Option (Nat × Nat)) (s : State) :
    (queryProgramBlock h n range s).state.pending = s.pending ∧ (queryProgramBlock h n range s).state.due = s.due ∧
      (queryProgramBlock h n range s).state.resetInput = s.resetInput ∧ (queryProgramBlock h n range s).state.mode = s.mode ∧
      (queryProgramBlock h n range s).state.layout = s.layout ∧ (queryProgramBlock h n range s).state.ring = s.ring ∧
      (queryProgramBlock h n range s).state.styles = s.styles ∧ (queryProgramBlock h n range s).state.sets = s.sets ∧
      (queryProgramBlock h n range s).state.bodies = s.bodies ∧ (queryProgramBlock h n range s).state.nextKey = s.nextKey ∧
      (queryProgramBlock h n range s).state.lineList = s.lineList ∧ (queryProgramBlock h n range s).state.stations = s.stations ∧
      (queryProgramBlock h n range s).state.lines = s.lines ∧ (queryProgramBlock h n range s).state.library = s.library ∧
      (queryProgramBlock h n range s).state.schedules = s.schedules ∧ (queryProgramBlock h n range s).state.curves = s.curves ∧
      (queryProgramBlock h n range s).state.robots = s.robots ∧ (queryProgramBlock h n range s).state.staging = s.staging ∧
      (queryProgramBlock h n range s).state.pend = s.pend ∧ (queryProgramBlock h n range s).state.buses = s.buses ∧
      (queryProgramBlock h n range s).state.ports = s.ports ∧ (queryProgramBlock h n range s).state.attention = s.attention := by
  unfold queryProgramBlock
  (repeat' split) <;> simp

@[simp] theorem pullBlock_frame (h : Hdr) (tag : Word) (reason : Byte) (s : State) :
    (pullBlock h tag reason s).state.pending = s.pending ∧ (pullBlock h tag reason s).state.resetInput = s.resetInput ∧
      (pullBlock h tag reason s).state.mode = s.mode ∧ (pullBlock h tag reason s).state.layout = s.layout ∧
      (pullBlock h tag reason s).state.ring = s.ring ∧ (pullBlock h tag reason s).state.styles = s.styles ∧
      (pullBlock h tag reason s).state.nextKey = s.nextKey ∧ (pullBlock h tag reason s).state.lines = s.lines ∧
      (pullBlock h tag reason s).state.library = s.library ∧ (pullBlock h tag reason s).state.schedules = s.schedules ∧
      (pullBlock h tag reason s).state.curves = s.curves ∧ (pullBlock h tag reason s).state.staging = s.staging ∧
      (pullBlock h tag reason s).state.buses = s.buses ∧ (pullBlock h tag reason s).state.ports = s.ports := by
  unfold pullBlock
  (repeat' split) <;> simp

@[simp] theorem reinsertBlock_frame (h : Hdr) (tag : Word) (i : Nat) (s : State) :
    (reinsertBlock h tag i s).state.pending = s.pending ∧ (reinsertBlock h tag i s).state.resetInput = s.resetInput ∧
      (reinsertBlock h tag i s).state.mode = s.mode ∧ (reinsertBlock h tag i s).state.layout = s.layout ∧
      (reinsertBlock h tag i s).state.ring = s.ring ∧ (reinsertBlock h tag i s).state.styles = s.styles ∧
      (reinsertBlock h tag i s).state.sets = s.sets ∧ (reinsertBlock h tag i s).state.nextKey = s.nextKey ∧
      (reinsertBlock h tag i s).state.stations = s.stations ∧ (reinsertBlock h tag i s).state.lines = s.lines ∧
      (reinsertBlock h tag i s).state.library = s.library ∧ (reinsertBlock h tag i s).state.schedules = s.schedules ∧
      (reinsertBlock h tag i s).state.curves = s.curves ∧ (reinsertBlock h tag i s).state.robots = s.robots ∧
      (reinsertBlock h tag i s).state.staging = s.staging ∧ (reinsertBlock h tag i s).state.pend = s.pend ∧
      (reinsertBlock h tag i s).state.buses = s.buses ∧ (reinsertBlock h tag i s).state.ports = s.ports ∧
      (reinsertBlock h tag i s).state.attention = s.attention := by
  unfold reinsertBlock
  (repeat' split) <;> simp

@[simp] theorem scrapBlock_frame (h : Hdr) (tag : Word) (s : State) :
    (scrapBlock h tag s).state.pending = s.pending ∧ (scrapBlock h tag s).state.resetInput = s.resetInput ∧ (scrapBlock h tag s).state.mode = s.mode ∧
      (scrapBlock h tag s).state.layout = s.layout ∧ (scrapBlock h tag s).state.ring = s.ring ∧ (scrapBlock h tag s).state.styles = s.styles ∧
      (scrapBlock h tag s).state.nextKey = s.nextKey ∧ (scrapBlock h tag s).state.stations = s.stations ∧ (scrapBlock h tag s).state.lines = s.lines ∧
      (scrapBlock h tag s).state.library = s.library ∧ (scrapBlock h tag s).state.schedules = s.schedules ∧ (scrapBlock h tag s).state.curves = s.curves ∧
      (scrapBlock h tag s).state.robots = s.robots ∧ (scrapBlock h tag s).state.staging = s.staging ∧ (scrapBlock h tag s).state.pend = s.pend ∧
      (scrapBlock h tag s).state.buses = s.buses ∧ (scrapBlock h tag s).state.ports = s.ports ∧ (scrapBlock h tag s).state.attention = s.attention := by
  unfold scrapBlock
  (repeat' split) <;> simp

@[simp] theorem holdBlock_frame (h : Hdr) (i : Nat) (s : State) :
    (holdBlock h i s).state.pending = s.pending ∧ (holdBlock h i s).state.due = s.due ∧ (holdBlock h i s).state.resetInput = s.resetInput ∧
      (holdBlock h i s).state.mode = s.mode ∧ (holdBlock h i s).state.layout = s.layout ∧ (holdBlock h i s).state.ring = s.ring ∧
      (holdBlock h i s).state.styles = s.styles ∧ (holdBlock h i s).state.sets = s.sets ∧ (holdBlock h i s).state.bodies = s.bodies ∧
      (holdBlock h i s).state.nextKey = s.nextKey ∧ (holdBlock h i s).state.lineList = s.lineList ∧ (holdBlock h i s).state.lines = s.lines ∧
      (holdBlock h i s).state.library = s.library ∧ (holdBlock h i s).state.schedules = s.schedules ∧ (holdBlock h i s).state.curves = s.curves ∧
      (holdBlock h i s).state.robots = s.robots ∧ (holdBlock h i s).state.staging = s.staging ∧ (holdBlock h i s).state.pend = s.pend ∧
      (holdBlock h i s).state.buses = s.buses ∧ (holdBlock h i s).state.ports = s.ports ∧ (holdBlock h i s).state.attention = s.attention := by
  unfold holdBlock
  (repeat' split) <;> simp

@[simp] theorem releaseBlock_frame (h : Hdr) (i : Nat) (s : State) :
    (releaseBlock h i s).state.pending = s.pending ∧ (releaseBlock h i s).state.resetInput = s.resetInput ∧ (releaseBlock h i s).state.mode = s.mode ∧
      (releaseBlock h i s).state.layout = s.layout ∧ (releaseBlock h i s).state.ring = s.ring ∧ (releaseBlock h i s).state.styles = s.styles ∧
      (releaseBlock h i s).state.sets = s.sets ∧ (releaseBlock h i s).state.nextKey = s.nextKey ∧ (releaseBlock h i s).state.lineList = s.lineList ∧
      (releaseBlock h i s).state.lines = s.lines ∧ (releaseBlock h i s).state.library = s.library ∧ (releaseBlock h i s).state.schedules = s.schedules ∧
      (releaseBlock h i s).state.curves = s.curves ∧ (releaseBlock h i s).state.robots = s.robots ∧ (releaseBlock h i s).state.staging = s.staging ∧
      (releaseBlock h i s).state.pend = s.pend ∧ (releaseBlock h i s).state.buses = s.buses ∧ (releaseBlock h i s).state.ports = s.ports := by
  unfold releaseBlock
  (repeat' split) <;> simp

@[simp] theorem clearStationBlock_frame (h : Hdr) (i : Nat) (s : State) :
    (clearStationBlock h i s).state.pending = s.pending ∧ (clearStationBlock h i s).state.resetInput = s.resetInput ∧
      (clearStationBlock h i s).state.mode = s.mode ∧ (clearStationBlock h i s).state.layout = s.layout ∧
      (clearStationBlock h i s).state.ring = s.ring ∧ (clearStationBlock h i s).state.styles = s.styles ∧
      (clearStationBlock h i s).state.sets = s.sets ∧ (clearStationBlock h i s).state.nextKey = s.nextKey ∧
      (clearStationBlock h i s).state.lineList = s.lineList ∧ (clearStationBlock h i s).state.lines = s.lines ∧
      (clearStationBlock h i s).state.library = s.library ∧ (clearStationBlock h i s).state.schedules = s.schedules ∧
      (clearStationBlock h i s).state.curves = s.curves ∧ (clearStationBlock h i s).state.staging = s.staging ∧
      (clearStationBlock h i s).state.buses = s.buses ∧ (clearStationBlock h i s).state.ports = s.ports := by
  unfold clearStationBlock
  (repeat' split) <;> simp

@[simp] theorem queryBodyBlock_frame (h : Hdr) (tag : Word) (s : State) :
    (queryBodyBlock h tag s).state.pending = s.pending ∧ (queryBodyBlock h tag s).state.due = s.due ∧
      (queryBodyBlock h tag s).state.resetInput = s.resetInput ∧ (queryBodyBlock h tag s).state.mode = s.mode ∧
      (queryBodyBlock h tag s).state.layout = s.layout ∧ (queryBodyBlock h tag s).state.ring = s.ring ∧
      (queryBodyBlock h tag s).state.styles = s.styles ∧ (queryBodyBlock h tag s).state.sets = s.sets ∧
      (queryBodyBlock h tag s).state.bodies = s.bodies ∧ (queryBodyBlock h tag s).state.nextKey = s.nextKey ∧
      (queryBodyBlock h tag s).state.lineList = s.lineList ∧ (queryBodyBlock h tag s).state.stations = s.stations ∧
      (queryBodyBlock h tag s).state.lines = s.lines ∧ (queryBodyBlock h tag s).state.library = s.library ∧
      (queryBodyBlock h tag s).state.schedules = s.schedules ∧ (queryBodyBlock h tag s).state.curves = s.curves ∧
      (queryBodyBlock h tag s).state.robots = s.robots ∧ (queryBodyBlock h tag s).state.staging = s.staging ∧
      (queryBodyBlock h tag s).state.pend = s.pend ∧ (queryBodyBlock h tag s).state.buses = s.buses ∧
      (queryBodyBlock h tag s).state.ports = s.ports ∧ (queryBodyBlock h tag s).state.attention = s.attention := by
  unfold queryBodyBlock
  (repeat' split) <;> simp

@[simp] theorem queryStationBlock_frame (h : Hdr) (i : Nat) (s : State) :
    (queryStationBlock h i s).state.pending = s.pending ∧ (queryStationBlock h i s).state.due = s.due ∧
      (queryStationBlock h i s).state.resetInput = s.resetInput ∧ (queryStationBlock h i s).state.mode = s.mode ∧
      (queryStationBlock h i s).state.layout = s.layout ∧ (queryStationBlock h i s).state.ring = s.ring ∧
      (queryStationBlock h i s).state.styles = s.styles ∧ (queryStationBlock h i s).state.sets = s.sets ∧
      (queryStationBlock h i s).state.bodies = s.bodies ∧ (queryStationBlock h i s).state.nextKey = s.nextKey ∧
      (queryStationBlock h i s).state.lineList = s.lineList ∧ (queryStationBlock h i s).state.stations = s.stations ∧
      (queryStationBlock h i s).state.lines = s.lines ∧ (queryStationBlock h i s).state.library = s.library ∧
      (queryStationBlock h i s).state.schedules = s.schedules ∧ (queryStationBlock h i s).state.curves = s.curves ∧
      (queryStationBlock h i s).state.robots = s.robots ∧ (queryStationBlock h i s).state.staging = s.staging ∧
      (queryStationBlock h i s).state.pend = s.pend ∧ (queryStationBlock h i s).state.buses = s.buses ∧
      (queryStationBlock h i s).state.ports = s.ports ∧ (queryStationBlock h i s).state.attention = s.attention := by
  unfold queryStationBlock
  (repeat' split) <;> simp

@[simp] theorem arriveBlock_frame (h : Hdr) (i : Nat) (tag : Word) (s : State) :
    (arriveBlock h i tag s).state.pending = s.pending ∧ (arriveBlock h i tag s).state.resetInput = s.resetInput ∧
      (arriveBlock h i tag s).state.mode = s.mode ∧ (arriveBlock h i tag s).state.layout = s.layout ∧
      (arriveBlock h i tag s).state.ring = s.ring ∧ (arriveBlock h i tag s).state.styles = s.styles ∧
      (arriveBlock h i tag s).state.nextKey = s.nextKey ∧ (arriveBlock h i tag s).state.library = s.library ∧
      (arriveBlock h i tag s).state.schedules = s.schedules ∧ (arriveBlock h i tag s).state.curves = s.curves ∧
      (arriveBlock h i tag s).state.staging = s.staging ∧ (arriveBlock h i tag s).state.buses = s.buses ∧
      (arriveBlock h i tag s).state.ports = s.ports := by
  unfold arriveBlock
  (repeat' split) <;> simp

@[simp] theorem departBlock_frame (h : Hdr) (i : Nat) (s : State) :
    (departBlock h i s).state.pending = s.pending ∧ (departBlock h i s).state.resetInput = s.resetInput ∧ (departBlock h i s).state.mode = s.mode ∧
      (departBlock h i s).state.layout = s.layout ∧ (departBlock h i s).state.ring = s.ring ∧ (departBlock h i s).state.styles = s.styles ∧
      (departBlock h i s).state.nextKey = s.nextKey ∧ (departBlock h i s).state.library = s.library ∧ (departBlock h i s).state.schedules = s.schedules ∧
      (departBlock h i s).state.curves = s.curves ∧ (departBlock h i s).state.staging = s.staging ∧ (departBlock h i s).state.buses = s.buses ∧
      (departBlock h i s).state.ports = s.ports := by
  unfold departBlock
  (repeat' split) <;> simp

@[simp] theorem setSenseBlock_frame (h : Hdr) (i : Nat) (sense : Option Sense) (s : State) :
    (setSenseBlock h i sense s).state.pending = s.pending ∧ (setSenseBlock h i sense s).state.resetInput = s.resetInput ∧
      (setSenseBlock h i sense s).state.mode = s.mode ∧ (setSenseBlock h i sense s).state.ring = s.ring ∧
      (setSenseBlock h i sense s).state.styles = s.styles ∧ (setSenseBlock h i sense s).state.nextKey = s.nextKey ∧
      (setSenseBlock h i sense s).state.library = s.library ∧ (setSenseBlock h i sense s).state.schedules = s.schedules ∧
      (setSenseBlock h i sense s).state.curves = s.curves ∧ (setSenseBlock h i sense s).state.staging = s.staging ∧
      (setSenseBlock h i sense s).state.buses = s.buses ∧ (setSenseBlock h i sense s).state.ports = s.ports := by
  unfold setSenseBlock
  (repeat' split) <;> simp

@[simp] theorem robotEnableBlock_frame (h : Hdr) (r : Nat) (s : State) :
    (robotEnableBlock h r s).state.pending = s.pending ∧ (robotEnableBlock h r s).state.resetInput = s.resetInput ∧
      (robotEnableBlock h r s).state.mode = s.mode ∧ (robotEnableBlock h r s).state.layout = s.layout ∧
      (robotEnableBlock h r s).state.ring = s.ring ∧ (robotEnableBlock h r s).state.styles = s.styles ∧
      (robotEnableBlock h r s).state.sets = s.sets ∧ (robotEnableBlock h r s).state.bodies = s.bodies ∧
      (robotEnableBlock h r s).state.nextKey = s.nextKey ∧ (robotEnableBlock h r s).state.lineList = s.lineList ∧
      (robotEnableBlock h r s).state.stations = s.stations ∧ (robotEnableBlock h r s).state.lines = s.lines ∧
      (robotEnableBlock h r s).state.library = s.library ∧ (robotEnableBlock h r s).state.schedules = s.schedules ∧
      (robotEnableBlock h r s).state.curves = s.curves ∧ (robotEnableBlock h r s).state.staging = s.staging ∧
      (robotEnableBlock h r s).state.pend = s.pend ∧ (robotEnableBlock h r s).state.buses = s.buses ∧
      (robotEnableBlock h r s).state.ports = s.ports ∧ (robotEnableBlock h r s).state.attention = s.attention := by
  unfold robotEnableBlock
  (repeat' split) <;> simp

@[simp] theorem robotDisableBlock_frame (h : Hdr) (r : Nat) (s : State) :
    (robotDisableBlock h r s).state.pending = s.pending ∧ (robotDisableBlock h r s).state.resetInput = s.resetInput ∧
      (robotDisableBlock h r s).state.mode = s.mode ∧ (robotDisableBlock h r s).state.layout = s.layout ∧
      (robotDisableBlock h r s).state.ring = s.ring ∧ (robotDisableBlock h r s).state.styles = s.styles ∧
      (robotDisableBlock h r s).state.sets = s.sets ∧ (robotDisableBlock h r s).state.nextKey = s.nextKey ∧
      (robotDisableBlock h r s).state.lineList = s.lineList ∧ (robotDisableBlock h r s).state.lines = s.lines ∧
      (robotDisableBlock h r s).state.library = s.library ∧ (robotDisableBlock h r s).state.schedules = s.schedules ∧
      (robotDisableBlock h r s).state.curves = s.curves ∧ (robotDisableBlock h r s).state.pend = s.pend ∧
      (robotDisableBlock h r s).state.buses = s.buses ∧ (robotDisableBlock h r s).state.ports = s.ports := by
  unfold robotDisableBlock
  (repeat' split) <;> simp

@[simp] theorem dressRequestBlock_frame (h : Hdr) (r : Nat) (s : State) :
    (dressRequestBlock h r s).state.pending = s.pending ∧ (dressRequestBlock h r s).state.due = s.due ∧
      (dressRequestBlock h r s).state.resetInput = s.resetInput ∧ (dressRequestBlock h r s).state.mode = s.mode ∧
      (dressRequestBlock h r s).state.layout = s.layout ∧ (dressRequestBlock h r s).state.ring = s.ring ∧
      (dressRequestBlock h r s).state.styles = s.styles ∧ (dressRequestBlock h r s).state.sets = s.sets ∧
      (dressRequestBlock h r s).state.bodies = s.bodies ∧ (dressRequestBlock h r s).state.nextKey = s.nextKey ∧
      (dressRequestBlock h r s).state.lineList = s.lineList ∧ (dressRequestBlock h r s).state.stations = s.stations ∧
      (dressRequestBlock h r s).state.lines = s.lines ∧ (dressRequestBlock h r s).state.library = s.library ∧
      (dressRequestBlock h r s).state.schedules = s.schedules ∧ (dressRequestBlock h r s).state.curves = s.curves ∧
      (dressRequestBlock h r s).state.staging = s.staging ∧ (dressRequestBlock h r s).state.pend = s.pend ∧
      (dressRequestBlock h r s).state.buses = s.buses ∧ (dressRequestBlock h r s).state.ports = s.ports ∧
      (dressRequestBlock h r s).state.attention = s.attention := by
  unfold dressRequestBlock
  (repeat' split) <;> simp

@[simp] theorem queryRobotBlock_frame (h : Hdr) (r : Nat) (s : State) :
    (queryRobotBlock h r s).state.pending = s.pending ∧ (queryRobotBlock h r s).state.due = s.due ∧
      (queryRobotBlock h r s).state.resetInput = s.resetInput ∧ (queryRobotBlock h r s).state.mode = s.mode ∧
      (queryRobotBlock h r s).state.layout = s.layout ∧ (queryRobotBlock h r s).state.ring = s.ring ∧
      (queryRobotBlock h r s).state.styles = s.styles ∧ (queryRobotBlock h r s).state.sets = s.sets ∧
      (queryRobotBlock h r s).state.bodies = s.bodies ∧ (queryRobotBlock h r s).state.nextKey = s.nextKey ∧
      (queryRobotBlock h r s).state.lineList = s.lineList ∧ (queryRobotBlock h r s).state.stations = s.stations ∧
      (queryRobotBlock h r s).state.lines = s.lines ∧ (queryRobotBlock h r s).state.library = s.library ∧
      (queryRobotBlock h r s).state.schedules = s.schedules ∧ (queryRobotBlock h r s).state.curves = s.curves ∧
      (queryRobotBlock h r s).state.robots = s.robots ∧ (queryRobotBlock h r s).state.staging = s.staging ∧
      (queryRobotBlock h r s).state.pend = s.pend ∧ (queryRobotBlock h r s).state.buses = s.buses ∧
      (queryRobotBlock h r s).state.ports = s.ports ∧ (queryRobotBlock h r s).state.attention = s.attention := by
  unfold queryRobotBlock
  (repeat' split) <;> simp

@[simp] theorem layoutWriteBlock_frame (h : Hdr) (records : List RawRecord) (s : State) :
    (layoutWriteBlock h records s).state.pending = s.pending ∧ (layoutWriteBlock h records s).state.resetInput = s.resetInput ∧
      (layoutWriteBlock h records s).state.mode = s.mode ∧ (layoutWriteBlock h records s).state.nextKey = s.nextKey ∧
      (layoutWriteBlock h records s).state.lineList = s.lineList ∧ (layoutWriteBlock h records s).state.lines = s.lines ∧
      (layoutWriteBlock h records s).state.schedules = s.schedules ∧ (layoutWriteBlock h records s).state.curves = s.curves := by
  unfold layoutWriteBlock
  (repeat' split) <;> simp

@[simp] theorem startBlock_frame (h : Hdr) (s : State) :
    (startBlock h s).state.pending = s.pending ∧ (startBlock h s).state.resetInput = s.resetInput ∧ (startBlock h s).state.layout = s.layout ∧
      (startBlock h s).state.ring = s.ring ∧ (startBlock h s).state.styles = s.styles ∧ (startBlock h s).state.sets = s.sets ∧
      (startBlock h s).state.bodies = s.bodies ∧ (startBlock h s).state.nextKey = s.nextKey ∧ (startBlock h s).state.lineList = s.lineList ∧
      (startBlock h s).state.lines = s.lines ∧ (startBlock h s).state.schedules = s.schedules ∧ (startBlock h s).state.curves = s.curves ∧
      (startBlock h s).state.pend = s.pend ∧ (startBlock h s).state.buses = s.buses ∧ (startBlock h s).state.ports = s.ports := by
  unfold startBlock
  (repeat' split) <;> simp

@[simp] theorem stopBlock_frame (h : Hdr) (s : State) :
    (stopBlock h s).state.pending = s.pending ∧ (stopBlock h s).state.due = s.due ∧ (stopBlock h s).state.resetInput = s.resetInput ∧
      (stopBlock h s).state.layout = s.layout ∧ (stopBlock h s).state.ring = s.ring ∧ (stopBlock h s).state.styles = s.styles ∧
      (stopBlock h s).state.sets = s.sets ∧ (stopBlock h s).state.bodies = s.bodies ∧ (stopBlock h s).state.nextKey = s.nextKey ∧
      (stopBlock h s).state.lineList = s.lineList ∧ (stopBlock h s).state.stations = s.stations ∧ (stopBlock h s).state.library = s.library ∧
      (stopBlock h s).state.schedules = s.schedules ∧ (stopBlock h s).state.curves = s.curves ∧ (stopBlock h s).state.robots = s.robots ∧
      (stopBlock h s).state.staging = s.staging ∧ (stopBlock h s).state.pend = s.pend ∧ (stopBlock h s).state.buses = s.buses ∧
      (stopBlock h s).state.ports = s.ports ∧ (stopBlock h s).state.attention = s.attention := by
  unfold stopBlock
  (repeat' split) <;> simp

@[simp] theorem trackResetBlock_frame (h : Hdr) (s : State) :
    (trackResetBlock h s).state.pending = s.pending ∧ (trackResetBlock h s).state.resetInput = s.resetInput ∧ (trackResetBlock h s).state.mode = s.mode ∧
      (trackResetBlock h s).state.layout = s.layout ∧ (trackResetBlock h s).state.styles = s.styles ∧ (trackResetBlock h s).state.nextKey = s.nextKey ∧
      (trackResetBlock h s).state.schedules = s.schedules ∧ (trackResetBlock h s).state.curves = s.curves ∧ (trackResetBlock h s).state.buses = s.buses ∧
      (trackResetBlock h s).state.ports = s.ports := by
  unfold trackResetBlock
  (repeat' split) <;> simp

end Machine
end Sys2Proof
end

