-- ==== Sys2Proof/Tests/Slice0.lean ====
section
/-!
SUPPORT. Tests of the model on small states: the checks of `wellFormed`, the worked examples of the manual, a few single steps, and
for every statement with hypotheses a state and operands that meet them.
-/
-- One theorem after the other: checked in parallel, these use more threads than the memory limit of a build allows.
set_option Elab.async false

namespace Sys2Proof
namespace Machine
namespace Tests

/-! ### Small states -/

/-- A port with all three roles. -/
def allRoles : Roles := ⟨true, true, true⟩

/-- A request on port 0 whose length agrees. -/
def h0 : Hdr := ⟨0, 1, true⟩

/-- Power-on with every strap fitted and every line LOW. -/
def base : State := State.powerOn ⟨allRoles, allRoles, allRoles, allRoles⟩ 0

/-- A line of two stations, robot 0 at the first and robot 1 at the second, on one bus. -/
def lineLayout : Layout :=
  { Layout.default with
    line := { LineRec.default with stations := 2, ringLength := 64, lowMark := 1, lead := 2, depth := 2 }
    robots := tset (tset (.replicate 32 .default) 0 ⟨true, 0, 3, 0, 4⟩) 1 ⟨true, 0, 5, 1, 2⟩ }

/-- Program 3 READY with two points in block 0; program 4 LOADING for port 0, one of its three points in block 1. -/
def lineLibrary : Library where
  progs := tset (tset (.replicate 512 ⟨.empty, 0⟩) 3 ⟨.ready 1 ⟨2, 0xABCD, 2, [0], [0]⟩, 2⟩) 4
    ⟨.loading 0 ⟨3, 0x1234, 1, [0], [1]⟩, 0⟩
  blocks := tset (tset (.replicate 512 ⟨none, []⟩) 0 ⟨some 3, [⟨11, 100, 0, true, false⟩, ⟨12, 200, 0, false, true⟩]⟩) 1
    ⟨some 4, [⟨21, 300, 0, false, false⟩]⟩
  stamp := 2

/-- A schedule in every range, under stepper curve 0. -/
def sched0 : SchedFields := ⟨9500, 300, 2400, some 0, 10, 20, 5⟩

/-- The line in RUN with an empty Body Table: two entries in the ring, style 33 bound to set 0, which names program 3 for both
robots, robot 0 ONLINE with program 3 VALID in slot 1. -/
def run0 : State :=
  { base with
    mode := .run
    layout := lineLayout
    ring := { Ring.reset with
      cells := tset (tset (.replicate 256 ⟨0, 0, 0, 0, 0⟩) 0 ⟨0, 20, 2, 1, 7⟩) 1 ⟨1, 21, 2, 1, 7⟩
      write := 2
      nextPsn := 2 }
    styles := tset (.replicate 256 ⟨.unknown, none⟩) 33 ⟨.weld 0, none⟩
    sets := tset (.replicate 128 ⟨none, 0⟩) 0 ⟨some [⟨0, 3, 0, 0, -20, true⟩, ⟨1, 3, 0, 0, 0, true⟩], 1⟩
    library := lineLibrary
    schedules := tset (.replicate 64 none) 0 (some sched0)
    curves := tset (.replicate 8 none) 0 (some [⟨100, 50⟩, ⟨200, 80⟩])
    robots := tset (.replicate 32 .reset) 0
      { Robot.reset with
        online := true, wear := 150, lastDress := some 1, uses := 9
        slots := tset (.replicate 8 ⟨.unknown, 0⟩) 1 ⟨.valid 3 1, 4⟩ } }

/-- A WELD body bound to set 0, in a state. -/
def body (st : BodyState) : Body :=
  ⟨0, 100, 7, 2, 1, 7, 33, .weld 0, false, st, .replicate 16 .pending, .replicate 32 none, none, 0, false, 0⟩

/-- The line with one body on it. -/
def run1 (st : BodyState) : State :=
  { run0 with bodies := [body st], nextKey := 1, lineList := [0] }

/-- Station `i` records the body of `run1`, in a state, with a work list. -/
def atStation (i : Nat) (st : StationState) (work : Option (List WorkItem)) : State :=
  (run1 (.onLine (.atStation i))).modStation i fun x =>
    { x with state := st, body := some 0, work := work, running := true, watch := 12 }

/-- A station with another arrival source in force. -/
def sourced (i : Nat) (source : Source) (s : State) : State := s.modStation i fun x => { x with source := source }

/-- A work list on which robot 0 is OWED. -/
def owed0 : Option (List WorkItem) := some [⟨0, .owed, false⟩]

/-- Robot 0 with every slot EMPTY. -/
def emptySlots (s : State) : State := s.modRobot 0 fun x => { x with slots := .replicate 8 ⟨.empty, 0⟩ }

/-- Port 0 with an error counter. -/
def erring (errors : Nat) (degraded : Bool) (s : State) : State :=
  s.modPort 0 fun x => { x with errors := errors, degraded := degraded }

/-- Port 0 with a reply outstanding and perhaps a frame held. -/
def replying (held : Option Instr) (s : State) : State :=
  s.modPort 0 fun x => { x with reply := some ⟨0x01, 9, .done, false, .nothing⟩, held := held }

/-- Port `p` sends its reply. -/
def sendingAt (p : Nat) (s : State) : State :=
  s.modPort p fun x => { x with reply := some ⟨0x01, 9, .done, false, .nothing⟩, sending := true }

/-- A layout with a change to its LINE record. -/
def lined (f : LineRec → LineRec) (s : State) : State := { s with layout := { s.layout with line := f s.layout.line } }

/-- Robot 0 loading program 3 into slot 2, at point `next`. -/
def loading0 (next : Nat) (s : State) : State :=
  s.modStage 0 fun x => { x with jobs := [⟨3, 1, 0, 0, true⟩], load := some ⟨4, 2, 3, 1, 2, .streaming, next⟩, seq := 4 }

/-- Both robots at station 0. -/
def bothAtStation0 (s : State) : State :=
  { s with layout := { s.layout with robots := tset s.layout.robots 1 ⟨true, 0, 5, 0, 2⟩ } }

/-- The state a command answers meets a condition. -/
def nextOf (o : Outcome) (p : State → Prop) [DecidablePred p] : Bool :=
  match o with
  | .next t => decide (p t)
  | _ => false

/-- Robot 0 in a motion state. -/
def inMotion (m : Motion) (s : State) : State := s.modRobot 0 fun x => { x with motion := m }

/-- The selection of slot 1 for the body of `run1`. -/
def sel0 : Selection := ⟨1, 100, 7, 0, 0⟩

/-- The SELECT of that selection. -/
def select0 : SelectFrame := ⟨1, 7, 100, 1, false, false, []⟩

/-- A transaction of robot 0 on bus 0. -/
def onBus (cls : TxClass) (req : DropRequest) (sendings : Nat) : OnBus := ⟨0, 3, ⟨cls, req, 20, 2⟩, sendings, 0⟩

/-- Bus 0 carries a transaction of robot 0. -/
def carrying (cls : TxClass) (req : DropRequest) (s : State) : State :=
  s.modBus 0 fun x => { x with cur := some (onBus cls req 1) }

/-! ### WellFormed: each check refuses an ill-formed term -/

theorem test_wellFormed_refuses_numbers_beyond_a_byte :
    ∀ i ∈ ([.queryStation h0 256, .queryRobot h0 256, .querySet h0 256, .arrive h0 256 7, .depart h0 256, .reinsert h0 7 256,
      .hold h0 256, .release h0 256, .clearStation h0 256, .robotEnable h0 256, .robotDisable h0 256, .dressRequest h0 256,
      .setSense h0 256 none, .schedWriteDefine h0 256 sched0, .schedWriteClear h0 256 true, .stepperWrite h0 256 [],
      .setWrite h0 256 [], .setDelete h0 256, .aborted 0 3 256 0 0, .aborted 0 3 0 256 0, .loadAck 0 3 256,
      .loadCheckReply 0 3 256 0] : List Instr), i.wellFormed = false := by decide +kernel

theorem test_wellFormed_refuses_numbers_beyond_a_word :
    ∀ i ∈ ([.queryProgram h0 65536 none, .queryStyle h0 65536, .progOpen h0 65536 1 0, .progOpen h0 0 65536 0,
      .progData h0 65536 0 [], .progData h0 0 65536 [], .progClose h0 65536, .progDelete h0 65536, .styleWrite h0 65536 none 0,
      .styleWriteEffectivePsn h0 65536 none 0 0, .styleCancel h0 65536, .aborted 0 3 0 0 65536] : List Instr),
      i.wellFormed = false := by decide +kernel

theorem test_wellFormed_refuses_payloads_and_records_no_frame_carries :
    ∀ i ∈ ([.seqAppend h0 (.replicate 86 default), .progData h0 0 0 (.replicate 85 default), .setWrite h0 0 (.replicate 52 default),
      .setWrite h0 0 [⟨256, true, true, 0, 0, 0, 0⟩], .setWrite h0 0 [⟨0, true, true, 65536, 0, 0, 0⟩],
      .setWrite h0 0 [⟨0, true, true, 0, 0, 0, -32769⟩], .setWrite h0 0 [⟨0, true, true, 0, 0, 0, 32768⟩],
      .slotReport 0 3 (.replicate 129 default), .statusReply 0 3 ⟨256, 0, 0, 0, 0, 0, 0⟩, .statusReply 0 3 ⟨0, 256, 0, 0, 0, 0, 0⟩,
      .statusReply 0 3 ⟨0, 0, 0, 65536, 0, 0, 0⟩, .statusReply 0 3 ⟨0, 0, 0, 0, 256, 0, 0⟩,
      .statusReply 0 3 ⟨0, 0, 0, 0, 0, 256, 0⟩, .statusReply 0 3 ⟨0, 0, 0, 0, 0, 0, 256⟩] : List Instr),
      i.wellFormed = false := by decide +kernel

theorem test_wellFormed_refuses_numbers_the_module_does_not_have :
    ∀ i ∈ ([.unknownRequestKind h0 0x10, .acceptedChange 16 .low, .confirmWindowExpiry 16, .departureEchoExpiry 16, .overrun 16,
      .stagingRecomputation 32, .selectionAttempt 32, .pollTimerExpiry 32, .busyWaitExpiry 32, .ack 0 8, .nakSlot 0 8,
      .nakBusy 0 8, .statusReply 0 8 default, .aborted 0 8 0 0 0, .slotReport 0 8 [], .loadAck 0 8 0,
      .loadCheckReply 0 8 0 0] : List Instr), i.wellFormed = false := by decide +kernel

theorem test_wellFormed_accepts_the_last_of_each_range :
    ∀ i ∈ ([.queryStation h0 255, .queryProgram h0 65535 none, .seqAppend h0 (.replicate 85 default),
      .setWrite h0 255 (.replicate 51 ⟨255, true, true, 65535, 0, 0, -32768⟩), .slotReport 0 7 (.replicate 128 default),
      .overrun 15, .selectionAttempt 31, .unknownRequestKind h0 0x7F] : List Instr), i.wellFormed = true := by decide +kernel

/-! ### Worked examples of the manual -/

/-- R86 and R189: the bytes 31h to 39h give 29B1h. -/
theorem test_crc_of_the_nine_digits :
    crc16 [0x31, 0x32, 0x33, 0x34, 0x35, 0x36, 0x37, 0x38, 0x39] = 0x29B1#16 := by decide +kernel

/-- The table of R16. -/
theorem test_style_indices :
    styleIndex 4 4 2 1 = 33 ∧ styleIndex 4 4 18 17 = 33 ∧ styleIndex 4 4 3 0 = 48 ∧ styleIndex 4 4 7 2 = 114 ∧
      styleIndex 4 4 255 255 = 255 := by decide

/-- Curves 2 and 5 of 6.6. -/
def curve2 : List CurveStep := [⟨1000, 30⟩, ⟨2000, 80⟩, ⟨3000, 150⟩]
def curve5 : List CurveStep := [⟨500, 120⟩, ⟨1500, 40⟩]

/-- Stage 1 in the four cases of 6.6. -/
theorem test_wear_increments :
    wearIncrement (some curve2) 1500 = (55, false) ∧ wearIncrement (some curve2) 350 = (10, false) ∧
      wearIncrement (some curve2) 3200 = (150, true) ∧ wearIncrement (some curve5) 1234 = (62, false) := by decide

/-- Stages 2 to 5 in the four cases of 6.6, under the modes the tables name. -/
theorem test_row_currents :
    scheduleRow .nearestEven 12 ⟨9450, 800, 1100, some 2, 180, 220, 100⟩ 55 (-12) = ⟨12, 986, false, 180, 220, 100⟩ ∧
      (scheduleRow .down 12 ⟨9450, 800, 1100, some 2, 180, 220, 100⟩ 55 (-12)).current = 985 ∧
      [Rounding.nearestEven, .halfUp, .down, .up].map
        (fun m => (scheduleRow m 7 ⟨8500, 700, 1000, some 2, 150, 160, 80⟩ 10 0).current) = [858, 859, 858, 859] ∧
      scheduleRow .nearestEven 12 ⟨9450, 800, 1100, some 2, 180, 220, 100⟩ 150 200 = ⟨12, 1100, true, 180, 220, 100⟩ ∧
      scheduleRow .up 41 ⟨3600, 350, 600, some 5, 1, 1, 1⟩ 62 (-200) = ⟨41, 350, true, 1, 1, 1⟩ := by decide

/-- Set 6 of 2.6. -/
def set6 : List DispatchEntry :=
  [⟨4, 120, 1, 1, 0, true⟩, ⟨4, 121, 0, 0, 0, true⟩, ⟨5, 130, 6, 6, -12, true⟩, ⟨5, 131, 2, 6, 0, false⟩,
    ⟨5, 132, 2, 2, 15, true⟩, ⟨6, 140, 8, 8, 0, true⟩]

/-- The table of 2.6: bodies 5101 to 5104, robots 4 to 7. -/
theorem test_resolution_of_four_bodies :
    ([1, 6, 2, 0] : List Word).map (fun o => [4, 5, 6, 7].map fun r =>
      (({ base with sets := tset base.sets 6 ⟨some set6, 4⟩ }).resolve
        { body .admitted with option := o, binding := .weld 6 } r).map fun e : DispatchEntry => (e.program, e.trim)) =
      [[some (120, 0), none, none, none], [some (121, 0), some (130, -12), none, none],
        [some (121, 0), some (132, 15), none, none], [some (121, 0), none, none, none]] := by decide +kernel

/-- 1.7 from START on: the attempt admits 5011 bound to set 5, and owes the next attempt ahead of all else (log entry 1). -/
theorem test_admission_with_a_changeover :
    nextOf (exec .admissionAttempt { run0 with
      ring := { Ring.reset with
        cells := tset (tset (tset (tset (.replicate 256 ⟨0, 0, 0, 0, 0⟩) 10 ⟨100, 5011, 2, 1, 0⟩) 11 ⟨101, 5012, 3, 0, 0⟩) 12
          ⟨102, 5013, 18, 17, 0⟩) 13 ⟨103, 5014, 7, 2, 0⟩
        read := 10, write := 14, nextPsn := 104 }
      layout := { lineLayout with line := { lineLayout.line with lowMark := 2 } }
      styles := tset (tset (.replicate 256 ⟨.unknown, none⟩) 33 ⟨.weld 5, some ⟨.weld 6, 102⟩⟩) 48 ⟨.pass, none⟩ }) (fun t =>
      t.bodies.map (fun b => (b.tag, b.psn, b.binding)) = [(5011, 100, .weld 5)] ∧ t.ringCount = 3 ∧
        t.due.head? = some .admission ∧ (t.style 33).pending ≠ none) := by decide +kernel

/-- 4.6, a line report left unconfirmed: the expiry faults the station with cause UNCONFIRMED. -/
theorem test_line_report_left_unconfirmed :
    nextOf (exec (.confirmWindowExpiry 1) ((sourced 1 .both run0).modPresence 1 fun x => { x with window := .openLine }))
      (fun t => (t.station 1).state = .fault ∧ (t.station 1).cause = some .unconfirmed ∧
        (t.presence 1).window = .closed ∧ (t.attn 0).latch .stationFault = some ⟨1, 1⟩) := by decide +kernel

/-- 4.6, a late DEPART: with the echo OWED-FRAME the DEPART is discarded and answered DONE, the body stays, the echo ends. -/
theorem test_late_depart_is_discarded :
    nextOf (exec (.depart h0 0) ((sourced 0 .both (atStation 0 .arrived none)).modPresence 0 fun x => { x with echo := .owedFrame }))
      (fun t => (t.station 0).body = some 0 ∧ (t.presence 0).echo = .none ∧
        ((t.port 0).reply.map (·.code)) = some .done) := by decide +kernel

/-- 11.7: the frame error that brings E to the threshold sets DEGRADED and raises LINK DEGRADED with the port as subject. -/
theorem test_port_goes_degraded :
    nextOf (exec (.frameError 1 .badCheck) (run0.modPort 1 fun x => { x with errors := 30 }))
      (fun t => (t.port 1).errors = 31 ∧ (t.port 1).degraded = true ∧ (t.attn 0).latch .linkDegraded = some ⟨1, 1⟩) := by
  decide +kernel

/-- R30: 34 entries of which the one at place 5, before the 33rd, is faulty; the position for 33 that are not is open (log entry
4). -/
theorem test_set_write_of_too_many_entries :
    entriesFault (.replicate 5 default ++ [⟨32, true, false, 0, 0, 0, 0⟩] ++ .replicate 28 default) = some 5 ∧
      entriesFault (.replicate 33 default) = some (Config.countFaultPosition (.replicate 33 default)) := ⟨by decide, rfl⟩

/-- R192: the replies ACK and NAK with reason SLOT. -/
theorem test_bus_frames :
    busCommand 2 (dropFrame (replyAddress 3) 0x82#8 []) = some (.ack 2 3) ∧
      busCommand 2 (dropFrame (replyAddress 3) 0x83#8 [1]) = some (.nakSlot 2 3) := by decide +kernel

/-- R171 and R190: the bytes of a STATUS request, behind a byte that is no sync byte, open a frame and end as a good one. -/
theorem test_line_bytes :
    hear .hunting ([0x5A] ++ lineFrame 0x01 9 []) = (.hunting, [.opening, .good 0x01 9 []]) ∧
      lineCommand 0 0x01 9 [] = some (.status ⟨0, 9, true⟩) := by decide +kernel

/-- R181 and R190: SET ATTENTION MASK of one byte, of none and of two, and the reply that carries the mask as stored. -/
theorem test_attention_mask_bytes :
    lineCommand 1 0x09 4 [0xC2] = some (.setAttentionMask ⟨1, 4, true⟩ 0xC2) ∧
      lineCommand 1 0x09 4 [] = some (.setAttentionMask ⟨1, 4, false⟩ 0) ∧
      lineCommand 1 0x09 4 [1, 2] = some (.setAttentionMask ⟨1, 4, false⟩ 0) ∧
      (⟨0x09, 4, .done, true, .mask 66⟩ : Reply).frame = some (lineFrame 0x09 4 [0, 1, 0x42]) := by decide +kernel

/-- 4.6: the millisecond whose sample opens the window OPEN-LINE leaves its confirm count at 0. -/
theorem test_window_opens_at_zero :
    nextOf (step ((sourced 1 .both run0).modPresence 1 fun x => { x with pin := .high, filter := 250 })) (fun t =>
      (t.presence 1).window = .openLine ∧ (t.presence 1).confirm = 0 ∧ (t.presence 1).accepted = .high) := by decide +kernel

/-- A step with nothing waiting takes the oldest event owed (log entry 1). -/
theorem test_idle_step_takes_the_event_owed :
    nextOf (step { run0 with due := [.admission] }) (fun t => t.bodies.map (·.tag) = [20]) := by decide +kernel

/-- No word spells a command. -/
theorem test_no_word_spells_a_command (nbits w : Nat) : decodeTableWord nbits w = none := rfl

/-! ### Witnesses: for every statement with hypotheses, states and operands that meet them -/

/-- A port with the straps of `base` takes a request on port 0. -/
theorem takes_of_base {s : State} (g : Group) (hp : s.ports = base.ports) (hr : s.resetInput = false) : s.takes h0 g := by
  have h : s.port 0 = base.port 0 := by simp [State.port, hp]
  refine ⟨⟨hr, ?_, ?_⟩, ?_, rfl⟩
  · show (s.port 0).rx ≠ _
    rw [h]; decide +kernel
  · show (s.port 0).reply = none
    rw [h]; decide +kernel
  · cases g
    · trivial
    · show (s.port 0).roles.sequence = true ∧ ((s.port 0).degraded = true → (s.port 0).errors ≤ 1)
      rw [h]; decide +kernel
    · show (s.port 0).roles.zone = true
      rw [h]; decide +kernel
    · show (s.port 0).roles.library = true ∧ ((s.port 0).degraded = true → (s.port 0).errors ≤ 1)
      rw [h]; decide +kernel

/-- A request on port 1 whose length agrees. -/
def h1 : Hdr := ⟨1, 1, true⟩

/-- A port with the straps of `base` takes a request on port 1. -/
theorem takes_of_base_port1 {s : State} (g : Group) (hp : s.ports = base.ports) (hr : s.resetInput = false) : s.takes h1 g := by
  have h : s.port 1 = base.port 1 := by simp [State.port, hp]
  refine ⟨⟨hr, ?_, ?_⟩, ?_, rfl⟩
  · show (s.port 1).rx ≠ _
    rw [h]; decide +kernel
  · show (s.port 1).reply = none
    rw [h]; decide +kernel
  · cases g
    · trivial
    · show (s.port 1).roles.sequence = true ∧ ((s.port 1).degraded = true → (s.port 1).errors ≤ 1)
      rw [h]; decide +kernel
    · show (s.port 1).roles.zone = true
      rw [h]; decide +kernel
    · show (s.port 1).roles.library = true ∧ ((s.port 1).degraded = true → (s.port 1).errors ≤ 1)
      rw [h]; decide +kernel

/-- What holds of every entry of a table, and of what lies beyond it, holds of every read. -/
theorem forall_tget {α : Type} {n : Nat} {d : α} {v : Vector α n} {p : Nat → α → Prop}
    (h : ∀ i, i < n → p i (tget d v i)) (hd : ∀ i, n ≤ i → p i d) (i : Nat) : p i (tget d v i) := by
  by_cases hi : i < n
  · exact h i hi
  · rw [tget_of_ge d v i (Nat.not_lt.mp hi)]; exact hd i (Nat.not_lt.mp hi)

/-- The robot contexts of `lineLayout`: two in the layout, the others at their defaults. -/
theorem run0_robotPlace (r : Nat) : run0.robotPlace r =
    if r = 0 then ⟨true, 0, 3, 0, 4⟩ else if r = 1 then ⟨true, 0, 5, 1, 2⟩ else .default :=
  forall_tget (d := RobotRec.default) (v := run0.layout.robots)
    (p := fun r x => x = if r = 0 then ⟨true, 0, 3, 0, 4⟩ else if r = 1 then ⟨true, 0, 5, 1, 2⟩ else .default)
    (by decide +kernel) (by intro i hi; rw [if_neg (by omega), if_neg (by omega)]) r

/-- The robots in the layout of `run0`. -/
theorem run0_place (r : Nat) : run0.place r =
    if r = 0 then some ⟨true, 0, 3, 0, 4⟩ else if r = 1 then some ⟨true, 0, 5, 1, 2⟩ else none := by
  have h := run0_robotPlace r
  unfold State.robotPlace at h
  simp only [State.place, Layout.robotRec, h]
  split
  · rfl
  · split <;> rfl

/-- Every robot of `lineLayout` has a station of the line, a drop address below 8, a slot count in range, and an address of its own. -/
theorem run0_places :
    (∀ r p, run0.place r = some p → p.station < 2 ∧ p.drop < 8 ∧ 2 ≤ p.slots ∧ p.slots ≤ 8) ∧
      ∀ r q p p', run0.place r = some p → run0.place q = some p' → r ≠ q → p.bus ≠ p'.bus ∨ p.drop ≠ p'.drop := by
  have c : ∀ r p, run0.place r = some p → r = 0 ∧ p = ⟨true, 0, 3, 0, 4⟩ ∨ r = 1 ∧ p = ⟨true, 0, 5, 1, 2⟩ := by
    intro r p hp
    rw [run0_place] at hp
    split at hp
    · exact .inl ⟨‹_›, (Option.some.inj hp).symm⟩
    · split at hp
      · exact .inr ⟨‹_›, (Option.some.inj hp).symm⟩
      · cases hp
  refine ⟨fun r p hp => ?_, fun r q p p' hp hq hne => ?_⟩
  · rcases c r p hp with ⟨-, rfl⟩ | ⟨-, rfl⟩ <;> decide
  · rcases c r p hp with ⟨rfl, rfl⟩ | ⟨rfl, rfl⟩ <;> rcases c q p' hq with ⟨rfl, rfl⟩ | ⟨rfl, rfl⟩ <;>
      first
      | exact absurd rfl hne
      | decide

/-- A table of one value reads as that value, which is also what lies beyond it. -/
theorem tget_replicate_self {α : Type} {n : Nat} (d : α) (i : Nat) : tget d (.replicate n d) i = d :=
  forall_tget (p := fun _ x => x = d) (fun i hi => tget_replicate d i d hi) (fun _ _ => rfl) i

/-- The programs of `run0`. -/
theorem run0_prog (n : Nat) : run0.prog n = if n = 3 then ⟨.ready 1 ⟨2, 0xABCD, 2, [0], [0]⟩, 2⟩
    else if n = 4 then ⟨.loading 0 ⟨3, 0x1234, 1, [0], [1]⟩, 0⟩ else ⟨.empty, 0⟩ := by
  simp only [State.prog, run0, lineLibrary, tget_tset, tget_replicate_self]
  by_cases h3 : n = 3
  · simp [h3]
  · by_cases h4 : n = 4 <;> simp [h3, h4]

/-- The holders of the blocks of `run0`. -/
theorem run0_holder (b : Nat) : (run0.block b).holder = if b = 0 then some 3 else if b = 1 then some 4 else none := by
  simp only [State.block, run0, lineLibrary, tget_tset, tget_replicate_self]
  by_cases h0 : b = 0
  · simp [h0]
  · by_cases h1 : b = 1 <;> simp [h0, h1]

/-- The free blocks of `run0`. -/
theorem run0_freeBlocks : run0.freeBlocks = (List.range 512).filter fun b => b != 0 && b != 1 := by
  unfold State.freeBlocks
  congr 1
  funext b
  rw [run0_holder]
  by_cases h0 : b = 0
  · simp [h0]
  · by_cases h1 : b = 1 <;> simp [h0, h1]

/-- The library of `run0` is accounted for. -/
theorem run0_libraryInv : run0.libraryInv := by
  have hp := run0_prog
  have hb := run0_holder
  have hh : ∀ n d, run0.holdsProgram n d ↔
      n = 3 ∧ d = ⟨2, 0xABCD, 2, [0], [0]⟩ ∨ n = 4 ∧ d = ⟨3, 0x1234, 1, [0], [1]⟩ := by
    intro n d
    unfold State.holdsProgram
    rw [hp]
    by_cases h3 : n = 3
    · simp [h3, eq_comm]
    · by_cases h4 : n = 4
      · simp [h4, eq_comm]
      · simp [h3, h4]
  refine ⟨?_, ?_, ?_, ?_⟩
  · intro n d h
    rcases (hh n d).mp h with ⟨rfl, rfl⟩ | ⟨rfl, rfl⟩
    · refine ⟨by decide, by decide, by decide, by decide, by decide, ?_, ?_⟩
      · intro b hm
        obtain rfl : b = 0 := by simpa using hm
        exact ⟨by decide, by decide +kernel⟩
      · intro i b hm
        obtain ⟨rfl, rfl⟩ : i = 0 ∧ 0 = b := by
          cases i <;> simp_all
        decide +kernel
    · refine ⟨by decide, by decide, by decide, by decide, by decide, ?_, ?_⟩
      · intro b hm
        obtain rfl : b = 1 := by simpa using hm
        exact ⟨by decide, by decide +kernel⟩
      · intro i b hm
        obtain ⟨rfl, rfl⟩ : i = 0 ∧ 1 = b := by
          cases i <;> simp_all
        decide +kernel
  · intro n stamp d h
    rcases (hh n d).mp (.inr ⟨stamp, h⟩) with ⟨rfl, rfl⟩ | ⟨rfl, rfl⟩
    · rfl
    · rw [hp] at h; simp at h
  · intro b n h
    rw [hb] at h
    split at h
    · cases h
      exact ⟨_, (hh _ _).mpr (.inl ⟨rfl, rfl⟩), by simp [*]⟩
    · split at h <;> cases h
      exact ⟨_, (hh _ _).mpr (.inr ⟨rfl, rfl⟩), by simp [*]⟩
  · have : ∀ m p d, (run0.prog m).state = .loading p d → m = 4 := by
      intro m p d h
      rcases (hh m d).mp (.inl ⟨p, h⟩) with ⟨rfl, rfl⟩ | ⟨rfl, rfl⟩
      · rw [hp] at h; simp at h
      · rfl
    intro m n p d d' h h'
    rw [this m p d h, this n p d' h']

/-- The transactions of a state without any stand in their class. -/
theorem pendInv_of_empty {s : State} (hp : s.pend = .replicate 32 .reset) (hs : s.staging = .replicate 32 .reset) :
    s.pendInv := by
  have h1 : ∀ r, s.pendOf r = .reset := by
    unfold State.pendOf
    rw [hp]
    exact tget_replicate_self _
  have h2 : ∀ r, s.stage r = .reset := by
    unfold State.stage
    rw [hs]
    exact tget_replicate_self _
  intro r
  rw [h1, h2]
  simp [Pend.reset, Staging.reset]

/-- No robot of `run0` has a job, a load or a channel. -/
theorem run0_stage (r : Nat) : run0.stage r = .reset :=
  tget_replicate_self _ r

theorem witness_StepRunsFrontCommand :
    ({ run0 with pending := [.status h0, .resetAssert] } : State).pending = .status h0 :: [.resetAssert] := rfl

theorem witness_RefusedRequestChangesOnlyItsPort :
    requestOf (.depart h0 9) = some (h0, 0x21, .zone) ∧ run0.listens h0.port :=
  ⟨rfl, (takes_of_base .zone rfl rfl).1⟩

theorem witness_RequestIsServedAtOnceOrHeld :
    requestOf (.status h0) = some (h0, 0x01, .query) ∧ run0.listens h0.port ∧
      ((replying none run0).resetInput = false ∧ ((replying none run0).port 0).rx ≠ .skipping ∧
        ((replying none run0).port 0).reply ≠ none ∧ ((replying none run0).port 0).sending = false ∧
        ((replying none run0).port 0).held = none) ∧
      (((sendingAt 0 run0).port 0).reply ≠ none ∧ ((sendingAt 0 run0).port 0).sending = true) ∧
      (replying (some (.status h0)) run0).resetInput = false ∧ ((replying (some (.status h0)) run0).port 0).reply ≠ none ∧
        ((replying (some (.status h0)) run0).port 0).held = some (.status h0) :=
  ⟨rfl, (takes_of_base .query rfl rfl).1, by decide +kernel, by decide +kernel, by decide +kernel⟩

theorem witness_PortRefusesByKindRoleThenLink :
    (knownKind 0x77 = false ∧ run0.listens h0.port) ∧
      (requestOf (.hold h0 0) = some (h0, 0x25, .zone) ∧ State.reset.listens h0.port ∧
        (State.reset.port 0).roles.zone = false) ∧
      (requestOf (.seqSkip h0) = some (h0, 0x11, .sequence) ∧ (State.reset.port 0).roles.sequence = false) ∧
      (requestOf (.start h0) = some (h0, 0x3B, .library) ∧ (State.reset.port 0).roles.library = false) ∧
      (erring 2 true run0).listens h0.port ∧ ((erring 2 true run0).port 0).roles.sequence = true ∧
        ((erring 2 true run0).port 0).roles.library = true ∧ ((erring 2 true run0).port 0).degraded = true ∧
        2 ≤ ((erring 2 true run0).port 0).errors := by
  refine ⟨⟨by decide, (takes_of_base .zone rfl rfl).1⟩, ⟨rfl, ⟨rfl, ?_, ?_⟩, rfl⟩, ⟨rfl, rfl⟩, ⟨rfl, rfl⟩, ⟨rfl, ?_, ?_⟩, ?_⟩ <;>
    decide +kernel

theorem witness_FrameErrorCountsTowardDegraded :
    (run0.resetInput = false ∧ (run0.port 0).rx ≠ .skipping ∧ (run0.port 0).reply = none) ∧
      ((replying none run0).port 0).sending = false ∧
      ((erring 30 false run0).resetInput = false ∧ ((erring 30 false run0).port 0).rx ≠ .skipping ∧
        ((erring 30 false run0).port 0).errors + 1 = (erring 30 false run0).threshold 0) ∧
      ((run0.modPort 0 fun x => { x with rx := .receiving }).port 0).rx = .receiving := by decide +kernel

theorem witness_ReceiveStateFollowsTheLine :
    ((run0.modPort 0 fun x => { x with rx := .skipping }).port 0).rx = .skipping ∧ (run0.port 0).rx = .hunting ∧
      (run0.port 0).reply = none ∧ ((replying none run0).port 0).sending = false ∧
      (((replying (some (.status h0)) run0).modPort 0 fun x => { x with rx := .receiving }).port 0).rx = .receiving ∧
      (((replying (some (.status h0)) run0).modPort 0 fun x => { x with rx := .receiving }).port 0).held ≠ none ∧
      ((replying none run0).port 0).reply ≠ none ∧ ((replying none run0).port 0).held = none ∧
      (replying none run0).resetInput = false ∧ (replying none run0).pending = [] ∧
      (((sendingAt 0 run0).port 0).reply ≠ none ∧ ((sendingAt 0 run0).port 0).sending = true) ∧
      let s := (sendingAt 0 run0).modPort 3 fun x => { x with reply := some ⟨0x01, 9, .done, false, .nothing⟩ }
      s.pending = [] ∧ s.resetInput = false ∧ (s.port 3).reply ≠ none ∧ (s.port 3).sending = false ∧
        ∀ q, q < 3 → (s.port q).reply = none ∨ (s.port q).sending = true := by decide +kernel

theorem witness_PortResetActsOnItsPortAlone :
    run0.resetInput = false ∧ (∀ n d, (run0.prog n).state ≠ .loading 1 d) ∧
      (run0.prog 4).state = .loading 0 ⟨3, 0x1234, 1, [0], [1]⟩ ∧
      ∀ m d', (run0.prog m).state = .loading 0 d' → m = 4 := by
  have h : (run0.prog 4).state = .loading 0 ⟨3, 0x1234, 1, [0], [1]⟩ := by decide +kernel
  refine ⟨rfl, ?_, h, fun m d' hm => run0_libraryInv.2.2.2 m 4 0 d' _ hm h⟩
  intro n d hd
  rw [run0_prog] at hd
  split at hd
  · cases hd
  · split at hd <;> simp at hd

theorem witness_RaisedEventLatchesAtEnabledPorts :
    3 < 4 ∧ (run0.attn 3).latch .overrun = none ∧
      ((run0.raise .overrun 7).attn 3).latch .overrun = some ⟨1, 7⟩ ∧
      (∀ i, Kind.stationComplete.maskBit = some i → (run0.attn 3).mask.getLsbD i = true) := by decide +kernel

theorem witness_AttentionRequestsReadAndMask :
    run0.takes h0 .query ∧ (0x7F#8).getLsbD 7 = false ∧ (0x80#8).getLsbD 7 = true ∧
      run0.listens (⟨0, 1, false⟩ : Hdr).port ∧ (⟨0, 1, false⟩ : Hdr).lengthOk = false :=
  ⟨takes_of_base .query rfl rfl, by decide, by decide, (takes_of_base .query rfl rfl).1, rfl⟩

theorem witness_StatusReportsTheModule :
    run0.takes h0 .query ∧ run0.listens (⟨0, 1, false⟩ : Hdr).port ∧ (⟨0, 1, false⟩ : Hdr).lengthOk = false :=
  ⟨takes_of_base .query rfl rfl, (takes_of_base .query rfl rfl).1, rfl⟩

theorem witness_QueriesAnswerAndChangeNothing :
    ((run1 .admitted).takes h0 .query ∧ (run1 .admitted).bodies.filter (fun b => b.tag == 7) = [body .admitted] ∧
      (∀ b ∈ (run1 .admitted).bodies, b.tag ≠ 8) ∧ 1 < run0.stationCount ∧ run0.stationCount ≤ 2 ∧
      (run0.prog 3).state = .ready 1 ⟨2, 0xABCD, 2, [0], [0]⟩ ∧ (run0.prog 511).state = .empty ∧ 0 + 2 ≤ 2 ∧
      255 < activeStyles run0.line.m run0.line.n ∧ (run0.robot 31).motion = .idle) ∧
    (inMotion (.selecting sel0) run0).takes h0 .query ∧
      ((inMotion (.selecting sel0) run0).robot 0).motion = .selecting sel0 :=
  ⟨⟨takes_of_base .query rfl rfl, by decide +kernel⟩, takes_of_base .query rfl rfl, by decide +kernel⟩

/-- The ring of `run0` filled to its 63 entries. -/
def fullRing : State := { run0 with ring := { run0.ring with write := 63 } }

theorem witness_SeqAppendTakesOrRefusesItsEntries :
    (run0.takes h0 .sequence ∧ run0.ringInv ∧ run0.mode = .run ∧ run0.ring.loop = none ∧
      run0.ringCount + [⟨30, 2, 1, 7⟩, (⟨31, 0, 0, 0⟩ : SeqEntry)].length ≤ run0.line.ringLength - 1 ∧
      ([⟨30, 2, 1, 7⟩, ⟨31, 0, 0, 0⟩].map fun e : SeqEntry => e.tag).Nodup ∧
      ∀ e ∈ [⟨30, 2, 1, 7⟩, (⟨31, 0, 0, 0⟩ : SeqEntry)], (∀ x ∈ run0.ringEntries, x.tag ≠ e.tag) ∧
        ∀ b ∈ run0.bodies, b.tag ≠ e.tag) ∧
    (fullRing.takes h0 .sequence ∧ fullRing.mode = .run ∧ fullRing.ring.loop = none ∧
      fullRing.line.ringLength - 1 ≤ fullRing.ringCount) ∧
      run0.ringCount < run0.line.ringLength - 1 ∧ (∃ x ∈ run0.ringEntries, x.tag = 20) ∧
      ∃ b ∈ (run1 .admitted).bodies, b.tag = 7 :=
  ⟨⟨takes_of_base .sequence rfl rfl, by unfold State.ringInv; decide +kernel, by decide +kernel⟩,
    ⟨takes_of_base .sequence rfl rfl, by decide +kernel⟩, by decide +kernel⟩

/-- Loop mode on over the two entries of `run0`. -/
def looping : State := { run0 with ring := { run0.ring with loop := some ⟨0, 2⟩ } }

theorem witness_SeqSkipRemovesTheHead :
    run0.takes h0 .sequence ∧ run0.ringInv ∧ run0.ringEntries = ⟨0, 20, 2, 1, 7⟩ :: [⟨1, 21, 2, 1, 7⟩] ∧
      ({ run0 with ring := { run0.ring with read := 2 } } : State).ringInv ∧
      ({ run0 with ring := { run0.ring with read := 2 } } : State).ringEntries = [] ∧
      looping.takes h0 .sequence ∧ looping.mode = .run ∧ looping.ring.loop ≠ none :=
  ⟨takes_of_base .sequence rfl rfl, by unfold State.ringInv; decide +kernel, by decide +kernel,
    by unfold State.ringInv; decide +kernel, by decide +kernel, takes_of_base .sequence rfl rfl, by decide +kernel⟩

theorem witness_SeqLoopStartsAndEndsReplay :
    (run0.takes h0 .sequence ∧ run0.mode = .run ∧ run0.ring.loop = none ∧ run0.ringCount ≠ 0 ∧ run0.bodies = []) ∧
      looping.takes h0 .sequence ∧ looping.mode = .run ∧ looping.ring.loop = some ⟨0, 2⟩ ∧
      (run1 .admitted).bodies ≠ [] :=
  ⟨⟨takes_of_base .sequence rfl rfl, by decide +kernel⟩, takes_of_base .sequence rfl rfl, by decide +kernel⟩

theorem witness_AdmissionAttemptAdmitsTheHead :
    (run1 .admitted).ringInv ∧ (run1 .admitted).resetInput = false ∧ (run1 .admitted).mode = .run ∧
      (run1 .admitted).ring.loop = none ∧
      (run1 .admitted).ringEntries = ⟨0, 20, 2, 1, 7⟩ :: [⟨1, 21, 2, 1, 7⟩] ∧ (run1 .admitted).bodies.length < 48 ∧
      (run1 .admitted).admittedCount + 1 = (run1 .admitted).line.lead ∧
      33 = styleIndex (run1 .admitted).line.m (run1 .admitted).line.n 2 1 ∧
      ((run1 .admitted).style 33).pending = none ∧ ((run1 .admitted).style 33).current = .weld 0 :=
  ⟨by unfold State.ringInv; decide +kernel, by decide +kernel⟩

/-- Loop mode at its last entry, whose style is REJECT. -/
def loopEnd : State :=
  { looping with ring := { looping.ring with read := 1 }, styles := tset run0.styles 33 ⟨.reject, none⟩ }

theorem witness_AdmissionAttemptAdmitsTheHead_in_loop_mode :
    loopEnd.ringInv ∧ loopEnd.resetInput = false ∧ loopEnd.mode = .run ∧ loopEnd.ring.loop = some ⟨0, 2⟩ ∧
      loopEnd.ring.cells[loopEnd.ring.read]? = some ⟨1, 21, 2, 1, 7⟩ ∧ loopEnd.bodies.length < 48 ∧
      loopEnd.admittedCount < loopEnd.line.lead ∧ loopEnd.style 33 = ⟨.reject, none⟩ ∧
      33 = styleIndex loopEnd.line.m loopEnd.line.n 2 1 ∧
      (loopEnd.ring.read + 1) % loopEnd.line.ringLength = loopEnd.ring.write :=
  ⟨by unfold State.ringInv; decide +kernel, by decide +kernel⟩

/-- The head entry of `run0` with its style's entry given, and the stall indication. -/
def headStyled (e : StyleEntry) (stalled : Bool) : State :=
  { run0 with styles := tset run0.styles 33 e, ring := { run0.ring with stalled := stalled } }

theorem witness_AdmissionAttemptHoldsPromotesOrStaysClosed :
    ((headStyled ⟨.unknown, none⟩ false).mode = .run ∧ (headStyled ⟨.unknown, none⟩ false).ringCount ≠ 0 ∧
      (headStyled ⟨.unknown, none⟩ false).admittedCount < (headStyled ⟨.unknown, none⟩ false).line.lead ∧
      ((headStyled ⟨.unknown, none⟩ false).style (headStyled ⟨.unknown, none⟩ false).headStyle) = ⟨.unknown, none⟩ ∧
      (headStyled ⟨.unknown, none⟩ false).line.policy = .hold) ∧
    base.mode = .setup ∧
    (headStyled ⟨.weld 0, some ⟨.unknown, 0⟩⟩ true).headStyle = 33 ∧
    (headStyled ⟨.weld 0, some ⟨.unknown, 0⟩⟩ true).style 33 = ⟨.weld 0, some ⟨.unknown, 0⟩⟩ ∧
    ((headStyled ⟨.weld 0, some ⟨.unknown, 0⟩⟩ true).ringHead.psn - 0).toNat < 32768 ∧
    ((headStyled ⟨.weld 0, some ⟨.unknown, 32769⟩⟩ true).ringHead.psn - 32769).toNat < 32768 ∧
    (headStyled ⟨.weld 0, some ⟨.unknown, 0⟩⟩ true).ring.stalled = true := by decide +kernel

theorem witness_AdmissionAttemptHoldsPromotesOrStaysClosed_in_loop_mode :
    looping.mode = .run ∧ looping.ringCount ≠ 0 ∧ looping.ring.loop ≠ none ∧ looping.line.policy = .hold ∧
      looping.headStyle = 33 ∧ (looping.ringHead.psn - 1).toNat = 65535 ∧ (looping.ring.nextPsn - 1).toNat < 32768 ∧
      ({ looping with styles := tset run0.styles 33 ⟨.weld 0, some ⟨.unknown, 1⟩⟩ }).style 33 =
        ⟨.weld 0, some ⟨.unknown, 1⟩⟩ := by decide +kernel

/-- A pending part reached at the head of `run0`, and one not reached, each of which admits the head. -/
theorem witness_AdmissionAttemptAdmitsTheHead_with_a_pending_part :
    (headStyled ⟨.weld 0, some ⟨.reject, 0⟩⟩ false).ringInv ∧
      (headStyled ⟨.weld 0, some ⟨.reject, 1⟩⟩ false).ringInv ∧
      (headStyled ⟨.weld 0, some ⟨.reject, 0⟩⟩ false).ringEntries = ⟨0, 20, 2, 1, 7⟩ :: [⟨1, 21, 2, 1, 7⟩] ∧
      ((0 : Word) - 0).toNat < 32768 ∧ 32768 ≤ ((0 : Word) - 1).toNat ∧
      (headStyled ⟨.weld 0, some ⟨.reject, 0⟩⟩ false).style 33 = ⟨.weld 0, some ⟨.reject, 0⟩⟩ :=
  ⟨by unfold State.ringInv; decide +kernel, by unfold State.ringInv; decide +kernel, by decide +kernel⟩

theorem witness_StyleWritesMoveTheNamings :
    run0.takes h0 .library ∧ 255 < activeStyles run0.line.m run0.line.n ∧ (run0.dispatchSet 0).entries ≠ none ∧
      (run0.style 33).pending = none ∧
      (headStyled ⟨.pass, some ⟨.weld 0, 5⟩⟩ false).takes h0 .library ∧
      ((headStyled ⟨.pass, some ⟨.weld 0, 5⟩⟩ false).style 33).pending = some ⟨.weld 0, 5⟩ ∧
      activeStyles run0.line.m run0.line.n ≤ 256 ∧ (run0.dispatchSet 127).entries = none :=
  ⟨takes_of_base .library rfl rfl, by decide +kernel, by decide +kernel, by decide +kernel, takes_of_base .library rfl rfl,
    by decide +kernel⟩

/-- Set 0 of `run0` no longer bound. -/
def freeSet : State := { run0 with sets := tset run0.sets 0 ⟨some [⟨0, 3, 0, 0, -20, true⟩], 0⟩ }

theorem witness_SetWriteAndDeleteKeepReferences :
    freeSet.takes h0 .library ∧
      (∀ (i : Nat) (e : RawEntry), [(⟨0, true, false, 3, 0, 0, -200⟩ : RawEntry), ⟨31, true, true, 3, 0, 0, 200⟩][i]? = some e →
        e.robot < 32 ∧ e.program < 512 ∧ -200 ≤ e.trim ∧ e.trim ≤ 200 ∧ (e.last = true ↔ i + 1 = 2) ∧
          freeSet.ready e.program ≠ none) ∧
      freeSet.dispatchSet 0 = ⟨some [⟨0, 3, 0, 0, -20, true⟩], 0⟩ ∧ 2 ≤ freeSet.poolFree + 1 ∧
      (freeSet.dispatchSet 1).entries = none ∧ (run0.dispatchSet 0).inUse ≠ 0 := by
  have hr : freeSet.ready 3 ≠ none := by decide +kernel
  refine ⟨takes_of_base .library rfl rfl, ?_, by decide +kernel⟩
  intro i e h
  match i with
  | 0 => simp at h; subst h; exact ⟨by decide, by decide, by decide, by decide, by decide, hr⟩
  | 1 => simp at h; subst h; exact ⟨by decide, by decide, by decide, by decide, by decide, hr⟩
  | n + 2 => simp at h

theorem witness_ResolutionTakesTheFirstMatch :
    ({ body .admitted with binding := .pass } : Body).binding = .pass ∧ (body .admitted).binding = .weld 0 ∧
      (run0.dispatchSet 0).entries = some [⟨0, 3, 0, 0, -20, true⟩, ⟨1, 3, 0, 0, 0, true⟩] := by decide +kernel

/-- The body of `run1` expected at a held station 0. -/
def expected0 : State := (run1 (.onLine (.before 0))).modStation 0 fun x => { x with hold := true }

theorem witness_ArriveTakesTheExpectedBody :
    expected0.takes h0 .zone ∧ expected0.mode = .run ∧ 0 < expected0.stationCount ∧ expected0.inZone h0.port 0 = true ∧
      (expected0.station 0).source ≠ .both ∧ (expected0.station 0).state = .empty ∧ (expected0.station 0).hold = true ∧
      expected0.expectedBody 0 = some (body (.onLine (.before 0))) ∧
      expected0.bodyOf 0 = some (body (.onLine (.before 0))) ∧
      ((run1 .admitted).modStation 0 fun x => { x with hold := true }).expectedBody 0 = some (body .admitted) :=
  ⟨takes_of_base .zone rfl rfl, by decide +kernel⟩

/-- Station 0 of `run0` as a BOTH station, with its window given. -/
def both0 (w : Window) : State := (sourced 0 .both run0).modPresence 0 fun x => { x with window := w }

/-- The body of `run1` expected at a held station 1 past station 0, where robot 0 would have welded it. -/
def bypassing : State := (run1 (.onLine (.before 0))).modStation 1 fun x => { x with hold := true }

/-- A BOTH station 1 whose line report came first, the body having left no station yet. -/
def confirming : State := (sourced 1 .both bypassing).modPresence 1 fun x => { x with window := .openLine }

/-- The body of `run1` at a COMPLETE station 0, expected at a held station 1. -/
def leaving : State := (atStation 0 .complete owed0).modStation 1 fun x => { x with hold := true }

theorem witness_ArriveTakesTheExpectedBody_past_a_station :
    (bypassing.takes h0 .zone ∧ bypassing.mode = .run ∧ 1 < bypassing.stationCount ∧ bypassing.inZone h0.port 1 = true ∧
      (bypassing.station 1).source ≠ .both ∧ (bypassing.station 1).state = .empty ∧ (bypassing.station 1).hold = true ∧
      bypassing.expectedBody 1 = some (body (.onLine (.before 0))) ∧
      bypassing.bodyOf 0 = some (body (.onLine (.before 0))) ∧ (body (.onLine (.before 0))).result 0 = .pending ∧
      ∃ r ∈ bypassing.robotsAt 0, bypassing.resolve (body (.onLine (.before 0))) r ≠ none) ∧
    (confirming.takes h0 .zone ∧ (confirming.station 1).source = .both ∧ (confirming.presence 1).window = .openLine ∧
      confirming.expectedBody 1 = some (body (.onLine (.before 0)))) ∧
    leaving.takes h0 .zone ∧ leaving.expectedBody 1 = some (body (.onLine (.atStation 0))) ∧
      leaving.bodyOf 0 = some (body (.onLine (.atStation 0))) ∧ (leaving.station 1).source ≠ .both ∧
      (leaving.station 1).state = .empty ∧ (leaving.station 1).hold = true ∧ (leaving.station 0).state = .complete ∧
      (leaving.station 0).body = some 0 :=
  ⟨⟨takes_of_base .zone rfl rfl, by decide +kernel⟩, ⟨takes_of_base .zone rfl rfl, by decide +kernel⟩,
    takes_of_base .zone rfl rfl, by decide +kernel⟩

theorem witness_ArriveTakesTheExpectedBody_unheld_and_by_window :
    ((run1 .admitted).takes h0 .zone ∧ (run1 .admitted).expectedBody 0 = some (body .admitted) ∧
      (run1 .admitted).bodyOf 0 = some (body .admitted) ∧ ((run1 .admitted).station 0).hold = false ∧
      ((run1 .admitted).station 0).source ≠ .both ∧ ((run1 .admitted).station 0).state = .empty ∧
      (run1 .admitted).robotsAt 0 = [0] ∧ (body .admitted).result 0 = .pending ∧
      (run1 .admitted).resolve (body .admitted) 0 ≠ none ∧ ((run1 .admitted).robot 0).enabled = true) ∧
    (∀ w, (both0 w).takes h0 .zone) ∧ (both0 .closed).mode = .run ∧ 0 < (both0 .closed).stationCount ∧
      (both0 .closed).inZone h0.port 0 = true ∧ ((both0 .closed).station 0).source = .both ∧
      ((both0 .closed).presence 0).window = .closed ∧ ((both0 .closed).station 0).state = .empty ∧
      ((sourced 0 .both (atStation 0 .arrived none)).presence 0).window = .closed ∧
      ((sourced 0 .both (atStation 0 .arrived none)).station 0).state ≠ .empty ∧
      ((both0 (.openFrame 7)).presence 0).window = .openFrame 7 :=
  ⟨⟨takes_of_base .zone rfl rfl, by decide +kernel⟩, fun _ => takes_of_base .zone rfl rfl, by decide +kernel⟩

theorem witness_ArriveFaultsOrIsRefused :
    ((run1 .admitted).takes h0 .zone ∧ (run1 .admitted).mode = .run ∧ 1 < (run1 .admitted).stationCount ∧
      (run1 .admitted).inZone h0.port 1 = true ∧ ((run1 .admitted).station 1).source ≠ .both ∧
      ((run1 .admitted).station 1).state = .empty ∧ (∀ b ∈ (run1 .admitted).bodies, b.tag ≠ 9) ∧
      (run1 (.pulled 1)).expectedBody 0 = none ∧ ∃ b ∈ (run1 (.pulled 1)).bodies, b.tag = 7) ∧
    (∃ b, ({ run1 .admitted with bodies := [body .admitted, { body .admitted with key := 1, tag := 8 }] }).expectedBody 0 =
        some b ∧ b.tag ≠ 8) ∧
    ((atStation 0 .arrived none).station 0).state ≠ .empty :=
  ⟨⟨takes_of_base .zone rfl rfl, by decide +kernel⟩, ⟨body .admitted, by decide +kernel⟩, by decide +kernel⟩

theorem witness_DepartFromCompleteMovesTheBody :
    (∀ i, i = 0 ∨ i = 1 → (atStation i .complete none).takes h0 .zone) ∧
      ((atStation 0 .complete none).station 0).state = .complete ∧ ((atStation 0 .complete none).station 0).body = some 0 ∧
      (atStation 0 .complete none).bodyOf 0 = some (body (.onLine (.atStation 0))) ∧
      ((atStation 0 .complete none).station 0).source ≠ .both ∧ 0 + 1 < (atStation 0 .complete none).stationCount ∧
      ((atStation 1 .complete none).station 1).state = .complete ∧ ((atStation 1 .complete none).station 1).body = some 0 ∧
      (atStation 1 .complete none).bodyOf 0 = some (body (.onLine (.atStation 1))) ∧
      ((atStation 1 .complete none).station 1).source ≠ .both ∧ 1 + 1 = (atStation 1 .complete none).stationCount :=
  ⟨fun _ _ => takes_of_base .zone rfl rfl, by decide +kernel⟩

/-- Robot 0 welds the body of `run1` at station 0. -/
def welding0 : State := inMotion (.welding sel0) (atStation 0 .welding owed0)

theorem witness_UnweldedDepartureAbortsItsRobots :
    welding0.takes h0 .zone ∧ welding0.mode = .run ∧ 0 + 1 < welding0.stationCount ∧ welding0.inZone h0.port 0 = true ∧
      (welding0.station 0).source ≠ .both ∧ (welding0.station 0).state = .welding ∧ (welding0.station 0).body = some 0 ∧
      welding0.bodyOf 0 = some (body (.onLine (.atStation 0))) ∧ welding0.abortSet 0 0 = [0] ∧
      welding0.stationOf 0 = some 0 ∧ sel0.key = 0 ∧ (welding0.robot 0).motion = .welding sel0 :=
  ⟨takes_of_base .zone rfl rfl, by decide +kernel⟩

theorem witness_PullAndScrapTakeTheBodyAway :
    (run1 .admitted).takes h0 .zone ∧ (run1 (.pulled 1)).takes h0 .zone ∧
      ((run1 .admitted).tagged 7).find? (fun b => !State.isPulled b) = some (body .admitted) ∧
      (run1 .admitted).bodyOf 0 = some (body .admitted) ∧ (∀ i, (body .admitted).state ≠ .onLine (.atStation i)) ∧
      (∀ b ∈ (run1 .admitted).bodies, b.tag ≠ 8) ∧
      (∀ b ∈ (run1 (.pulled 1)).bodies, b.tag = 7 → ∃ x, b.state = .pulled x) ∧
      ((run1 (.pulled 1)).tagged 7).find? State.isPulled = some (body (.pulled 1)) ∧
      (run1 (.pulled 1)).bodyOf 0 = some (body (.pulled 1)) ∧
      (∃ b ∈ (run1 .admitted).bodies, b.tag = 7) ∧
      ∀ b ∈ (run1 .admitted).bodies, b.tag = 7 → b.state = .admitted ∨ ∃ pos, b.state = .onLine pos :=
  ⟨takes_of_base .zone rfl rfl, takes_of_base .zone rfl rfl, by decide +kernel, by decide +kernel, fun i => by simp [body],
    by decide +kernel, fun b hb _ => ⟨1, by simp [run1] at hb; rw [hb]; rfl⟩, by decide +kernel, by decide +kernel,
    by decide +kernel, fun b hb _ => .inl (by simp [run1] at hb; rw [hb]; rfl)⟩

/-- What PULL meets at station 0: the station's state and work list, and what robot 0 does for the body. -/
def pulling (st : StationState) (work : Option (List WorkItem)) (m : Motion) : State := inMotion m (atStation 0 st work)

theorem witness_PullAndScrapTakeTheBodyAway_at_a_station :
    (∀ st work m, (pulling st work m).takes h0 .zone) ∧ (pulling .arrived none .idle).takes h1 .zone ∧
    (∀ x ∈ [(StationState.complete, owed0, Motion.idle), (.arrived, none, .idle), (.arrived, owed0, .selecting sel0),
        (.arrived, some [⟨0, .skipped, false⟩], .idle), (.welding, owed0, .welding sel0), (.fault, owed0, .idle)],
      ((pulling x.1 x.2.1 x.2.2).tagged 7).find? (fun b => !State.isPulled b) = some (body (.onLine (.atStation 0))) ∧
        (pulling x.1 x.2.1 x.2.2).bodyOf 0 = some (body (.onLine (.atStation 0))) ∧
        (pulling x.1 x.2.1 x.2.2).inZone h0.port 0 = true ∧ (pulling x.1 x.2.1 x.2.2).mode = .run ∧
        ((pulling x.1 x.2.1 x.2.2).station 0).state = x.1 ∧ ((pulling x.1 x.2.1 x.2.2).station 0).work = x.2.1 ∧
        ((pulling x.1 x.2.1 x.2.2).robot 0).motion = x.2.2) ∧
    (pulling .welding owed0 (.welding sel0)).abortSet 0 0 = [0] ∧ (pulling .fault owed0 .idle).abortSet 0 0 = [] ∧
      (pulling .arrived none .idle).resolve (body (.onLine (.atStation 0))) 0 ≠ none ∧
      ((pulling .arrived none .idle).modStation 0 fun x => { x with zone := 2 }).inZone h1.port 0 = false :=
  ⟨fun _ _ _ => takes_of_base .zone rfl rfl, takes_of_base_port1 .zone rfl rfl, by decide +kernel⟩

theorem witness_ReinsertPlacesTheBody :
    ((run1 (.pulled 1)).takes h0 .zone ∧ (run1 (.pulled 1)).mode = .run ∧ 1 < (run1 (.pulled 1)).stationCount ∧
      (run1 (.pulled 1)).stationCount ≤ 16 ∧ (run1 (.pulled 1)).inZone h0.port 0 = true ∧
      (run1 (.pulled 1)).inZone h0.port 1 = true ∧
      ((run1 (.pulled 1)).tagged 7).find? State.isPulled = some (body (.pulled 1)) ∧
      (run1 (.pulled 1)).bodyOf 0 = some (body (.pulled 1))) ∧
    ((run1 .admitted).takes h1 .zone ∧ (run1 .admitted).inZone h1.port 1 = false) ∧
    (run1 .admitted).takes h0 .zone ∧ (run1 .admitted).inZone h0.port 1 = true ∧
      (∃ b ∈ (run1 .admitted).bodies, b.tag = 7) ∧
      ∀ b ∈ (run1 .admitted).bodies, b.tag = 7 → b.state = .admitted ∨ ∃ pos, b.state = .onLine pos :=
  ⟨⟨takes_of_base .zone rfl rfl, by decide +kernel⟩, ⟨takes_of_base_port1 .zone rfl rfl, by decide +kernel⟩,
    takes_of_base .zone rfl rfl, by decide +kernel, by decide +kernel, fun b hb _ => .inl (by simp [run1] at hb; rw [hb]; rfl)⟩

/-- A held station 0 whose work was not opened. -/
def held0 : State := (atStation 0 .arrived none).modStation 0 fun x => { x with hold := true }

theorem witness_HoldReleaseAndClearActOnTheStation :
    (held0.takes h0 .zone ∧ held0.mode = .run ∧ 0 < held0.stationCount ∧ held0.inZone h0.port 0 = true ∧
      (held0.station 0).hold = true ∧ (held0.station 0).state = .arrived ∧ (held0.station 0).work = none ∧
      (held0.station 0).body = some 0 ∧ held0.bodyOf 0 = some (body (.onLine (.atStation 0))) ∧
      (body (.onLine (.atStation 0))).result 0 = .pending ∧
      (∀ r ∈ held0.robotsAt 0, held0.resolve (body (.onLine (.atStation 0))) r ≠ none → (held0.robot r).enabled = true) ∧
      ∃ r ∈ held0.robotsAt 0, held0.resolve (body (.onLine (.atStation 0))) r ≠ none) ∧
    ((run0.modStation 0 fun x => { x with state := .fault }).takes h0 .zone ∧
      ((run0.modStation 0 fun x => { x with state := .fault }).station 0).body = none) ∧
    (atStation 0 .fault owed0).takes h0 .zone ∧ ((atStation 0 .fault owed0).station 0).state = .fault ∧
      ((atStation 0 .fault owed0).station 0).body = some 0 ∧ (atStation 0 .fault owed0).abortSet 0 0 = [] ∧
      (held0.station 0).state ≠ .fault ∧ (run0.station 0).hold = false :=
  ⟨⟨takes_of_base .zone rfl rfl, by decide +kernel⟩, ⟨takes_of_base .zone rfl rfl, by decide +kernel⟩,
    takes_of_base .zone rfl rfl, by decide +kernel⟩

theorem witness_PresenceChangesAreReportedBySource :
    (base.resetInput = false ∧ base.mode = .setup ∧ run0.stationCount ≤ 2 ∧
      ((sourced 1 .frame run0).station 1).source = .frame) ∧
    ((both0 .closed).mode = .run ∧ ((both0 .closed).station 0).source = .both ∧ ((both0 .closed).presence 0).accepted = .low ∧
      ((both0 .closed).stationRec 0).sense = .highPresent ∧ ((both0 .closed).presence 0).window = .closed ∧
      ((both0 .closed).station 0).state = .empty) ∧
    (((both0 .openLine).modPresence 0 fun x => { x with accepted := .high }).presence 0).window = .openLine ∧
    base.takes h0 .zone ∧ 0 < base.stationCount ∧ base.stationCount ≤ 1 ∧ base.inZone h0.port 0 = true ∧
      (run0.modStation 1 fun x => { x with zone := 1 }).inZone h0.port 1 = false ∧ run0.takes h0 .zone ∧
      (run0.stationRec 0).sense = .highPresent :=
  ⟨by decide +kernel, by decide +kernel, by decide +kernel, takes_of_base .zone rfl rfl, by decide +kernel, by decide +kernel,
    by decide +kernel, by decide +kernel, takes_of_base .zone rfl rfl, by decide +kernel⟩

/-- Station 0 takes its arrivals from its line, held, with the body of `run1` expected. -/
def lineStation : State := sourced 0 .line expected0

/-- Station 0 takes the line's confirmation of a tag announced by a frame. -/
def announced (tag : Word) (s : State) : State :=
  (sourced 0 .both s).modPresence 0 fun x => { x with window := .openFrame tag }

/-- The second of two bodies announced where the first is expected. -/
def outOfOrder : State :=
  announced 8 { run1 .admitted with bodies := [body .admitted, { body .admitted with key := 1, tag := 8 }] }

/-- The line of station 0 is HIGH, the body of `run1` COMPLETE there. -/
def occupied (source : Source) (echo : Echo) : State :=
  (sourced 0 source (atStation 0 .complete owed0)).modPresence 0 fun x => { x with pin := .high, accepted := .high, echo := echo }

theorem witness_PresenceChangesAreReportedBySource_arrivals :
    (lineStation.resetInput = false ∧ lineStation.mode = .run ∧ 0 < lineStation.stationCount ∧
      .high ≠ (lineStation.presence 0).accepted ∧ (lineStation.stationRec 0).sense = .highPresent ∧
      (lineStation.station 0).source = .line ∧ (lineStation.station 0).state = .empty ∧ (lineStation.station 0).hold = true ∧
      lineStation.expectedBody 0 = some (body (.onLine (.before 0))) ∧
      lineStation.bodyOf 0 = some (body (.onLine (.before 0)))) ∧
    (((announced 7 expected0).station 0).source = .both ∧ ((announced 7 expected0).presence 0).window = .openFrame 7 ∧
      (announced 7 expected0).expectedBody 0 = some (body (.onLine (.before 0)))) ∧
    (∀ b ∈ (announced 9 expected0).bodies, b.tag ≠ 9) ∧
    ((sourced 0 .line run0).expectedBody 0 = none ∧ (run1 (.pulled 1)).expectedBody 0 = none ∧
      ∃ b ∈ (run1 (.pulled 1)).bodies, b.tag = 7) ∧
    ((∃ e ∈ outOfOrder.bodies, e.tag = 8) ∧ outOfOrder.expectedBody 0 = some (body .admitted) ∧ (body .admitted).tag ≠ 8) ∧
    ((sourced 0 .line (atStation 0 .arrived none)).station 0).state ≠ .empty := by decide +kernel

theorem witness_PresenceChangesAreReportedBySource_departures :
    (∀ source ∈ [Source.line, .both], ((occupied source .none).station 0).source = source ∧
      ((occupied source .none).station 0).state = .complete ∧ ((occupied source .none).station 0).body = some 0 ∧
      (occupied source .none).bodyOf 0 = some (body (.onLine (.atStation 0))) ∧
      0 + 1 < (occupied source .none).stationCount ∧ .low ≠ ((occupied source .none).presence 0).accepted ∧
      ((occupied source .none).presence 0).window ≠ .openLine ∧ ((occupied source .none).presence 0).echo ≠ .owedLine ∧
      ((occupied source .none).stationRec 0).sense = .highPresent) ∧
    ((occupied .both .owedLine).presence 0).echo = .owedLine ∧ ((occupied .both .owedLine).station 0).source = .both ∧
      (occupied .both .owedLine).mode = .run ∧ (occupied .both .owedLine).resetInput = false := by decide +kernel

/-- SET SENSE at station 0 makes the reports that the accepted changes above make. -/
theorem witness_PresenceChangesAreReportedBySource_set_sense :
    lineStation.reports 0 true (lineStation.presence 0) (.setSense h0 0 (some .lowPresent)) ∧
      (occupied .both .owedLine).reports 0 false ((occupied .both .owedLine).presence 0) (.setSense h0 0 (some .lowPresent)) ∧
      (both0 .closed).reports 0 true ((both0 .closed).presence 0) (.setSense h0 0 (some .lowPresent)) ∧
      lineStation.reports 0 true { lineStation.presence 0 with pin := .high, accepted := .high, filter := 0 }
        (.acceptedChange 0 .high) ∧
      (occupied .line .none).reports 0 false
        { (occupied .line .none).presence 0 with pin := .low, accepted := .low, filter := 0 } (.acceptedChange 0 .low) ∧
      (both0 .closed).mode = .run ∧ ((both0 .closed).station 0).state = .empty :=
  ⟨⟨rfl, takes_of_base .zone rfl rfl, by decide +kernel⟩, ⟨rfl, takes_of_base .zone rfl rfl, by decide +kernel⟩,
    ⟨rfl, takes_of_base .zone rfl rfl, by decide +kernel⟩, ⟨rfl, rfl, by decide +kernel⟩, ⟨rfl, rfl, by decide +kernel⟩,
    by decide +kernel⟩

/-- Nothing is eligible for a bus of `run0`. -/
theorem run0_eligibleTx (b : Fin 4) (c : TxClass) (r : Nat) : run0.eligibleTx b c r = none := by
  by_cases hr : r < 32
  · cases c <;> revert b r <;> decide +kernel
  · have : run0.place r = none := by rw [run0_place, if_neg (by omega), if_neg (by omega)]
    simp [State.eligibleTx, this]

theorem witness_TimersExpire_quiet :
    run0.pending = [] ∧ run0.resetInput = false ∧ run0.due = [] ∧
      (∀ p, p < 4 → (run0.port p).reply = none ∨ (run0.port p).sending = true) ∧
      (∀ b : Fin 4, (run0.bus b.val).cur ≠ none ∨ ∀ c r, run0.eligibleTx b c r = none) ∧
      (∀ i, i < 16 →
        ((run0.presence i).window = .closed ∨ (run0.presence i).confirm + 1 < (run0.stationRec i).confirm) ∧
        ((run0.station i).running = true → (run0.station i).watch + 1 < (run0.station i).budget ∨
          (run0.station i).overrunRaised = true) ∧
        ((run0.presence i).pin = (run0.presence i).accepted ∨
          (run0.presence i).filter + 1 < (run0.stationRec i).filter ∨ run0.mode = .setup ∨ run0.stationCount ≤ i ∨
          (run0.station i).source = .frame)) ∧
      (∀ b o, b < 4 → (run0.bus b).cur = some o → o.waited + 1 < o.tx.timeout ∨ o.sendings ≤ o.tx.retries) ∧
      ∃ interval : Nat → Nat, ∀ r, interval r =
        if (run0.robot r).online = true ∧ (run0.robot r).motion ≠ .idle then run0.line.pollInterval
        else run0.line.probeInterval := by
  refine ⟨rfl, rfl, rfl, by decide +kernel, fun b => .inr (run0_eligibleTx b), by decide +kernel, ?_, _, fun _ => rfl⟩
  intro b o _ h
  have h0 : run0.bus b = .reset := tget_replicate_self _ b
  rw [h0] at h
  cases h

theorem witness_TimersExpire :
    ((both0 .openLine).resetInput = false ∧ ((both0 .openLine).presence 0).window ≠ .closed ∧
      ((both0 .openLine).station 0).state = .empty) ∧
    ((run0.modPresence 15 fun x => { x with echo := .owedLine }).presence 15).echo ≠ .none ∧
    ((atStation 0 .welding owed0).station 0).running = true ∧
      ((atStation 0 .welding owed0).station 0).overrunRaised = false ∧ (run0.station 15).running = false ∧
    welding0.pollTimerRuns 0 = true ∧ (welding0.robot 0).online = true ∧ run0.pollTimerRuns 1 = true ∧
      (run0.robot 1).online = false := by decide +kernel

/-- 64 READY programs of 256 points hold the 512 blocks. -/
def crowded : State :=
  { run0 with library :=
      ⟨.ofFn fun i => if i.val < 64 then ⟨.ready 1 ⟨256, 0, 256, [0], (List.range 8).map (8 * i.val + ·)⟩, 0⟩ else ⟨.empty, 0⟩,
        .ofFn fun i => ⟨some (i.val / 8), .replicate 32 default⟩, 2⟩ }

theorem crowded_prog (n : Nat) : crowded.prog n =
    if n < 64 then ⟨.ready 1 ⟨256, 0, 256, [0], (List.range 8).map (8 * n + ·)⟩, 0⟩ else ⟨.empty, 0⟩ := by
  by_cases h : n < 512
  · simp [State.prog, crowded, tget, h]
  · simp [State.prog, crowded, tget, h, show ¬ n < 64 by omega]

theorem crowded_block (b : Nat) :
    crowded.block b = if b < 512 then ⟨some (b / 8), .replicate 32 default⟩ else ⟨none, []⟩ := by
  by_cases h : b < 512 <;> simp [State.block, crowded, tget, h]

theorem crowded_libraryInv : crowded.libraryInv := by
  have hh : ∀ n d, crowded.holdsProgram n d ↔ n < 64 ∧ d = ⟨256, 0, 256, [0], (List.range 8).map (8 * n + ·)⟩ := by
    intro n d
    unfold State.holdsProgram
    rw [crowded_prog]
    by_cases h : n < 64 <;> simp [h, eq_comm]
  refine ⟨?_, ?_, ?_, ?_⟩
  · intro n d h
    obtain ⟨hn, rfl⟩ := (hh n d).mp h
    refine ⟨?_, ?_, ?_, ?_, ?_, ?_, ?_⟩
    iterate 3 · show _ ≤ _; norm_num
    · exact List.Nodup.map (fun a b h => by simpa using h) List.nodup_range
    · simp [blocksFor]
    · intro b hb
      obtain ⟨k, hk, rfl⟩ := List.mem_map.mp hb
      have hk8 : k < 8 := List.mem_range.mp hk
      rw [crowded_block, if_pos (by omega)]
      exact ⟨by omega, by simp; omega⟩
    · intro i b hb
      have hi : i < 8 := by
        have := (List.getElem?_eq_some_iff.mp hb).1
        simpa using this
      have : 8 * n + i = b := by simpa [hi] using hb
      rw [crowded_block, if_pos (by omega)]
      simp
      omega
  · intro n stamp d h
    obtain ⟨-, rfl⟩ := (hh n d).mp (.inr ⟨stamp, h⟩)
    rfl
  · intro b n h
    rw [crowded_block] at h
    split at h
    · obtain rfl : b / 8 = n := by simpa using h
      refine ⟨_, (hh _ _).mpr ⟨by omega, rfl⟩, List.mem_map.mpr ⟨b % 8, List.mem_range.mpr (by omega), by omega⟩⟩
    · simp at h
  · intro m n p d d' h
    rw [crowded_prog] at h
    split at h <;> simp at h

theorem witness_ProgOpenTakesBlocks :
    (run0.takes h0 .library ∧ (run0.prog 511).state = .empty ∧ run0.libraryInv ∧
      (256 + 31) / 32 ≤ run0.freeBlocks.length ∧ (run0.prog 4).state = .loading 0 ⟨3, 0x1234, 1, [0], [1]⟩ ∧
      (run0.prog 3).state = .ready 1 ⟨2, 0xABCD, 2, [0], [0]⟩ ∧ (0 : Fin 4) = h0.port) ∧
    crowded.takes h0 .library ∧ (crowded.prog 511).state = .empty ∧ crowded.libraryInv ∧
      crowded.freeBlocks.length < (1 + 31) / 32 := by
  refine ⟨⟨takes_of_base .library rfl rfl, by rw [run0_prog]; rfl, run0_libraryInv, by rw [run0_freeBlocks]; decide +kernel,
      by decide +kernel, by decide +kernel, rfl⟩,
    takes_of_base .library rfl rfl, by rw [crowded_prog]; rfl, crowded_libraryInv, ?_⟩
  have : crowded.freeBlocks = [] := by
    simp only [State.freeBlocks, List.filter_eq_nil_iff, List.mem_range]
    intro b hb
    rw [crowded_block, if_pos hb]
    simp
  rw [this]
  decide

theorem witness_ProgDataStoresPoints :
    run0.takes h0 .library ∧ run0.libraryInv ∧ (run0.prog 4).state = .loading 0 ⟨3, 0x1234, 1, [0], [1]⟩ ∧
      (1 : Nat) + [⟨1, 4095, 63, 0xFF⟩, (⟨2, 0, 0, 0⟩ : RawPoint)].length ≤ 3 ∧
      (∀ p ∈ [⟨1, 4095, 63, 0xFF⟩, (⟨2, 0, 0, 0⟩ : RawPoint)], p.pose.toNat ≤ 4095 ∧ p.schedule.toNat ≤ 63) ∧
      ([⟨1, 4095, 63, 0xFF⟩, (⟨2, 0, 0, 0⟩ : RawPoint)].foldl
        (fun l p => if p.schedule.toNat ∈ l then l else l ++ [p.schedule.toNat]) [0]).length ≤ 16 ∧ (0 : Nat) ≠ 1 :=
  ⟨takes_of_base .library rfl rfl, run0_libraryInv, by decide +kernel⟩

/-- Program 4 with its single point received and the check it declared. -/
def complete4 : State :=
  run0.setProg 4 ⟨.loading 0 ⟨1, programCheck (run0.pointsFrom ⟨1, 0, 1, [0], [1]⟩ 0 1), 1, [0], [1]⟩, 3⟩

/-- The same with another check. -/
def mismatched4 : State :=
  run0.setProg 4 ⟨.loading 0 ⟨1, 0x1234, 1, [0], [1]⟩, 3⟩

theorem witness_ProgCloseChecksTheProgram :
    complete4.takes h0 .library ∧ (complete4.prog 4).state = .loading 0
        ⟨1, programCheck (complete4.pointsFrom ⟨1, 0, 1, [0], [1]⟩ 0 1), 1, [0], [1]⟩ ∧
      run0.takes h0 .library ∧ (run0.prog 4).state = .loading 0 ⟨3, 0x1234, 1, [0], [1]⟩ ∧ (1 : Nat) ≠ 3 ∧
      mismatched4.takes h0 .library ∧ (mismatched4.prog 4).state = .loading 0 ⟨1, 0x1234, 1, [0], [1]⟩ ∧
      programCheck (mismatched4.pointsFrom ⟨1, 0x1234, 1, [0], [1]⟩ 0 1) ≠ 0x1234 ∧
      run0.takes h1 .library ∧ (0 : Fin 4) ≠ h1.port ∧ (run0.prog 511).state = .empty ∧
      (run0.prog 3).state = .ready 1 ⟨2, 0xABCD, 2, [0], [0]⟩ :=
  ⟨takes_of_base .library rfl rfl, by decide +kernel, takes_of_base .library rfl rfl, by decide +kernel, by decide,
    takes_of_base .library rfl rfl, by decide +kernel, by decide +kernel, takes_of_base_port1 .library rfl rfl, by decide,
    by decide +kernel, by decide +kernel⟩

theorem witness_ProgDeleteNeedsNoReference :
    (run0.setProg 3 ⟨.ready 1 ⟨2, 0xABCD, 2, [0], [0]⟩, 0⟩).takes h0 .library ∧
      (run0.setProg 3 ⟨.ready 1 ⟨2, 0xABCD, 2, [0], [0]⟩, 0⟩).prog 3 = ⟨.ready 1 ⟨2, 0xABCD, 2, [0], [0]⟩, 0⟩ ∧
      run0.takes h0 .library ∧ run0.prog 3 = ⟨.ready 1 ⟨2, 0xABCD, 2, [0], [0]⟩, 1 + 1⟩ ∧ (run0.prog 0).state = .empty ∧
      (run0.prog 4).state = .loading h0.port ⟨3, 0x1234, 1, [0], [1]⟩ ∧ run0.takes h1 .library ∧ (0 : Fin 4) ≠ h1.port :=
  ⟨takes_of_base .library rfl rfl, by decide +kernel, takes_of_base .library rfl rfl, by decide +kernel, by decide +kernel,
    by decide +kernel, takes_of_base_port1 .library rfl rfl, by decide⟩

theorem witness_ScheduleAndCurveWritesAreStored :
    run0.takes h0 .library ∧ 1000 ≤ sched0.base ∧ sched0.base ≤ 24000 ∧ 300 ≤ sched0.imin ∧ sched0.imin ≤ sched0.imax ∧
      sched0.imax ≤ 2400 ∧ sched0.squeeze ≤ 2000 ∧ 1 ≤ sched0.weldTime ∧ sched0.weldTime ≤ 2000 ∧ sched0.hold ≤ 2000 ∧
      sched0.group = some 0 ∧ run0.curve 0 ≠ none ∧ run0.curve 7 = none ∧
      (∀ x ∈ [⟨1, 0⟩, (⟨65535, 500⟩ : CurveStep)], 1 ≤ x.threshold ∧ x.threshold ≤ 65535 ∧ x.increment ≤ 500) ∧
      ([⟨1, 0⟩, (⟨65535, 500⟩ : CurveStep)].map (·.threshold)).Pairwise (· < ·) :=
  ⟨takes_of_base .library rfl rfl, by decide +kernel⟩

theorem witness_WearIncrementFollowsTheCurve :
    curve2 ≠ [] ∧ (∀ x ∈ curve2, 1 ≤ x.threshold ∧ x.increment ≤ 500) ∧ (curve2.map (·.threshold)).Pairwise (· < ·) ∧
      curve2.getLast? = some ⟨3000, 150⟩ ∧ (⟨0, 0⟩ :: curve2)[0]? = some ⟨0, 0⟩ ∧ curve2[0]? = some ⟨1000, 30⟩ ∧
      (⟨0, 0⟩ :: curve2)[2]? = some ⟨2000, 80⟩ ∧ curve2[2]? = some ⟨3000, 150⟩ ∧ 2000 ≤ 2000 ∧ 2999 < 3000 := by decide

theorem witness_RowCurrentIsRoundedAndClamped : sched0.imin ≤ sched0.imax ∧ (0 : Int) ≤ 1000 + 0 + -1000 := by decide

theorem witness_RobotRequestsSetTheirFlags :
    run0.takes h0 .zone ∧ run0.stationOf 0 = some 0 ∧ run0.inZone h0.port 0 = true ∧
      ¬ ((run0.robot 0).motion = .idle ∧ run0.owed 0 0 = true) :=
  ⟨takes_of_base .zone rfl rfl, by decide +kernel⟩

/-- Both robots owe the body at station 0. -/
def bothOwed (st : StationState) : State :=
  bothAtStation0 (atStation 0 st (some [⟨0, .owed, false⟩, ⟨1, .owed, false⟩]))

/-- The same, robot 1 SELECTED for it. -/
def oneSelected : State := (bothOwed .arrived).modRobot 1 fun x => { x with motion := .selected sel0 }

theorem witness_RobotRequestsSetTheirFlags_skips :
    (∀ st, (bothOwed st).takes h0 .zone) ∧
    (∀ st ∈ [StationState.arrived, .fault], (bothOwed st).stationOf 0 = some 0 ∧ (bothOwed st).inZone h0.port 0 = true ∧
      ((bothOwed st).robot 0).enabled = true ∧ ((bothOwed st).robot 0).motion = .idle ∧ (bothOwed st).owed 0 0 = true ∧
      ((bothOwed st).station 0).state = st ∧ ((bothOwed st).station 0).body = some 0 ∧
      (bothOwed st).bodyOf 0 = some (body (.onLine (.atStation 0))) ∧
      ((bothOwed st).station 0).work = some [⟨0, .owed, false⟩, ⟨1, .owed, false⟩]) ∧
    (oneSelected.takes h0 .zone ∧ oneSelected.owed 0 0 = true ∧ (oneSelected.robot 0).motion = .idle ∧
      (oneSelected.station 0).state = .arrived ∧ (oneSelected.robot 1).motion = .selected sel0 ∧ sel0.key = 0) ∧
    (atStation 0 .arrived owed0).takes h0 .zone ∧ (atStation 0 .arrived owed0).owed 0 0 = true ∧
      ((atStation 0 .arrived owed0).robot 0).motion = .idle ∧ ((atStation 0 .arrived owed0).robot 0).enabled = true ∧
      ((atStation 0 .arrived owed0).station 0).state = .arrived :=
  ⟨fun _ => takes_of_base .zone rfl rfl, by decide +kernel, ⟨takes_of_base .zone rfl rfl, by decide +kernel⟩,
    takes_of_base .zone rfl rfl, by decide +kernel⟩

theorem witness_SlotChoiceTakesTheCheapestSlot :
    ∃ empty free idle : Nat → Prop,
      (∀ i, empty i ↔ i < run0.slotCount 0 ∧ ((run0.robot 0).slot i).content = .empty) ∧
      (∀ i, free i ↔ i < run0.slotCount 0 ∧ (((run0.robot 0).slot i).content = .unknown ∨
        ∃ n stamp, ((run0.robot 0).slot i).content = .stale n stamp ∨ ((run0.robot 0).slot i).content = .invalid n stamp)) ∧
      (∀ i, idle i ↔ i < run0.slotCount 0 ∧ run0.pinned 0 i = false ∧
        ∃ n stamp, ((run0.robot 0).slot i).content = .valid n stamp) ∧ free 0 :=
  ⟨_, _, _, fun _ => Iff.rfl, fun _ => Iff.rfl, fun _ => Iff.rfl, by decide +kernel, .inl (by decide +kernel)⟩

theorem witness_RecomputationBeginsALoad :
    let s := emptySlots (run1 (.onLine (.before 0)))
    (s.resetInput = false ∧ s.mode = .run ∧ s.place 0 ≠ none ∧ (s.robot 0).online = true ∧ (s.robot 0).enabled = true ∧
      (s.robot 0).fault = none ∧ (s.stage 0).load = none ∧ (s.stage 0).jobs = [] ∧ s.windowPrograms 0 = [(3, 0)] ∧
      s.stagedSlot 0 3 = none ∧ (s.prog 3).state = .ready 1 ⟨2, 0xABCD, 2, [0], [0]⟩ ∧ s.chooseSlot 0 = some 0) ∧
    (s.place 0 = some ⟨true, 0, 3, 0, 4⟩ ∧ s.place 31 = none) ∧
    ((run0.modRobot 31 fun x => { x with enabled := false }).robot 31).enabled = false := by
  intro s; decide +kernel

/-- The body of `run1` waits for program 3 of robot 0, every slot of which is pinned as LOADING. -/
def noSlot : State :=
  (run1 (.onLine (.before 0))).modRobot 0 fun x => { x with slots := .replicate 8 ⟨.loading 9 1, 0⟩ }

theorem witness_RecomputationBeginsALoad_kept_blocked_or_cancelled :
    (noSlot.windowPrograms 0 = [(3, 0)] ∧ noSlot.stagedSlot 0 3 = none ∧ noSlot.chooseSlot 0 = none ∧
      (noSlot.stage 0).blocked = false ∧ noSlot.mode = .run ∧ noSlot.place 0 ≠ none ∧ (noSlot.stage 0).jobs = [] ∧
      (noSlot.stage 0).load = none ∧ (noSlot.robot 0).online = true ∧ (noSlot.robot 0).fault = none) ∧
    (((noSlot.modStage 0 fun x => { x with jobs := [⟨3, 1, 2, 2, false⟩] }).stage 0).jobs = [⟨3, 1, 2, 2, false⟩]) ∧
    ((loading0 1 run0).stage 0).load = some ⟨4, 2, 3, 1, 2, .streaming, 1⟩ ∧ (loading0 1 run0).windowPrograms 0 = [] := by
  decide +kernel

theorem witness_SelectionAttemptPlacesTheSelect :
    let s := atStation 0 .arrived owed0
    (s.resetInput = false ∧ s.stationOf 0 = some 0 ∧ s.mode = .run ∧ (s.station 0).state = .arrived ∧ s.owed 0 0 = true ∧
      (s.robot 0).online = true ∧ (s.robot 0).motion = .idle ∧ (s.robot 0).fault = none ∧
      s.bodyAt 0 = some (body (.onLine (.atStation 0))) ∧
      s.resolve (body (.onLine (.atStation 0))) 0 = some ⟨0, 3, 0, 0, -20, true⟩ ∧ s.stagedSlot 0 3 = some 1 ∧
      (s.prog 3).state = .ready 1 ⟨2, 0xABCD, 2, [0], [0]⟩ ∧ ∀ n ∈ [0], s.schedule n ≠ none) ∧
    ((∃ n ∈ [0], ({ s with schedules := .replicate 64 none }).schedule n = none) ∧ (s.robot 0).enabled = true) ∧
    (emptySlots s).stagedSlot 0 3 = none ∧ ((emptySlots s).station 0).work = owed0 ∧
    ((emptySlots (atStation 0 .arrived (some [⟨0, .owed, true⟩]))).station 0).work = some [⟨0, .owed, true⟩] := by
  intro s; decide +kernel

theorem witness_SelectAnswersAreTaken :
    let s := carrying .select (.select select0) (inMotion (.selecting sel0) (atStation 0 .arrived owed0))
    let u := (inMotion (.selecting sel0) run0).modRobot 0 fun x => { x with busy := some ⟨select0, 3⟩ }
    (s.resetInput = false ∧ (s.bus 0).cur = some (onBus .select (.select select0) 1) ∧ sel0.slot = select0.slot ∧
      (s.robot 0).motion = .selecting sel0 ∧ s.stationOf 0 = some 0 ∧ (s.station 0).state = .arrived ∧
      (s.station 0).body = some sel0.key ∧ (s.station 0).work = some [⟨0, .owed, false⟩] ∧
      (∀ w ∈ [(⟨0, .owed, false⟩ : WorkItem)], w.comp = .owed ↔ w.robot = 0) ∧
      ((s.robot 0).slot 1).content = .valid 3 1 ∧ (s.robot 0).enabled = true) ∧
    u.resetInput = false ∧ (u.robot 0).busy = some ⟨select0, 3⟩ := by
  intro s u; decide +kernel

/-- A SELECT on bus 0 while robot 0 is in a motion state. -/
def answering (m : Motion) : State := carrying .select (.select select0) (inMotion m run0)

theorem witness_SelectAnswersAreTaken_out_of_selecting :
    (∀ m ∈ [Motion.idle, .aborting sel0, .selected sel0, .welding sel0], (answering m).resetInput = false ∧
      ((answering m).bus 0).cur = some (onBus .select (.select select0) 1) ∧ ((answering m).robot 0).motion = m ∧
      (((answering m).robot 0).slot select0.slot).content = .valid 3 1) ∧
    ∀ n stamp, (((emptySlots (answering .idle)).robot 0).slot select0.slot).content ≠ .valid n stamp := by
  refine ⟨by decide +kernel, fun n stamp h => ?_⟩
  rw [show (((emptySlots (answering .idle)).robot 0).slot select0.slot).content = .empty by decide +kernel] at h
  cases h

theorem witness_AbortedEndsTheAbort :
    let s := carrying .abort (.abort 1 0 false) (inMotion (.aborting sel0) ((run1 (.onLine (.before 1))).modStation 0 fun x =>
      { x with state := .clearing, abortWait := [0] }))
    s.resetInput = false ∧ (s.bus 0).cur = some (onBus .abort (.abort 1 0 false) 1) ∧ 3 < s.slotCount 0 ∧ 256 ≤ 256 ∧
      (s.robot 0).motion = .aborting sel0 ∧ (s.robot 0).enabled = true ∧ (s.station 0).state = .clearing ∧
      0 ∈ (s.station 0).abortWait ∧ s.bodyOf sel0.key = some (body (.onLine (.before 1))) := by
  intro s; decide +kernel

theorem witness_StatusReplyReportsTheCycle :
    let s := carrying .poll .poll welding0
    let u := s.modRobot 0 fun x => { x with online := false }
    (s.resetInput = false ∧ (s.bus 0).cur = some (onBus .poll .poll 1) ∧ (s.robot 0).fault = none ∧
      (s.robot 0).online = true ∧ (s.robot 0).enabled = true ∧ (s.robot 0).lastDress = some 1 ∧
      (s.robot 0).motion = .welding sel0 ∧ s.stationOf 0 = some 0 ∧ (s.station 0).state = .welding ∧
      (s.station 0).body = some sel0.key ∧ (s.station 0).work = some [⟨0, .owed, false⟩] ∧
      s.bodyOf sel0.key = some (body (.onLine (.atStation 0))) ∧ (s.robot 0).dispatch = 0) ∧
    (u.bus 0).cur = some (onBus .poll .poll 1) ∧ (u.robot 0).online = false ∧ (u.robot 0).lastDress = some 1 := by
  intro s u; decide +kernel

/-- A poll of robot 0 on bus 0, the robot in a motion state at a station in a state. -/
def reporting (st : StationState) (m : Motion) : State := carrying .poll .poll (inMotion m (atStation 0 st owed0))

theorem witness_StatusReplyReportsTheCycle_faults_dress_and_stale :
    (∀ x ∈ [(⟨3, 0, 7, 256, 255, 1, 0⟩ : StatusRecord), ⟨4, 7, 0, 0, 0, 255, 255⟩, ⟨4, 0, 7, 0, 0, 1, 1⟩,
        ⟨3, 1, 7, 2, 0, 2, 0⟩, ⟨5, 0, 7, 0, 0, 0, 0⟩, ⟨0, 0, 0, 0, 0, 1, 0⟩],
      x.state ≤ 5 ∧ x.echo ≤ 7 ∧ x.welds ≤ 256 ∧ x.weldFaults ≤ 255 ∧ x.dress ≤ 255 ∧ x.faultNumber ≤ 255 ∧
        (x.state = 4 ↔ 1 ≤ x.faultNumber)) ∧
    (∀ st ∈ [StationState.welding, .arrived, .fault], ∀ m ∈ [Motion.selected sel0, .welding sel0, .idle, .aborting sel0],
      ((reporting st m).bus 0).cur = some (onBus .poll .poll 1) ∧ (reporting st m).resetInput = false ∧
        ((reporting st m).robot 0).online = true ∧ ((reporting st m).robot 0).enabled = true ∧
        ((reporting st m).robot 0).motion = m ∧ (reporting st m).stationOf 0 = some 0 ∧
        ((reporting st m).station 0).body = some sel0.key ∧ ((reporting st m).station 0).state = st ∧
        ((reporting st m).robot 0).fault = none ∧ ((reporting st m).robot 0).dispatch = 0 ∧
        (reporting st m).bodyOf sel0.key = some (body (.onLine (.atStation 0)))) ∧
    (reporting .welding (.welding sel0)).dressed 0 ⟨3, 1, 7, 2, 0, 2, 0⟩ = true ∧
      (reporting .welding (.welding sel0)).dressed 0 ⟨4, 0, 7, 0, 0, 1, 1⟩ = false := by decide +kernel

/-- A report that removes a fault code begins no load of the head job's program where that program is gone (R89, R90). -/
theorem test_no_load_of_a_deleted_program :
    let s := ((reporting .empty .idle).modStage 0 fun x => { x with jobs := [⟨0, 1, 0, 0, false⟩] }).modRobot 0 fun x =>
      { x with fault := some (.robot 9) }
    nextOf (exec (.statusReply 0 3 ⟨0, 0, 0, 0, 0, 1, 0⟩) s) fun t =>
      (t.stage 0).load = none ∧ (t.prog 0).refs = 0 ∧ (t.robot 0).fault = none := by
  intro s; decide +kernel

/-- A head job whose program the library has lost, and a fault code that a report removes. -/
theorem witness_StatusReplyReportsTheCycle_stale_job :
    let s := (reporting .empty .idle).modStage 0 fun x => { x with jobs := [⟨0, 1, 0, 0, false⟩] }
    ((s.modRobot 0 fun x => { x with fault := some (.robot 9) }).robot 0).fault = some (.robot 9) ∧
      (s.stage 0).jobs = ⟨0, 1, 0, 0, false⟩ :: [] ∧ ∀ d, (s.prog 0).state ≠ .ready 1 d := by
  intro s
  refine ⟨by decide +kernel, by decide +kernel, fun d h => ?_⟩
  rw [show (s.prog 0).state = .empty by decide +kernel] at h
  cases h

/-- Robot 0 with a poll pending. -/
def polled : State := run0.modPend 0 fun x => { x with poll := some ⟨.poll, .poll, 20, 2⟩ }

theorem witness_ArbiterServesHighestClassInTurn :
    (run0.resetInput = false ∧ (run0.bus 0).cur = none ∧ run0.pendInv ∧ (∀ r p, run0.place r = some p → p.drop < 8) ∧
      ∀ c r, run0.eligibleTx 0 c r = none) ∧
    (polled.bus 0).cur = none ∧ (∀ r p, polled.place r = some p → p.drop < 8) ∧ polled.pendInv ∧
      ∃ c r, polled.eligibleTx 0 c r ≠ none := by
  refine ⟨⟨rfl, by decide +kernel, pendInv_of_empty rfl rfl, fun r p h => (run0_places.1 r p h).2.1, ?_⟩, by decide +kernel,
    fun r p h => (run0_places.1 r p h).2.1, ?_, .poll, 0, by decide +kernel⟩
  · exact run0_eligibleTx 0
  · intro r
    have h := pendInv_of_empty (s := run0) rfl rfl r
    by_cases hr : r = 0
    · subst hr
      exact ⟨by decide +kernel, by decide +kernel, by decide +kernel, by decide +kernel, h.2.2.2.2⟩
    · have : polled.pendOf r = run0.pendOf r := by simp [polled, State.pendOf, State.modPend, hr]
      rw [this]; exact h

theorem witness_NoReplyRetriesThenLosesTheRobot :
    (∀ n, n = 1 ∨ n = 3 → ((run0.modBus 0 fun x => { x with cur := some (onBus .poll .poll n) }).bus 0).cur =
      some (onBus .poll .poll n)) ∧
    (onBus .poll .poll 1).sendings ≤ (onBus .poll .poll 1).tx.retries ∧
    (onBus .poll .poll 3).tx.retries < (onBus .poll .poll 3).sendings ∧
    (onBus .query .poll 3).tx.cls = .query ∧ (onBus .poll .poll 3).tx.cls ≠ .query ∧ (run0.robot 0).motion = .idle ∧
    (run0.stage 0).load = none ∧
    ∀ c y, c ≠ 0 → ((run0.modBus 0 fun x => { x with cur := some (onBus .poll .poll 3) }).bus c).cur = some y →
      y.robot ≠ 0 := by
  refine ⟨by rintro n (rfl | rfl) <;> decide +kernel, by decide, by decide, rfl, by decide, by decide +kernel,
    by decide +kernel, ?_⟩
  intro c y hc h
  have h0 : run0.bus c = .reset := tget_replicate_self _ c
  have h1 : (run0.modBus 0 fun x => { x with cur := some (onBus .poll .poll 3) }).bus c = run0.bus c := by
    simp [State.bus, State.modBus, hc]
  rw [h1, h0] at h
  simp [Bus.reset] at h

/-- A poll of robot 0 at its last sending on bus 0, the robot in a motion state. -/
def losing (m : Motion) (s : State) : State :=
  (inMotion m s).modBus 0 fun x => { x with cur := some (onBus .poll .poll 3) }

theorem witness_NoReplyRetriesThenLosesTheRobot_at_work :
    (∀ m ∈ [Motion.selecting sel0, .selected sel0, .welding sel0], (losing m (atStation 0 .welding owed0)).resetInput = false ∧
      ((losing m (atStation 0 .welding owed0)).bus 0).cur = some (onBus .poll .poll 3) ∧
      ((losing m (atStation 0 .welding owed0)).robot 0).motion = m ∧
      ((losing m (atStation 0 .welding owed0)).robot 0).enabled = true ∧
      (losing m (atStation 0 .welding owed0)).stationOf 0 = some 0 ∧
      ((losing m (atStation 0 .welding owed0)).station 0).state ≠ .fault ∧
      ((losing m (atStation 0 .welding owed0)).station 0).body = some sel0.key) ∧
    ((losing (.aborting sel0) (run0.modStation 0 fun x => { x with state := .clearing, abortWait := [0] })).station 0).abortWait =
      [0] ∧
    ((losing .idle (loading0 1 run0)).stage 0).load = some ⟨4, 2, 3, 1, 2, .streaming, 1⟩ ∧
    (onBus .query (.slotQuery 4) 3).tx.req ≠ .poll := by decide +kernel

theorem witness_SlotReportClassifiesUnknownSlots :
    ((carrying .query (.slotQuery 4) run0).bus 0).cur = some (onBus .query (.slotQuery 4) 1) ∧
      [⟨3, 1⟩, ⟨3, 2⟩, ⟨0xFFFF, 0⟩, (⟨5, 5⟩ : SlotRecord)].length = (carrying .query (.slotQuery 4) run0).slotCount 0 ∧
      (run0.robot 0).slots[0] = ⟨.unknown, 0⟩ ∧ (run0.robot 0).slots[1] = ⟨.valid 3 1, 4⟩ := by decide +kernel

theorem witness_LoadAckStreamsTheProgram :
    let s := loading0 0 (carrying .load (.loadOpen 4 2 3 1 2) run0)
    let u := loading0 0 (carrying .load (.loadData 4 2 0 [default, default]) run0)
    s.resetInput = false ∧ (s.bus 0).cur = some (onBus .load (.loadOpen 4 2 3 1 2) 1) ∧ 3 < s.slotCount 0 ∧
      (s.stage 0).load = some ⟨4, 2, 3, 1, 2, .streaming, 0⟩ ∧ (s.prog 3).state = .ready 1 ⟨2, 0xABCD, 2, [0], [0]⟩ ∧
      (u.bus 0).cur = some (onBus .load (.loadData 4 2 0 [default, default]) 1) ∧ 2 ≤ 0 + [0, 0].length ∧
      (run0.stage 0).load = none := by
  intro s u; decide +kernel

theorem witness_LoadCheckReplyEndsTheLoad :
    let s := loading0 2 (carrying .load (.loadClose 4 2) run0)
    s.resetInput = false ∧ (s.bus 0).cur = some (onBus .load (.loadClose 4 2) 1) ∧ 3 < s.slotCount 0 ∧
      (s.stage 0).load = some ⟨4, 2, 3, 1, 2, .streaming, 2⟩ ∧ (s.stage 0).jobs = [⟨3, 1, 0, 0, true⟩] ∧
      (s.prog 3).state = .ready 1 ⟨2, 0xABCD, 2, [0], [0]⟩ := by
  intro s; decide +kernel

/-- A state whose ports are those of `base` keeps their counters in range. -/
theorem portsInv_of_base {s : State} (hp : s.ports = base.ports) (hl : s.layout.thresholds = Layout.default.thresholds) :
    s.portsInv := by
  have h1 : ∀ p, s.port p = base.port p := fun p => by simp [State.port, hp]
  have h2 : ∀ p, s.threshold p = base.threshold p := fun p => by simp only [State.threshold, hl]; rfl
  intro p
  rw [h1, h2]
  revert p
  decide +kernel

/-- The line of `run0` in SETUP. -/
def setup0 : State := { run0 with mode := .setup }

/-- A LINE record in every range. -/
def rawLine0 : RawLine := ⟨2, 4, 4, 64, 1, 2, some .hold, 2, 3, some .nearestEven, 20, 2, 50, 500⟩

theorem witness_LayoutWriteReplacesItsRecords :
    (run0.takes h0 .library ∧ run0.mode = .run) ∧ setup0.takes h0 .library ∧ setup0.mode = .setup ∧ setup0.portsInv ∧
      (∀ r q p p', setup0.place r = some p → setup0.place q = some p' → r ≠ q → p.bus ≠ p'.bus ∨ p.drop ≠ p'.drop) ∧
      (∃ ok : RawRecord → Prop, (∀ x, ok x ↔ match x with
          | .line r => (1 ≤ r.stations ∧ r.stations ≤ 16) ∧ r.m ≤ 8 ∧ r.n ≤ 8 ∧
              (r.ringLength = 64 ∨ r.ringLength = 128 ∨ r.ringLength = 256) ∧ r.lowMark ≤ 255 ∧ (1 ≤ r.lead ∧ r.lead ≤ 8) ∧
              r.policy ≠ none ∧ (1 ≤ r.depth ∧ r.depth ≤ 3) ∧ (1 ≤ r.checkAttempts ∧ r.checkAttempts ≤ 8) ∧
              r.rounding ≠ none ∧ (5 ≤ r.replyTimeout ∧ r.replyTimeout ≤ 250) ∧ r.retryLimit ≤ 3 ∧
              (10 ≤ r.pollInterval ∧ r.pollInterval ≤ 1000) ∧ 100 ≤ r.probeInterval ∧ r.probeInterval ≤ 5000
          | .station i r => i < 16 ∧ r.zone ≤ 3 ∧ r.source ≠ none ∧ (10 ≤ r.budget ∧ r.budget ≤ 60000) ∧ r.filter ≤ 250 ∧
              r.sense ≠ none ∧ 50 ≤ r.confirm ∧ r.confirm ≤ 5000
          | .robot i .absent => i < 32
          | .robot i (.present r) => i < 32 ∧ r.bus ≤ 3 ∧ r.drop ≤ 7 ∧ r.station ≤ 15 ∧ 2 ≤ r.slots ∧ r.slots ≤ 8
          | .robot _ .unlisted => False
          | .bus i r => i < 4 ∧ r.pacing ≠ none ∧ 1 ≤ r.interval ∧ r.interval ≤ 250
          | .port i threshold => i < 4 ∧ 1 ≤ threshold ∧ threshold ≤ 254
          | .other _ _ => False) ∧
        ok (.line { rawLine0 with ringLength := 256, m := 8, n := 0, stations := 16 }) ∧
        ¬ ok (.line { rawLine0 with ringLength := 65 }) ∧
        ok (.station 15 ⟨3, some .both, 60000, 250, some .lowPresent, 5000⟩) ∧
        ¬ ok (.station 16 ⟨0, some .frame, 10, 0, some .highPresent, 50⟩) ∧
        ok (.robot 31 .absent) ∧ ¬ ok (.robot 32 .absent) ∧ ok (.robot 0 (.present ⟨3, 7, 15, 8⟩)) ∧
        ¬ ok (.robot 0 (.present ⟨3, 7, 15, 1⟩)) ∧ ¬ ok (.robot 0 .unlisted) ∧ ok (.bus 3 ⟨some .paced, 250⟩) ∧
        ¬ ok (.bus 3 ⟨none, 250⟩) ∧ ok (.port 3 254) ∧ ¬ ok (.port 3 255) ∧ ¬ ok (.other 9 0)) ∧
      (3 : Nat) ≠ h0.port.val ∧
      (setup0.place 2 = none ∧ setup0.place 1 = some ⟨true, 0, 5, 1, 2⟩ ∧ (setup0.robot 1).motion = .idle ∧
        (setup0.stage 1).load = none) :=
  ⟨⟨takes_of_base .library rfl rfl, rfl⟩, takes_of_base .library rfl rfl, rfl, portsInv_of_base rfl rfl, run0_places.2,
    ⟨_, fun _ => Iff.rfl, by decide, by decide, by decide, by decide, by decide, by decide, by decide, by decide,
      id, by decide, by decide, by decide, by decide, id⟩, by decide, by decide +kernel⟩

theorem witness_StartAndStopChangeTheMode :
    (({ run0 with mode := .setup } : State).takes h0 .library ∧ 4 ≤ run0.line.m + run0.line.n ∧
      run0.line.m + run0.line.n ≤ 8 ∧ (∀ r p, run0.place r = some p → p.station < run0.stationCount) ∧
      (∀ r q p p', run0.place r = some p → run0.place q = some p' → r ≠ q → p.bus ≠ p'.bus ∨ p.drop ≠ p'.drop) ∧
      run0.line.depth ≤ run0.line.lead ∧ ∀ r, (run0.stage r).jobs = []) ∧
    ((lined (fun l => { l with m := 1, n := 2 }) base).takes h0 .library ∧
      (lined (fun l => { l with m := 1, n := 2 }) base).mode = .setup ∧
      (lined (fun l => { l with m := 1, n := 2 }) base).line.m + (lined (fun l => { l with m := 1, n := 2 }) base).line.n < 4 ∧
      8 < (lined (fun l => { l with m := 5 }) base).line.m + (lined (fun l => { l with m := 5 }) base).line.n) ∧
    (run0.takes h0 .library ∧ run0.mode = .run ∧ run0.bodies = [] ∧ ∀ r, r < 32 → (run0.stage r).load = none) ∧
    ((run1 .admitted).takes h0 .library ∧ (run1 .admitted).bodies ≠ []) ∧
    ((loading0 0 run0).takes h0 .library ∧ ((loading0 0 run0).stage 0).load ≠ none) ∧
    (run0.listens (⟨0, 1, false⟩ : Hdr).port ∧ run0.grants (⟨0, 1, false⟩ : Hdr).port .library) ∧
    requestOf (.seqSkip h0) = some (h0, 0x11, .sequence) ∧ requestOf (.clearStation h0 0) = some (h0, 0x27, .zone) ∧
      setup0.listens h0.port ∧ setup0.grants h0.port .sequence ∧ setup0.grants h0.port .zone ∧ setup0.mode = .setup :=
  ⟨⟨takes_of_base .library rfl rfl, by decide, by decide, fun r p h => (run0_places.1 r p h).1, run0_places.2, by decide,
      fun r => by rw [run0_stage]; rfl⟩,
    ⟨takes_of_base .library rfl rfl, rfl, by decide, by decide⟩,
    ⟨takes_of_base .library rfl rfl, rfl, rfl, fun r _ => by rw [run0_stage]; rfl⟩,
    ⟨takes_of_base .library rfl rfl, by simp [run1]⟩, ⟨takes_of_base .library rfl rfl, by decide +kernel⟩,
    ⟨(takes_of_base .library rfl rfl).1, (takes_of_base .library rfl rfl).2.1⟩, rfl, rfl, (takes_of_base .zone rfl rfl).1,
    (takes_of_base .sequence rfl rfl).2.1, (takes_of_base .zone rfl rfl).2.1, rfl⟩

theorem witness_TrackResetKeepsTheLibrary :
    (welding0.takes h0 .library ∧ welding0.stationCount ≤ 16) ∧ base.takes h0 .library ∧
      (loading0 1 run0).takes h0 .library ∧ ((loading0 1 run0).stage 0).load.map (·.slot) = some 2 :=
  ⟨⟨takes_of_base .library rfl rfl, by decide +kernel⟩, takes_of_base .library rfl rfl, takes_of_base .library rfl rfl,
    by decide +kernel⟩

theorem witness_PowerOnAndResetRestoreTheDefaults :
    ({ run0 with resetInput := true } : State).resetInput = true ∧ run0.resetInput = false := ⟨rfl, rfl⟩

theorem witness_FramesSpellTheirCommands :
    (∀ e ∈ [(⟨255, true, true, 65535, 0xFFFF, 0xFFFF, -32768⟩ : RawEntry), ⟨0, false, false, 0, 0, 0, 32767⟩],
      e.wellFormed = true) ∧
    (List.replicate 255 (default : SeqEntry)).length < 256 ∧ (List.replicate 256 (default : RawPoint)).length ≤ 256 ∧
    (List.replicate 128 (default : SlotRecord)).length ≤ 128 ∧
    [0x00#8, 0x00#8] ≠ bytesOf (crc16 ([0x83#8, 0x82#8] ++ bytesOfNat 0 ++ [])) ∧
    0xC3#8 ∉ [0xA5#8, 0x00#8] ∧ 0xA5#8 ∉ [0xC3#8, 0x5A#8] ∧ 6 < (dropFrame 0x83#8 0x82#8 []).length ∧
    [0x00#8, 0x00#8] ≠ bytesOf (crc16 ([0x01#8, 0x07#8] ++ bytesOfNat 0 ++ [])) ∧ 512 < (wordOf 0x02#8 0x01#8).toNat ∧
    ¬ 512 < (wordOf 0x02#8 0x00#8).toNat ∧ (⟨0x01, 7, .done, true, .nothing⟩ : Reply).contents = .nothing ∧
    (⟨0x10, 7, .full, true, .appended 3 515⟩ : Reply).contents = .appended 3 515 ∧ [0x01#8, 0x02#8].length ≠ 1 ∧
    ([] : List Byte).length ≠ 1 ∧ (⟨0x09, 7, .done, false, .mask 127⟩ : Reply).contents = .mask 127 := by decide +kernel

/-- The invariants hold of a line in RUN, from which a step goes on. -/
theorem witness_invariants_and_a_step :
    run0.portsInv ∧ run0.bodiesInv ∧ run0.robotsInv ∧ run0.libraryInv ∧ run0.pendInv ∧ run0.ringInv ∧
      looping.ringInv ∧ run0.layoutInv ∧ ∃ t, step run0 = .next t :=
  ⟨portsInv_of_base rfl rfl, by unfold State.bodiesInv; decide +kernel, by unfold State.robotsInv; decide +kernel,
    run0_libraryInv, pendInv_of_empty rfl rfl, by unfold State.ringInv; decide +kernel,
    by unfold State.ringInv; decide +kernel,
    ⟨by decide, by decide, fun r => by rw [run0_robotPlace]; split <;> [skip; split] <;> decide⟩, _, rfl⟩

end Tests
end Machine
end Sys2Proof
end

section
/-!
SUPPORT. STATUS (O11): what its view says of the module in the statement's own words, each figure by a lemma of its own, and
how a request whose block changes nothing is answered.
-/
namespace Sys2Proof
namespace Machine
namespace State

variable (s : State)

/-- A request that its port hands to a block which changes nothing is answered with the block's code and contents, and the
ports alone change (R171, R177, R178). -/
theorem exec_request_of_block_unchanged {i : Instr} {h : Hdr} {kind : Byte} {g : Group}
    (hr : requestOf i = some (h, kind, g)) (hl : s.listens h.port) (hg : s.grants h.port g) {c : Code} {k : Contents}
    (hb : requestBlock i (s.goodFrameOn h.port.val) = ⟨s.goodFrameOn h.port.val, c, k⟩) :
    ∃ t, exec i s = .next t ∧ answered h kind c k s t ∧ t = { s with ports := t.ports } := by
  refine ⟨(s.goodFrameOn h.port.val).sendReply h kind c k, ?_, s.answered_sendReply rfl kind c k, rfl⟩
  rw [exec_of_request hr, s.receive_of_listens hl, serveHeld_of_request hr]
  simp only [serve, s.portRefusal_of_grants hg, hb]

/-- The ring is empty exactly where it counts no entry (R1). -/
theorem ringEntries_eq_nil_iff : s.ringEntries = [] ↔ s.ringCount = 0 := by
  simp only [ringEntries, List.map_eq_nil_iff, List.range_eq_nil]

theorem length_ringEntries : s.ringEntries.length = s.ringCount := by
  simp only [ringEntries, List.length_map, List.length_range]

/-- The admission condition with the ring's entries themselves in place of their count (R12, R15). -/
theorem admissionCondition_eq :
    s.admissionCondition =
      if s.mode = .setup then .setup
      else if s.ringEntries = [] then .empty
      else if 48 ≤ s.bodies.length then .tableFull
      else if s.line.lead ≤ s.admittedCount then .lead
      else if s.ring.stalled then .held
      else .openNow := by
  have hempty := s.ringEntries_eq_nil_iff
  by_cases hcount : s.ringCount = 0
  · rw [admissionCondition, if_pos hcount, if_pos (hempty.mpr hcount)]
  · rw [admissionCondition, if_neg hcount, if_neg (mt hempty.mp hcount), Config.bodyCapacity]

/-- The free blocks are those without a holder (R79). -/
theorem freeBlocks_eq : s.freeBlocks = (List.range 512).filter fun b => (s.block b).holder == none := by
  simp only [freeBlocks, Option.beq_none]

/-- The robots in the layout that are ONLINE (R179). -/
theorem presentRobots_filter_online :
    (s.presentRobots.filter fun r => (s.robot r).online) =
      (List.range 32).filter fun r => (s.place r).isSome && (s.robot r).online := by
  simp only [presentRobots, List.filter_filter, Bool.and_comm]

end State

/-- The entries of a table are its reads at its own places, in order. -/
theorem toList_eq_map_tget {α : Type} {n : Nat} (d : α) (v : Vector α n) : v.toList = (List.range n).map (tget d v) := by
  refine List.ext_getElem (by simp) fun i hi _ => ?_
  have hn : i < n := by simpa using hi
  simp [tget_eq d v i hn]

/-- The pool's free count by set number (R28). -/
theorem State.poolFree_eq (s : State) :
    s.poolFree = 2048 - ((List.range 128).map fun k => ((s.dispatchSet k).entries.getD []).length).sum := by
  rw [State.poolFree, toList_eq_map_tget ⟨none, 0⟩ s.sets, List.map_map]
  rfl

/-- The port STATUS reports on is the port as its own good frame left it (R171, R173). -/
theorem State.statusView_goodFrameOn (s : State) (p : Fin 4) :
    (s.goodFrameOn p.val).statusView p.val =
      { s.statusView p.val with
        errors := (s.port p.val).errors - 1
        degraded := (s.port p.val).degraded && (s.port p.val).errors - 1 != 0 } := by
  simp only [State.statusView, s.port_goodFrameOn p]
  rfl

theorem requestBlock_status_of_lengthOk {h : Hdr} (hlen : h.lengthOk = true) (s : State) :
    requestBlock (.status h) s = s.done (.status (s.statusView h.port.val)) :=
  if_pos hlen

theorem requestBlock_status_of_not_lengthOk {h : Hdr} (hlen : h.lengthOk = false) (s : State) :
    requestBlock (.status h) s = s.refuse .range :=
  if_neg (by simp [hlen])

/-- Settles O11: STATUS only reads, so its reply is the view of the state its good frame left, whose figures the lemmas above
spell out. -/
theorem statusReportsTheModule : Obligations.StatusReportsTheModule := by
  refine ⟨fun s h htakes => ?_, fun s h hlistens hlen => ?_⟩
  · obtain ⟨hlistens, hgrants, hlen⟩ := htakes
    have hblock := requestBlock_status_of_lengthOk hlen (s.goodFrameOn h.port.val)
    rw [s.statusView_goodFrameOn] at hblock
    obtain ⟨t, hexec, hanswered, hframe⟩ := s.exec_request_of_block_unchanged rfl hlistens hgrants hblock
    refine ⟨t, hexec, _, hanswered, hframe, ?_⟩
    simp only [State.statusView, true_and]
    exact ⟨s.length_ringEntries.symm, rfl, congrArg List.length s.freeBlocks_eq, rfl,
      congrArg List.length s.presentRobots_filter_online, s.poolFree_eq, s.admissionCondition_eq⟩
  · have hgrants : s.grants h.port .query := trivial
    exact s.exec_request_of_block_unchanged rfl hlistens hgrants
      (requestBlock_status_of_not_lengthOk hlen (s.goodFrameOn h.port.val))

end Machine
end Sys2Proof
end

section
/-!
SUPPORT. SET WRITE and SET DELETE (O19): the references of a program after a list of entries gains or loses them, one
lemma for the replacing of a set that the two requests share, and the checks of R30 entry by entry.
-/
namespace Sys2Proof
namespace Machine

/-! ### The checks of SET WRITE (R30) -/

/-- A written entry passes check 2 of R30 exactly where its fields are in range and its Last flag marks the final place. -/
theorem faultyEntry_eq_false_iff (n place : Nat) (e : RawEntry) :
    faultyEntry n place e = false ↔
      e.robot < 32 ∧ e.program < 512 ∧ -200 ≤ e.trim ∧ e.trim ≤ 200 ∧ (e.last = true ↔ place + 1 = n) := by
  have hlast : (e.last != (place + 1 == n)) = false ↔ (e.last = true ↔ place + 1 = n) := by
    rw [bne_eq_false_iff_eq, Bool.eq_iff_iff, beq_iff_eq]
  simp only [faultyEntry, Bool.or_eq_false_iff, hlast, decide_eq_false_iff_not, not_lt, and_assoc,
    Nat.lt_succ_iff]

/-- No entry is faulty exactly where none is faulty at its place. -/
theorem firstFaulty_eq_none_iff (entries : List RawEntry) :
    firstFaulty entries = none ↔ ∀ (i : Nat) (e : RawEntry), entries[i]? = some e → faultyEntry entries.length i e = false := by
  simp only [firstFaulty, Option.map_eq_none_iff, List.find?_eq_none, Prod.forall, List.mk_mem_zipIdx_iff_getElem?,
    Bool.not_eq_true]
  exact forall_comm

namespace State

variable (s : State)

/-- Check 4 of R30 passes exactly where every entry names a READY program. -/
theorem firstNotReady_eq_none_iff (entries : List RawEntry) :
    s.firstNotReady entries = none ↔ ∀ (i : Nat) (e : RawEntry), entries[i]? = some e → s.ready e.program ≠ none := by
  simp only [firstNotReady, Option.map_eq_none_iff, List.find?_eq_none, Prod.forall, List.mk_mem_zipIdx_iff_getElem?,
    Option.isNone_iff_eq_none]
  exact forall_comm

/-! ### References (R31, R32) -/

/-- A program loses one reference for each entry that names it. -/
theorem prog_dropRefs (entries : List DispatchEntry) (k : Nat) :
    (s.dropRefs entries).prog k =
      { s.prog k with refs := (s.prog k).refs - (entries.filter fun e => e.program == k).length } := by
  induction entries generalizing s with
  | nil => rfl
  | cons e rest ih =>
    have hstep : s.dropRefs (e :: rest) = (s.dropRef e.program).dropRefs rest := rfl
    rw [hstep, ih, prog_dropRef]
    by_cases he : e.program = k
    · simp [he]; omega
    · simp [he]

/-- A program gains one reference for each entry that names it. -/
theorem prog_addRefs (entries : List DispatchEntry) {k : Nat} (hk : k < 512) :
    (s.addRefs entries).prog k =
      { s.prog k with refs := (s.prog k).refs + (entries.filter fun e => e.program == k).length } := by
  induction entries generalizing s with
  | nil => rfl
  | cons e rest ih =>
    have hstep : s.addRefs (e :: rest) = (s.addRef e.program).addRefs rest := rfl
    rw [hstep, ih, prog_addRef _ _ _ hk]
    by_cases he : e.program = k
    · simp [he]; omega
    · simp [he]

theorem dropRefs_eq (entries : List DispatchEntry) :
    s.dropRefs entries = { s with library := { s.library with progs := (s.dropRefs entries).library.progs } } := by
  induction entries generalizing s with
  | nil => rfl
  | cons e rest ih => exact ih (s.dropRef e.program)

theorem addRefs_eq (entries : List DispatchEntry) :
    s.addRefs entries = { s with library := { s.library with progs := (s.addRefs entries).library.progs } } := by
  induction entries generalizing s with
  | nil => rfl
  | cons e rest ih => exact ih (s.addRef e.program)

/-! ### Replacing a set -/

/-- Set `n` becomes `e`: the programs of its old entries lose their references, those of its new ones gain theirs. -/
def replaceSet (n : Nat) (e : SetEntry) (old new : List DispatchEntry) (s : State) : State :=
  ((s.dropRefs old).setSet n e).addRefs new

section
variable (n : Nat) (e : SetEntry) (old new : List DispatchEntry)

theorem sets_replaceSet : (s.replaceSet n e old new).sets = tset s.sets n e := by
  simp [replaceSet]

theorem prog_replaceSet {m : Nat} (hm : m < 512) :
    (s.replaceSet n e old new).prog m = { s.prog m with
      refs := (s.prog m).refs - (old.filter fun x => x.program == m).length +
        (new.filter fun x => x.program == m).length } := by
  have hset : ((s.dropRefs old).setSet n e).prog m = (s.dropRefs old).prog m := rfl
  rw [replaceSet, prog_addRefs _ _ hm, hset, prog_dropRefs]

/-- Replacing a set changes the sets and the program entries alone. -/
theorem replaceSet_eq :
    s.replaceSet n e old new = { s with
      sets := (s.replaceSet n e old new).sets
      library := { s.library with progs := (s.replaceSet n e old new).library.progs } } := by
  rw [replaceSet, addRefs_eq, dropRefs_eq]
  rfl

theorem ports_replaceSet : (s.replaceSet n e old new).ports = s.ports := by
  rw [replaceSet_eq]

end

/-- A request that its port hands to a block which leaves the ports alone is answered with the block's code and contents, on
the state the block left (R171, R177, R178). -/
theorem exec_request_of_block {i : Instr} {h : Hdr} {kind : Byte} {g : Group} (hr : requestOf i = some (h, kind, g))
    (hl : s.listens h.port) (hg : s.grants h.port g) {u : State} {c : Code} {k : Contents}
    (hb : requestBlock i (s.goodFrameOn h.port.val) = ⟨u, c, k⟩) (hu : u.ports = (s.goodFrameOn h.port.val).ports) :
    exec i s = .next (u.sendReply h kind c k) ∧ answered h kind c k s (u.sendReply h kind c k) := by
  refine ⟨?_, s.answered_sendReply hu kind c k⟩
  rw [exec_of_request hr, s.receive_of_listens hl, serveHeld_of_request hr]
  simp only [serve, s.portRefusal_of_grants hg, hb]

/-- What a request does whose block replaces a set and reports the free count then (R31, R32). -/
theorem exec_request_of_replaceSet {i : Instr} {h : Hdr} {kind : Byte} {g : Group}
    (hr : requestOf i = some (h, kind, g)) (hl : s.listens h.port) (hg : s.grants h.port g) {n : Nat} (hn : n < 128)
    {e : SetEntry} {old new : List DispatchEntry} {u : State} (hu : u = (s.goodFrameOn h.port.val).replaceSet n e old new)
    (hb : requestBlock i (s.goodFrameOn h.port.val) = u.done (.free u.poolFree)) :
    ∃ t, exec i s = .next t ∧ answered h kind .done (.free t.poolFree) s t ∧
      t.dispatchSet n = e ∧ (∀ k, k ≠ n → t.dispatchSet k = s.dispatchSet k) ∧
      (∀ m, m < 512 → t.prog m = { s.prog m with
        refs := (s.prog m).refs - (old.filter fun x => x.program == m).length +
          (new.filter fun x => x.program == m).length }) ∧
      t.library = { s.library with progs := t.library.progs } ∧
      t = { s with ports := t.ports, sets := t.sets, library := t.library } := by
  have hports : u.ports = (s.goodFrameOn h.port.val).ports := by rw [hu, ports_replaceSet]
  have hsets : u.sets = tset s.sets n e := by rw [hu, sets_replaceSet]; rfl
  obtain ⟨hexec, hanswered⟩ := s.exec_request_of_block hr hl hg hb hports
  refine ⟨u.sendReply h kind .done (.free u.poolFree), hexec, hanswered, ?_, fun k hk => ?_, fun m hm => ?_, ?_, ?_⟩
  · change tget _ u.sets n = e
    rw [hsets, tget_tset_self _ _ _ _ hn]
  · change tget _ u.sets k = tget _ s.sets k
    rw [hsets, tget_tset_ne _ _ _ _ _ hk]
  · change u.prog m = _
    rw [hu]
    exact prog_replaceSet _ _ _ _ _ hm
  · change u.library = { s.library with progs := u.library.progs }
    rw [hu, replaceSet_eq]
    rfl
  · rw [hu, replaceSet_eq]
    rfl

end State

/-! ### The blocks of SET WRITE and SET DELETE -/

/-- SET WRITE past its five checks (R30, R31). -/
theorem setWriteBlock_of_checks {h : Hdr} {n : Nat} {entries : List RawEntry} {s : State} (hlen : h.lengthOk = true)
    (hn : n < 128) (hfault : entriesFault entries = none) (hfree : (s.dispatchSet n).inUse = 0)
    (hready : s.firstNotReady entries = none)
    (hfit : entries.length ≤ s.poolFree + ((s.dispatchSet n).entries.getD []).length) {u : State}
    (hu : u = s.replaceSet n ⟨some (entries.map storedEntry), 0⟩ ((s.dispatchSet n).entries.getD [])
      (entries.map storedEntry)) :
    setWriteBlock h n entries s = u.done (.free u.poolFree) := by
  have hrange : ¬ (Config.setCount ≤ n ∨ h.lengthOk = false) := by simp [hlen, Config.setCount, hn]
  have hfull : ¬ s.poolFree + ((s.dispatchSet n).entries.getD []).length < entries.length := by omega
  simp only [setWriteBlock, if_neg hrange, hfault, hfree, hready, if_neg hfull, hu]
  rfl

/-- SET DELETE of a defined set not in use (R32). -/
theorem setDeleteBlock_of_free {h : Hdr} {n : Nat} {old : List DispatchEntry} {s : State} (hlen : h.lengthOk = true)
    (hn : n < 128) (hset : s.dispatchSet n = ⟨some old, 0⟩) {u : State} (hu : u = s.replaceSet n ⟨none, 0⟩ old []) :
    setDeleteBlock h n s = u.done (.free u.poolFree) := by
  have hrange : ¬ (Config.setCount ≤ n ∨ h.lengthOk = false) := by simp [hlen, Config.setCount, hn]
  simp only [setDeleteBlock, if_neg hrange, hset, hu]
  rfl

/-- The refusals of SET DELETE (R32). -/
theorem setDeleteBlock_of_refused {h : Hdr} {n : Nat} {s : State} {c : Code} (hlen : h.lengthOk = true)
    (hc : c = .range ∧ 128 ≤ n ∨ c = .unknown ∧ n < 128 ∧ (s.dispatchSet n).entries = none ∨
      c = .inUse ∧ n < 128 ∧ (s.dispatchSet n).entries ≠ none ∧ (s.dispatchSet n).inUse ≠ 0) :
    setDeleteBlock h n s = s.refuse c := by
  obtain ⟨rfl, hn⟩ | ⟨rfl, hn, hnone⟩ | ⟨rfl, hn, hsome, huse⟩ := hc
  · exact if_pos (.inl hn)
  · simp [setDeleteBlock, Config.setCount, hlen, hn, hnone]
  · obtain ⟨old, hold⟩ := Option.ne_none_iff_exists'.mp hsome
    simp [setDeleteBlock, Config.setCount, hlen, hn, hold, huse]

/-- Settles O19: each request past its checks is one replacing of the set, SET DELETE with no new entry, and a refused SET
DELETE changes the ports alone. -/
theorem setWriteAndDeleteKeepReferences : Obligations.SetWriteAndDeleteKeepReferences := by
  refine ⟨?_, fun s h n ⟨hlistens, hgrants, hlen⟩ => ⟨fun old hn hset => ?_, fun c hc => ?_⟩⟩
  · rintro s h n es old ⟨hlistens, hgrants, hlen⟩ hn hmin hmax hes hfree rfl hfit
    have hfaulty : firstFaulty es = none := (firstFaulty_eq_none_iff es).mpr fun i e hi => by
      obtain ⟨hrobot, hprogram, htrim, htrim', hlast, -⟩ := hes i e hi
      exact (faultyEntry_eq_false_iff ..).mpr ⟨hrobot, hprogram, htrim, htrim', hlast⟩
    have hready : s.firstNotReady es = none := (s.firstNotReady_eq_none_iff es).mpr fun i e hi => by
      obtain ⟨-, -, -, -, -, hready⟩ := hes i e hi
      exact hready
    have hblock := setWriteBlock_of_checks (s := s.goodFrameOn h.port.val) hlen hn
      ((entriesFault_eq_none es).mpr ⟨hfaulty, hmin, hmax⟩) hfree hready hfit rfl
    obtain ⟨t, hexec, hanswered, hset, hother, hprog, hlibrary, hframe⟩ :=
      s.exec_request_of_replaceSet (i := .setWrite h n es) rfl hlistens hgrants hn rfl hblock
    exact ⟨t, hexec, es.map storedEntry, rfl, hanswered, hset, hother, hprog, hlibrary, hframe⟩
  · have hblock := setDeleteBlock_of_free (s := s.goodFrameOn h.port.val) hlen hn hset rfl
    exact s.exec_request_of_replaceSet (i := .setDelete h n) rfl hlistens hgrants hn rfl hblock
  · exact s.exec_request_of_block_unchanged (i := .setDelete h n) rfl hlistens hgrants
      (setDeleteBlock_of_refused hlen hc)

end Machine
end Sys2Proof
end

section
/-!
SUPPORT. Resolution (O20): when a dispatch entry matches an Option Word, bit by bit, and what resolution searches.
-/
namespace Sys2Proof
namespace Machine

/-- Two words agree under a mask exactly where they agree at each bit of the mask. -/
theorem and_eq_and_iff_getLsbD {w : Nat} (x y m : BitVec w) :
    x &&& m = y &&& m ↔ ∀ n, m.getLsbD n = true → x.getLsbD n = y.getLsbD n := by
  constructor
  · intro h n hn
    have hbit := congrArg (·.getLsbD n) h
    simpa [hn] using hbit
  · intro h
    refine BitVec.eq_of_getLsbD_eq fun n _ => ?_
    cases hm : m.getLsbD n with
    | false => simp [hm]
    | true => simp [hm, h n hm]

/-- An entry matches where it names the robot, is enabled, and agrees with the Option Word at each bit of its mask (R34). -/
theorem DispatchEntry.matchesWord_iff (e : DispatchEntry) (r : Nat) (option : Word) :
    e.matchesWord r option = true ↔ e.robot = r ∧ e.enabled = true ∧
      ∀ n, e.mask.getLsbD n = true → option.getLsbD n = e.value.getLsbD n := by
  simp only [matchesWord, Bool.and_eq_true, beq_iff_eq, and_eq_and_iff_getLsbD, and_assoc]

/-- An entry is passed over where it names another robot, is not enabled, or differs at some bit of its mask (R34). -/
theorem DispatchEntry.matchesWord_eq_false_iff (e : DispatchEntry) (r : Nat) (option : Word) :
    e.matchesWord r option = false ↔ e.robot ≠ r ∨ e.enabled = false ∨
      ∃ n, e.mask.getLsbD n = true ∧ option.getLsbD n ≠ e.value.getLsbD n := by
  rw [← Bool.not_eq_true, matchesWord_iff]
  simp only [Classical.not_and_iff_not_or_not, Classical.not_forall, Bool.not_eq_true, exists_prop, ne_eq]

namespace State

variable {s : State} {b : Body} {k : Nat} {es : List DispatchEntry}

theorem resolve_of_not_weld (hb : b.binding = .pass ∨ b.binding = .reject) (r : Nat) : s.resolve b r = none := by
  obtain hb | hb := hb <;> simp only [resolve, hb]

/-- A WELD body resolves by the first entry of its bound set that matches (R34). -/
theorem resolve_of_weld (hb : b.binding = .weld k) (hes : (s.dispatchSet k).entries = some es) (r : Nat) :
    s.resolve b r = es.find? fun e => e.matchesWord r b.option := by
  simp only [resolve, hb, hes, Option.getD_some]

/-- The first match: an entry that matches, every entry before it passed over (R34). -/
theorem resolve_eq_some_iff (hb : b.binding = .weld k) (hes : (s.dispatchSet k).entries = some es) (r : Nat)
    (e : DispatchEntry) :
    s.resolve b r = some e ↔ ∃ i, i < es.length ∧ es[i]? = some e ∧ e.matchesWord r b.option = true ∧
      ∀ j e', j < i → es[j]? = some e' → e'.matchesWord r b.option = false := by
  rw [resolve_of_weld hb hes, List.find?_eq_some_iff_getElem]
  constructor
  · rintro ⟨hmatch, i, hi, rfl, hbefore⟩
    refine ⟨i, hi, List.getElem?_eq_getElem hi, hmatch, fun j e' hj he' => ?_⟩
    obtain ⟨-, rfl⟩ := List.getElem?_eq_some_iff.mp he'
    simpa using hbefore j hj
  · rintro ⟨i, hi, he, hmatch, hbefore⟩
    refine ⟨hmatch, i, hi, (List.getElem?_eq_some_iff.mp he).2, fun j hj => ?_⟩
    simpa using hbefore j _ hj (List.getElem?_eq_getElem (hj.trans hi))

/-- Resolution gives none where every entry is passed over (R34). -/
theorem resolve_eq_none_iff (hb : b.binding = .weld k) (hes : (s.dispatchSet k).entries = some es) (r : Nat) :
    s.resolve b r = none ↔ ∀ e ∈ es, e.matchesWord r b.option = false := by
  simp only [resolve_of_weld hb hes, List.find?_eq_none, Bool.not_eq_true]

end State

/-- Settles O20: the search finds the first match, and matching and passing over are read bit by bit. -/
theorem resolutionTakesTheFirstMatch : Obligations.ResolutionTakesTheFirstMatch := by
  refine fun s b r => ⟨fun hb => State.resolve_of_not_weld hb r, fun k es hb hes => ⟨fun e => ?_, ?_⟩⟩
  · rw [State.resolve_eq_some_iff hb hes]
    simp only [DispatchEntry.matchesWord_eq_false_iff, DispatchEntry.matchesWord_iff, and_assoc]
  · rw [State.resolve_eq_none_iff hb hes]
    simp only [DispatchEntry.matchesWord_eq_false_iff]

end Machine
end Sys2Proof
end

section
/-!
SUPPORT. The Program Library (Chapter 5), once for its four requests: what the entries and the block store read after each
operation of the library, and what a frame received and a reply built leave of them.
-/
namespace Sys2Proof
namespace Machine

/-- A table after one value is written at every place of a list. -/
theorem tget_foldl_tset {α : Type} {n : Nat} (d : α) (v : Vector α n) (a : α) (places : List Nat) (i : Nat) :
    tget d (places.foldl (fun w j => tset w j a) v) i = if i ∈ places ∧ i < n then a else tget d v i := by
  induction places generalizing v with
  | nil => simp
  | cons j rest ih =>
    rw [List.foldl_cons, ih, tget_tset]
    obtain rfl | hij := eq_or_ne i j
    · by_cases hi : i < n <;> simp [hi]
    · simp [hij]

/-- What is taken from the front of an ascending list lies below what stays. -/
theorem lt_of_mem_take_of_notMem_take {l : List Nat} (hl : l.Pairwise (· < ·)) {k a b : Nat} (ha : a ∈ l.take k)
    (hb : b ∈ l) (hb' : b ∉ l.take k) : a < b := by
  rw [← List.take_append_drop k l] at hl hb
  exact (List.pairwise_append.mp hl).2.2 a ha b ((List.mem_append.mp hb).resolve_left hb')

namespace State

variable (s : State)

/-! ### A frame received and a reply built -/

@[simp] theorem prog_goodFrameOn (p n : Nat) : (s.goodFrameOn p).prog n = s.prog n := rfl
@[simp] theorem block_goodFrameOn (p b : Nat) : (s.goodFrameOn p).block b = s.block b := rfl
@[simp] theorem library_goodFrameOn (p : Nat) : (s.goodFrameOn p).library = s.library := rfl
@[simp] theorem pointAt_goodFrameOn (p : Nat) (bs : List Nat) (i : Nat) : (s.goodFrameOn p).pointAt bs i = s.pointAt bs i := rfl
@[simp] theorem robot_goodFrameOn (p r : Nat) : (s.goodFrameOn p).robot r = s.robot r := rfl
@[simp] theorem due_goodFrameOn (p : Nat) : (s.goodFrameOn p).due = s.due := rfl

section
variable (h : Hdr) (kind : Byte) (c : Code) (k : Contents)

@[simp] theorem prog_sendReply (n : Nat) : (s.sendReply h kind c k).prog n = s.prog n := rfl
@[simp] theorem block_sendReply (b : Nat) : (s.sendReply h kind c k).block b = s.block b := rfl
@[simp] theorem freeBlocks_sendReply : (s.sendReply h kind c k).freeBlocks = s.freeBlocks := rfl
@[simp] theorem library_sendReply : (s.sendReply h kind c k).library = s.library := rfl
@[simp] theorem pointAt_sendReply (bs : List Nat) (i : Nat) : (s.sendReply h kind c k).pointAt bs i = s.pointAt bs i := rfl
@[simp] theorem robot_sendReply (r : Nat) : (s.sendReply h kind c k).robot r = s.robot r := rfl
@[simp] theorem due_sendReply : (s.sendReply h kind c k).due = s.due := rfl

end

/-! ### The operations of the library -/

section
variable (i n m b : Nat) (p : Prog) (bs : List Nat) (d : ProgData)

@[simp] theorem block_setProg : (s.setProg i p).block b = s.block b := rfl

/-- A block given back holds nothing, and the others stay as they are (R79). -/
theorem block_returnBlocks : (s.returnBlocks bs).block b = if b ∈ bs then ⟨none, []⟩ else s.block b := by
  rw [block, returnBlocks, tget_foldl_tset]
  by_cases hstore : b < 512
  · simp only [hstore, and_true, block]
  · simp only [hstore, and_false, block, tget_of_ge _ _ _ (Nat.not_lt.mp hstore), ite_self]

/-- A block taken is its program's, without points, and the others stay as they are (R79). -/
theorem block_takeBlocks (hbs : ∀ b ∈ bs, b < 512) :
    (s.takeBlocks n bs).block b = if b ∈ bs then ⟨some n, []⟩ else s.block b := by
  rw [block, takeBlocks, tget_foldl_tset, block]
  exact if_congr (and_iff_left_of_imp (hbs b)) rfl rfl

@[simp] theorem prog_takeBlocks : (s.takeBlocks n bs).prog m = s.prog m := rfl

/-- An entry emptied keeps its reference count, and the others stay as they are (R88, R89). -/
theorem prog_emptyProg : (s.emptyProg n d).prog m = if m = n then ⟨.empty, (s.prog n).refs⟩ else s.prog m := by
  by_cases hm : m = n
  · subst hm
    by_cases hn : m < 512
    · rw [emptyProg, prog_setProg_self _ _ _ hn, if_pos rfl]
    · simp [emptyProg, setProg, prog, tget_of_ge _ _ _ (Nat.not_lt.mp hn)]
  · rw [emptyProg, prog_setProg_ne _ _ _ _ hm, if_neg hm]
    rfl

/-- The blocks of an entry emptied are free, and the others stay as they are (R88, R89). -/
theorem block_emptyProg : (s.emptyProg n d).block b = if b ∈ d.blocks then ⟨none, []⟩ else s.block b := by
  rw [emptyProg, block_setProg, block_returnBlocks]

@[simp] theorem robot_emptyProg (r : Nat) : (s.emptyProg n d).robot r = s.robot r := rfl
@[simp] theorem due_emptyProg : (s.emptyProg n d).due = s.due := rfl
@[simp] theorem stamp_emptyProg : (s.emptyProg n d).library.stamp = s.library.stamp := rfl

end

/-- Emptying an entry changes the library alone. -/
theorem emptyProg_eq (n : Nat) (d : ProgData) :
    s.emptyProg n d = { s with library := (s.emptyProg n d).library } := rfl

/-! ### Free blocks (R79) -/

theorem mem_freeBlocks (b : Nat) : b ∈ s.freeBlocks ↔ b < 512 ∧ (s.block b).holder = none := by
  simp [freeBlocks]

theorem freeBlocks_pairwise_lt : s.freeBlocks.Pairwise (· < ·) :=
  List.pairwise_lt_range.filter _

/-! ### A request that empties an entry -/

/-- What a request does whose block empties an entry and may report the free count then (R88). -/
theorem exec_request_of_emptyProg {i : Instr} {h : Hdr} {kind : Byte} {g : Group} (hr : requestOf i = some (h, kind, g))
    (hl : s.listens h.port) (hg : s.grants h.port g) {n : Nat} {d : ProgData} {u : State}
    (hu : u = (s.goodFrameOn h.port.val).emptyProg n d) {c : Code} (k : Nat → Contents)
    (hb : requestBlock i (s.goodFrameOn h.port.val) = ⟨u, c, k u.freeBlocks.length⟩) :
    ∃ t, exec i s = .next t ∧ answered h kind c (k t.freeBlocks.length) s t ∧
      t.prog n = ⟨.empty, (s.prog n).refs⟩ ∧ (∀ m, m ≠ n → t.prog m = s.prog m) ∧
      (∀ b, t.block b = if b ∈ d.blocks then ⟨none, []⟩ else s.block b) ∧ t.library.stamp = s.library.stamp ∧
      t = { s with ports := t.ports, library := t.library } := by
  obtain ⟨hexec, hanswered⟩ := s.exec_request_of_block hr hl hg hb (by rw [hu]; rfl)
  subst hu
  refine ⟨_, hexec, ?_, ?_, fun m hm => ?_, fun b => ?_, ?_, ?_⟩
  · rw [freeBlocks_sendReply]
    exact hanswered
  · rw [prog_sendReply, prog_emptyProg, if_pos rfl, prog_goodFrameOn]
  · rw [prog_sendReply, prog_emptyProg, if_neg hm, prog_goodFrameOn]
  · rw [block_sendReply, block_emptyProg, block_goodFrameOn]
  · rw [library_sendReply, stamp_emptyProg, library_goodFrameOn]
  · rw [sendReply_eq, emptyProg_eq]
    rfl

end State

/-- A program number that exists, with the payload length that agrees, passes R81. -/
theorem programRange_eq_true {h : Hdr} {n : Nat} (hlen : h.lengthOk = true) (hn : n < 512) : programRange h n = true := by
  simp [programRange, hlen, hn, Config.programCount]

/-! ### The program a port has open (R77, R88) -/

namespace State

section
variable {s : State} {p : Fin 4} {m : Nat} {d : ProgData}

/-- An entry that is LOADING is one of the 512 (R77). -/
theorem lt_of_state_loading (hstate : (s.prog m).state = .loading p d) : m < 512 := by
  by_contra hm
  rw [prog, tget_of_ge _ _ _ (Nat.not_lt.mp hm)] at hstate
  cases hstate

theorem state_of_openProgram (hopen : s.openProgram p = some (m, d)) : (s.prog m).state = .loading p d := by
  obtain ⟨n, -, hn⟩ := List.exists_of_findSome?_eq_some hopen
  cases hstate : (s.prog n).state with
  | empty => simp [hstate] at hn
  | ready stamp d' => simp [hstate] at hn
  | loading q d' =>
    obtain ⟨rfl, rfl, rfl⟩ : q = p ∧ n = m ∧ d' = d := by simpa [hstate] using hn
    exact hstate

/-- The program found is the port's only one (R77). -/
theorem openProgram_eq_some_iff (hinv : s.libraryInv) :
    s.openProgram p = some (m, d) ↔ (s.prog m).state = .loading p d := by
  refine ⟨state_of_openProgram, fun hstate => ?_⟩
  cases hopen : s.openProgram p with
  | none =>
    have hnone := List.findSome?_eq_none_iff.mp hopen m (List.mem_range.mpr (lt_of_state_loading hstate))
    simp [hstate] at hnone
  | some found =>
    obtain ⟨n, d'⟩ := found
    have hfound := state_of_openProgram hopen
    obtain ⟨-, -, -, hunique⟩ := hinv
    obtain rfl := hunique m n p d d' hstate hfound
    obtain ⟨-, rfl⟩ := ProgState.loading.inj (hstate.symm.trans hfound)
    rfl

theorem openProgram_map_eq_some_iff (hinv : s.libraryInv) :
    (s.openProgram p).map (·.1) = some m ↔ ∃ d, (s.prog m).state = .loading p d := by
  simp only [Option.map_eq_some_iff, Prod.exists, openProgram_eq_some_iff hinv]
  exact ⟨fun ⟨n, d, hstate, hn⟩ => ⟨d, hn ▸ hstate⟩, fun ⟨d, hstate⟩ => ⟨m, d, hstate, rfl⟩⟩

theorem abandonOf_of_open (hopen : s.openProgram p = some (m, d)) : s.abandonOf p = s.emptyProg m d := by
  unfold abandonOf
  rw [hopen]

theorem abandonOf_of_none (hopen : s.openProgram p = none) : s.abandonOf p = s := by
  unfold abandonOf
  rw [hopen]

/-- The entry abandoned is EMPTY, the others stay as they are (R88). -/
theorem prog_abandonOf (p : Fin 4) (m : Nat) :
    (s.abandonOf p).prog m =
      if (s.openProgram p).map (·.1) = some m then ⟨.empty, (s.prog m).refs⟩ else s.prog m := by
  cases hopen : s.openProgram p with
  | none => rw [abandonOf_of_none hopen]; rfl
  | some found =>
    obtain ⟨n, d⟩ := found
    rw [abandonOf_of_open hopen, prog_emptyProg]
    by_cases hm : m = n
    · subst hm
      simp
    · simp [hm, Ne.symm hm]

/-- The blocks of the program abandoned are free (R88). -/
theorem block_abandonOf_of_mem (hinv : s.libraryInv) (hstate : (s.prog m).state = .loading p d) {b : Nat}
    (hb : b ∈ d.blocks) : (s.abandonOf p).block b = ⟨none, []⟩ := by
  rw [abandonOf_of_open ((openProgram_eq_some_iff hinv).mpr hstate), block_emptyProg, if_pos hb]

/-- A block that is none of the program's abandoned stays as it is (R88). -/
theorem block_abandonOf_of_notMem {b : Nat} (hb : ∀ m d, (s.prog m).state = .loading p d → b ∉ d.blocks) :
    (s.abandonOf p).block b = s.block b := by
  cases hopen : s.openProgram p with
  | none => rw [abandonOf_of_none hopen]
  | some found =>
    obtain ⟨m, d⟩ := found
    rw [abandonOf_of_open hopen, block_emptyProg, if_neg (hb m d (state_of_openProgram hopen))]

/-- Abandonment changes the library alone, and of it not the stamp counter (R88). -/
theorem abandonOf_eq (s : State) (p : Fin 4) :
    s.abandonOf p = { s with library := { (s.abandonOf p).library with stamp := s.library.stamp } } := by
  cases hopen : s.openProgram p with
  | none => rw [abandonOf_of_none hopen]
  | some found => rw [abandonOf_of_open hopen]; rfl

/-- A block that was free is free after an abandonment. -/
theorem freeBlocks_sublist_abandonOf (s : State) (p : Fin 4) : s.freeBlocks.Sublist (s.abandonOf p).freeBlocks := by
  refine List.monotone_filter_right _ fun b hb => ?_
  cases hopen : s.openProgram p with
  | none =>
    rw [abandonOf_of_none hopen]
    exact hb
  | some found =>
    rw [abandonOf_of_open hopen, block_emptyProg]
    split
    · rfl
    · exact hb

end

end State

end Machine
end Sys2Proof
end

section
/-!
SUPPORT. PROG OPEN (O30): its three checks, and the entries and blocks after one that passes them (R79, R82).
-/
namespace Sys2Proof
namespace Machine

namespace State

section
variable (s : State) (p : Fin 4) (n count : Nat) (check : Word)

/-- The blocks a program of `count` points takes at PROG OPEN: the lowest ones free once the port's open program is abandoned
(R79, R82). -/
def blocksTaken : List Nat := (s.abandonOf p).freeBlocks.take (blocksFor count)

/-- The two steps of a PROG OPEN that passes its checks: the abandonment, and entry `n` LOADING for the port (R82). -/
def openedProg : State :=
  ((s.abandonOf p).takeBlocks n (s.blocksTaken p count)).setProg n
    { (s.abandonOf p).prog n with state := .loading p ⟨count, check, 0, [], s.blocksTaken p count⟩ }

/-- Check 3 of PROG OPEN leaves blocks enough: the abandonment frees more (R82). -/
theorem length_blocksTaken (hfree : blocksFor count ≤ s.freeBlocks.length) :
    (s.blocksTaken p count).length = blocksFor count :=
  List.length_take_of_le (hfree.trans (s.freeBlocks_sublist_abandonOf p).length_le)

theorem mem_freeBlocks_of_mem_blocksTaken {b : Nat} (hb : b ∈ s.blocksTaken p count) : b ∈ (s.abandonOf p).freeBlocks :=
  List.mem_of_mem_take hb

theorem lt_of_mem_blocksTaken {b : Nat} (hb : b ∈ s.blocksTaken p count) : b < 512 :=
  ((mem_freeBlocks _ b).mp (s.mem_freeBlocks_of_mem_blocksTaken p count hb)).1

theorem block_openedProg (b : Nat) :
    (s.openedProg p n count check).block b =
      if b ∈ s.blocksTaken p count then ⟨some n, []⟩ else (s.abandonOf p).block b := by
  rw [openedProg, block_setProg, block_takeBlocks _ _ _ _ fun b => s.lt_of_mem_blocksTaken p count]

/-- The blocks taken are the lowest: each lies below every block left free (R79). -/
theorem lt_of_mem_blocksTaken_of_free {b c : Nat} (hb : b ∉ s.blocksTaken p count)
    (hfree : ((s.openedProg p n count check).block b).holder = none) (hc : c ∈ s.blocksTaken p count) : c < b := by
  rw [block_openedProg, if_neg hb] at hfree
  by_cases hstore : b < 512
  · exact lt_of_mem_take_of_notMem_take (freeBlocks_pairwise_lt _) hc ((mem_freeBlocks _ b).mpr ⟨hstore, hfree⟩) hb
  · exact (s.lt_of_mem_blocksTaken p count hc).trans_le (Nat.not_lt.mp hstore)

/-- The entry opened keeps its reference count (R82). -/
theorem prog_openedProg_self (hn : n < 512) :
    (s.openedProg p n count check).prog n =
      ⟨.loading p ⟨count, check, 0, [], s.blocksTaken p count⟩, (s.prog n).refs⟩ := by
  have hrefs : ((s.abandonOf p).prog n).refs = (s.prog n).refs := by
    rw [prog_abandonOf]
    split <;> rfl
  rw [openedProg, prog_setProg_self _ _ _ hn]
  exact congrArg _ hrefs

theorem prog_openedProg_ne {m : Nat} (hm : m ≠ n) :
    (s.openedProg p n count check).prog m =
      if (s.openProgram p).map (·.1) = some m then ⟨.empty, (s.prog m).refs⟩ else s.prog m := by
  rw [openedProg, prog_setProg_ne _ _ _ _ hm, prog_takeBlocks, prog_abandonOf]

/-- Taking blocks and writing an entry change the library alone, and of it not the stamp counter. -/
theorem setProg_takeBlocks_eq {v : State} (hv : v = { s with library := { v.library with stamp := s.library.stamp } })
    (bs : List Nat) (e : Prog) :
    (v.takeBlocks n bs).setProg n e =
      { s with library := { ((v.takeBlocks n bs).setProg n e).library with stamp := s.library.stamp } } := by
  rw [hv]
  rfl

/-- PROG OPEN changes the library alone, and of it not the stamp counter (R80). -/
theorem openedProg_eq :
    s.openedProg p n count check =
      { s with library := { (s.openedProg p n count check).library with stamp := s.library.stamp } } := by
  rw [openedProg]
  exact s.setProg_takeBlocks_eq n (s.abandonOf_eq p) _ _

end

end State

section
variable {h : Hdr} {n count : Nat} {check : Word} {s : State} (hlen : h.lengthOk = true) (hn : n < 512)
include hlen hn

/-- Checks 1 and 2 of PROG OPEN (R82). -/
theorem progOpenBlock_of_refused {c : Code} {k : Contents}
    (hc : (count < 1 ∨ 256 < count) ∧ c = .range ∧ k = .nothing ∨
      1 ≤ count ∧ count ≤ 256 ∧ c = .state ∧
        ((∃ p d, (s.prog n).state = .loading p d ∧ k = .progState .loading (some p) none) ∨
          ∃ stamp d, (s.prog n).state = .ready stamp d ∧ k = .progState .ready none none)) :
    progOpenBlock h n count check s = s.refuse c k := by
  obtain ⟨hcount, rfl, rfl⟩ | ⟨hmin, hmax, rfl, ⟨p, d, hstate, rfl⟩ | ⟨stamp, d, hstate, rfl⟩⟩ := hc
  · simp only [progOpenBlock, programRange_eq_true hlen hn, if_pos hcount]
    rfl
  · have hcount : ¬ (count < 1 ∨ 256 < count) := by omega
    simp only [progOpenBlock, programRange_eq_true hlen hn, if_neg hcount, hstate, State.progReport]
    rfl
  · have hcount : ¬ (count < 1 ∨ 256 < count) := by omega
    simp only [progOpenBlock, programRange_eq_true hlen hn, if_neg hcount, hstate, State.progReport]
    rfl

variable (hmin : 1 ≤ count) (hmax : count ≤ 256) (hstate : (s.prog n).state = .empty)
include hmin hmax hstate

/-- Check 3 of PROG OPEN (R82). -/
theorem progOpenBlock_of_full (hfree : s.freeBlocks.length < blocksFor count) :
    progOpenBlock h n count check s = s.refuse .full (.free s.freeBlocks.length) := by
  have hcount : ¬ (count < 1 ∨ 256 < count) := by omega
  simp only [progOpenBlock, programRange_eq_true hlen hn, if_neg hcount, hstate, if_pos hfree]
  rfl

/-- PROG OPEN past its three checks (R82). -/
theorem progOpenBlock_of_checks (hfree : blocksFor count ≤ s.freeBlocks.length) {u : State}
    (hu : u = s.openedProg h.port n count check) :
    progOpenBlock h n count check s =
      u.done (.opened (blocksFor count) u.freeBlocks.length ((s.openProgram h.port).map (·.1))) := by
  have hcount : ¬ (count < 1 ∨ 256 < count) := by omega
  rw [hu, ← s.length_blocksTaken h.port count hfree]
  simp only [progOpenBlock, programRange_eq_true hlen hn, hcount, hstate, Nat.not_lt.mpr hfree, reduceCtorEq, if_false,
    ne_eq, not_true]
  rfl

end

/-- Settles O30: the refusals change nothing, and an open that passes its checks is `openedProg`, whose entries and blocks the
lemmas above give. -/
theorem progOpenTakesBlocks : Obligations.ProgOpenTakesBlocks := by
  rintro s h n count check ⟨hlistens, hgrants, hlen⟩ hn
  let u := s.goodFrameOn h.port.val
  refine ⟨fun c k hc => ?_, fun hmin hmax hstate _ hfree => ?_, fun hmin hmax hstate hinv hfree => ?_⟩
  · exact s.exec_request_of_block_unchanged (i := .progOpen h n count check) rfl hlistens hgrants
      (progOpenBlock_of_refused (s := u) hlen hn hc)
  · exact s.exec_request_of_block_unchanged (i := .progOpen h n count check) rfl hlistens hgrants
      (progOpenBlock_of_full (s := u) hlen hn hmin hmax hstate hfree)
  · have huinv : u.libraryInv := hinv
    have hframe := u.openedProg_eq h.port n count check
    obtain ⟨hexec, hanswered⟩ := s.exec_request_of_block (i := .progOpen h n count check) rfl hlistens hgrants
      (progOpenBlock_of_checks (s := u) hlen hn hmin hmax hstate hfree rfl) (by rw [hframe])
    refine ⟨_, hexec, u.blocksTaken h.port count, (u.openProgram h.port).map (·.1), ?_, ?_, ?_,
      fun b => ⟨fun hb => ?_, fun hb hold => ?_, fun hb hother => ?_⟩, fun b hb hheld c hc => ?_, fun m => ?_,
      fun m hm => ?_, ?_, ?_⟩
    · rw [State.freeBlocks_sendReply]
      exact hanswered
    · rw [State.prog_sendReply, State.prog_openedProg_self _ _ _ _ _ hn, State.prog_goodFrameOn]
    · exact u.length_blocksTaken h.port count hfree
    · rw [State.block_sendReply, State.block_openedProg, if_pos hb]
    · obtain ⟨m, d, hloading, hmem⟩ := hold
      rw [State.block_sendReply, State.block_openedProg, if_neg hb]
      exact State.block_abandonOf_of_mem huinv hloading hmem
    · rw [State.block_sendReply, State.block_openedProg, if_neg hb]
      exact State.block_abandonOf_of_notMem (s := u) hother
    · rw [State.block_sendReply] at hheld
      exact u.lt_of_mem_blocksTaken_of_free h.port n count check hb hheld hc
    · exact State.openProgram_map_eq_some_iff (s := u) huinv
    · rw [State.prog_sendReply, State.prog_openedProg_ne _ _ _ _ _ hm, State.prog_goodFrameOn]
    · rw [State.library_sendReply, hframe]
      rfl
    · rw [State.sendReply_eq, hframe]
      rfl

end Machine
end Sys2Proof
end

section
/-!
SUPPORT. PROG DATA (O31): its five checks, and where the points of a frame stand in blocks filled in order (R79, R84, R85).
-/
namespace Sys2Proof
namespace Machine

/-- Every point of a frame is in range exactly where none is found at fault (R84 check 4). -/
theorem pointFault_eq_none_iff (points : List RawPoint) :
    pointFault points = none ↔ ∀ p ∈ points, p.pose.toNat ≤ 4095 ∧ p.schedule.toNat ≤ 63 := by
  simp only [pointFault, Option.map_eq_none_iff, List.find?_eq_none, Prod.forall, List.mk_mem_zipIdx_iff_getElem?,
    Bool.or_eq_true, decide_eq_true_eq, not_or, not_lt, List.mem_iff_getElem? (l := points), forall_exists_index]

/-- The schedule list after the points of a frame (R85). -/
def schedulesAfter (l : List Nat) (points : List RawPoint) : List Nat :=
  points.foldl (fun l p => addSchedule l p.schedule.toNat) l

theorem length_le_addSchedule (l : List Nat) (n : Nat) : l.length ≤ (addSchedule l n).length := by
  unfold addSchedule
  split
  · exact le_rfl
  · simp

theorem length_le_schedulesAfter (l : List Nat) (points : List RawPoint) :
    l.length ≤ (schedulesAfter l points).length := by
  induction points generalizing l with
  | nil => exact le_rfl
  | cons p rest ih => exact (length_le_addSchedule l _).trans (ih _)

/-- No point brings in a seventeenth schedule where the list after them all has 16 at most (R84 check 5). -/
theorem scheduleOverflow_eq_none (i : Nat) (l : List Nat) (points : List RawPoint)
    (hlist : (schedulesAfter l points).length ≤ 16) : scheduleOverflow i l points = none := by
  induction points generalizing i l with
  | nil => rfl
  | cons p rest ih =>
    have hfirst : ¬ Config.maxSchedules < (addSchedule l p.schedule.toNat).length :=
      Nat.not_lt.mpr ((length_le_schedulesAfter _ rest).trans hlist)
    rw [scheduleOverflow, if_neg hfirst]
    exact ih _ _ hlist

namespace State

/-- The blocks are distinct, lie in the store, and hold the first `i` points of their program, filled in order (R79). -/
structure FilledTo (s : State) (blocks : List Nat) (i : Nat) : Prop where
  nodup : blocks.Nodup
  inStore : ∀ b ∈ blocks, b < 512
  lengthPoints : ∀ k b, blocks[k]? = some b → (s.block b).points.length = min 32 (i - 32 * k)

section
variable {s : State} {blocks : List Nat} {i : Nat}

/-- The blocks of a LOADING program hold the points it has received (R79). -/
theorem filledTo_of_libraryInv (hinv : s.libraryInv) {n : Nat} {p : Fin 4} {d : ProgData}
    (hstate : (s.prog n).state = .loading p d) : s.FilledTo d.blocks d.received := by
  obtain ⟨hprogram, -⟩ := hinv
  obtain ⟨-, -, -, hnodup, -, hheld, hfilled⟩ := hprogram n d (.inl ⟨p, hstate⟩)
  exact ⟨hnodup, fun b hb => (hheld b hb).1, hfilled⟩

/-- The block the next point falls in (R79). -/
theorem getElem?_target (hi : i < 32 * blocks.length) :
    blocks[i / 32]? = some (blocks.getD (i / 32) 512) := by
  have hplace : i / 32 < blocks.length := by omega
  simp [List.getD_eq_getElem?_getD, hplace]

theorem target_mem (hi : i < 32 * blocks.length) : blocks.getD (i / 32) 512 ∈ blocks :=
  List.mem_of_getElem? (getElem?_target hi)

variable (hfill : s.FilledTo blocks i) (hi : i < 32 * blocks.length) (x : Point)
include hfill hi

/-- A point stored stands at the end of its block, and the other blocks stay as they are (R85). -/
theorem FilledTo.block_storePoint (b : Nat) :
    (s.storePoint blocks i x).block b =
      if b = blocks.getD (i / 32) 512 then ⟨(s.block b).holder, (s.block b).points ++ [x]⟩ else s.block b := by
  have hstore := hfill.inStore _ (target_mem hi)
  rw [block, storePoint, tget_tset]
  by_cases hb : b = blocks.getD (i / 32) 512
  · rw [if_pos ⟨hb, hstore⟩, if_pos hb, hb]
  · rw [if_neg fun h => hb h.1, if_neg hb, block]

/-- One more point is stored. -/
theorem FilledTo.storePoint : (s.storePoint blocks i x).FilledTo blocks (i + 1) := by
  refine ⟨hfill.nodup, hfill.inStore, fun k b hk => ?_⟩
  have hlength := hfill.lengthPoints k b hk
  have htarget := getElem?_target hi
  rw [hfill.block_storePoint hi]
  by_cases hb : b = blocks.getD (i / 32) 512
  · have hkeq : k = i / 32 := by
      have hlt : k < blocks.length := (List.getElem?_eq_some_iff.mp hk).1
      exact (List.getElem?_inj hlt hfill.nodup).mp (by rw [hk, htarget, hb])
    rw [if_pos hb, List.length_append, hlength, List.length_singleton]
    omega
  · have hkne : k ≠ i / 32 := by
      rintro rfl
      exact hb (Option.some.inj (hk.symm.trans htarget))
    rw [if_neg hb, hlength]
    omega

/-- The point stored is the one read at its index. -/
theorem FilledTo.pointAt_storePoint_self : (s.storePoint blocks i x).pointAt blocks i = x := by
  have hlength := hfill.lengthPoints _ _ (getElem?_target hi)
  have hend : (s.block (blocks.getD (i / 32) 512)).points.length = i % 32 := by omega
  simp [pointAt, hfill.block_storePoint hi, ← hend]

/-- The points before it are read as they were. -/
theorem FilledTo.pointAt_storePoint_of_lt {j : Nat} (hj : j < i) :
    (s.storePoint blocks i x).pointAt blocks j = s.pointAt blocks j := by
  have hlength := hfill.lengthPoints _ _ (getElem?_target (hj.trans hi))
  have hwithin : j % 32 < (s.block (blocks.getD (j / 32) 512)).points.length := by omega
  rw [pointAt, pointAt, hfill.block_storePoint hi]
  split
  · rw [List.getElem?_append_left hwithin]
  · rfl

end

section
variable {s : State} {blocks : List Nat} {i : Nat} {points : List Point}

/-- The points of a frame are read at the indices they were stored at, those before them as they were, and the blocks that are
not the program's stay as they are (R85). -/
theorem FilledTo.storePoints (hfill : s.FilledTo blocks i) (hroom : i + points.length ≤ 32 * blocks.length) :
    (∀ j x, points[j]? = some x → (s.storePoints blocks i points).pointAt blocks (i + j) = x) ∧
      (∀ j, j < i → (s.storePoints blocks i points).pointAt blocks j = s.pointAt blocks j) ∧
      ∀ b ∉ blocks, (s.storePoints blocks i points).block b = s.block b := by
  induction points generalizing s i with
  | nil => simp [State.storePoints]
  | cons x rest ih =>
    rw [List.length_cons] at hroom
    have hi : i < 32 * blocks.length := by omega
    obtain ⟨hnew, hold, hother⟩ := ih (hfill.storePoint hi x) (by omega)
    refine ⟨fun j y hy => ?_, fun j hj => ?_, fun b hb => ?_⟩
    · cases j with
      | zero =>
        obtain rfl : x = y := by simpa using hy
        exact (hold i (Nat.lt_succ_self i)).trans (hfill.pointAt_storePoint_self hi x)
      | succ j =>
        rw [← hnew j y (by simpa using hy), Nat.add_right_comm i 1 j]
        rfl
    · exact (hold j (by omega)).trans (hfill.pointAt_storePoint_of_lt hi x hj)
    · refine (hother b hb).trans ?_
      rw [hfill.block_storePoint hi, if_neg fun h : b = _ => hb (h ▸ target_mem hi)]

/-- Storing points changes the block store alone (R85). -/
theorem storePoints_eq (s : State) (blocks : List Nat) (i : Nat) (points : List Point) :
    s.storePoints blocks i points =
      { s with library := { s.library with blocks := (s.storePoints blocks i points).library.blocks } } := by
  induction points generalizing s i with
  | nil => rfl
  | cons x rest ih => exact ih (s.storePoint blocks i x) (i + 1)

end

@[simp] theorem prog_storePoints (s : State) (blocks : List Nat) (i : Nat) (points : List Point) (m : Nat) :
    (s.storePoints blocks i points).prog m = s.prog m := by
  rw [storePoints_eq]
  rfl

@[simp] theorem pointAt_setProg (s : State) (n : Nat) (e : Prog) (blocks : List Nat) (i : Nat) :
    (s.setProg n e).pointAt blocks i = s.pointAt blocks i := rfl

/-- The points of a frame are stored for entry `n`, LOADING for port `p` with the fields `d` until now, and its count of points
and its schedule list go on (R85). -/
def receivedData (n : Nat) (p : Fin 4) (d : ProgData) (points : List RawPoint) (s : State) : State :=
  (s.storePoints d.blocks d.received (points.map storedPoint)).setProg n
    ⟨.loading p { d with received := d.received + points.length, schedules := schedulesAfter d.schedules points },
      (s.prog n).refs⟩

/-- Receiving points changes the library alone, and of it not the stamp counter (R80). -/
theorem receivedData_eq (s : State) (n : Nat) (p : Fin 4) (d : ProgData) (points : List RawPoint) :
    s.receivedData n p d points =
      { s with library := { (s.receivedData n p d points).library with stamp := s.library.stamp } } := by
  rw [receivedData, storePoints_eq]
  rfl

end State

section
variable {h : Hdr} {n first : Nat} {points : List RawPoint} {s : State} {d : ProgData} (hlen : h.lengthOk = true)
  (hn : n < 512) (hmin : 1 ≤ points.length) (hmax : points.length ≤ 16)
include hlen hn hmin hmax

/-- A PROG DATA of 1 to 16 points passes the checks made ahead of R84's. -/
theorem not_progDataRange : ¬ (programRange h n = false ∨ points.length = 0 ∨ Config.framePoints < points.length) := by
  simp only [programRange_eq_true hlen hn, Config.framePoints, reduceCtorEq, false_or]
  omega

variable (hstate : (s.prog n).state = .loading h.port d)
include hstate

/-- Check 2 of PROG DATA (R84). -/
theorem progDataBlock_of_otherIndex (hfirst : first ≠ d.received) :
    progDataBlock h n first points s = s.refuse .state (.received d.received) := by
  have hrange := not_progDataRange hlen hn hmin hmax
  simp only [progDataBlock, if_neg hrange, hstate, ne_eq, not_true, if_false, if_pos hfirst]

/-- PROG DATA past its five checks (R84, R85). -/
theorem progDataBlock_of_checks (hcount : d.received + points.length ≤ d.count)
    (hpoints : ∀ p ∈ points, p.pose.toNat ≤ 4095 ∧ p.schedule.toNat ≤ 63)
    (hlist : (schedulesAfter d.schedules points).length ≤ 16) :
    progDataBlock h n d.received points s =
      (s.receivedData n h.port d points).done (.received (d.received + points.length)) := by
  have hrange := not_progDataRange hlen hn hmin hmax
  simp only [progDataBlock, if_neg hrange, hstate, ne_eq, not_true, if_false, Nat.not_lt.mpr hcount,
    (pointFault_eq_none_iff points).mpr hpoints, scheduleOverflow_eq_none 0 _ _ hlist, State.prog_storePoints]
  rfl

end

/-- Settles O31: another index is refused before anything is stored, and at the expected one the blocks, which the library
invariant says are filled in order, take the points one after the other. -/
theorem progDataStoresPoints : Obligations.ProgDataStoresPoints := by
  rintro s h n first points d ⟨hlistens, hgrants, hlen⟩ hn hinv hstate hmin hmax
  refine ⟨fun hfirst => ?_, ?_⟩
  · exact s.exec_request_of_block_unchanged (i := .progData h n first points) rfl hlistens hgrants
      (progDataBlock_of_otherIndex (s := s.goodFrameOn h.port.val) hlen hn hmin hmax hstate hfirst)
  · rintro rfl hcount hpoints list rfl hlist
    let u := s.goodFrameOn h.port.val
    have hfill : u.FilledTo d.blocks d.received := State.filledTo_of_libraryInv (s := u) hinv hstate
    have hroom : d.received + (points.map storedPoint).length ≤ 32 * d.blocks.length := by
      obtain ⟨hprogram, -⟩ := hinv
      obtain ⟨-, -, -, -, hblocks, -, -⟩ := hprogram n d (.inl ⟨_, hstate⟩)
      rw [List.length_map, hblocks, blocksFor]
      omega
    obtain ⟨hnew, hold, hother⟩ := hfill.storePoints hroom
    have hframe := u.receivedData_eq n h.port d points
    obtain ⟨hexec, hanswered⟩ := s.exec_request_of_block (i := .progData h n d.received points) rfl hlistens hgrants
      (progDataBlock_of_checks (s := u) hlen hn hmin hmax hstate hcount hpoints hlist) (by rw [hframe])
    refine ⟨_, hexec, hanswered, ?_, fun m hm => ?_, fun j p hp => ?_, fun j hj => ?_, fun b hb => ?_, ?_, ?_⟩
    · rw [State.prog_sendReply, State.receivedData, State.prog_setProg_self _ _ _ hn, State.prog_goodFrameOn]
      rfl
    · rw [State.prog_sendReply, State.receivedData, State.prog_setProg_ne _ _ _ _ hm, State.prog_storePoints,
        State.prog_goodFrameOn]
    · rw [State.pointAt_sendReply, State.receivedData, State.pointAt_setProg]
      exact hnew j (storedPoint p) (by rw [List.getElem?_map, hp]; rfl)
    · rw [State.pointAt_sendReply, State.receivedData, State.pointAt_setProg, hold j hj, State.pointAt_goodFrameOn]
    · rw [State.block_sendReply, State.receivedData, State.block_setProg, hother b hb, State.block_goodFrameOn]
    · rw [State.library_sendReply, hframe]
      rfl
    · rw [State.sendReply_eq, hframe]
      rfl

end Machine
end Sys2Proof
end

section
/-!
SUPPORT. PROG CLOSE (O32): the program written READY, and what each failing check answers (R80, R86, R87).
-/
namespace Sys2Proof
namespace Machine

namespace State

section
variable (s : State) (n : Nat) (d : ProgData)

/-- Entry `n` becomes READY under the stamp counter, which goes on (R80, R87). -/
def closedProg : State :=
  let t := s.setProg n ⟨.ready s.library.stamp d, 0⟩
  { t with library := { t.library with stamp := nextStamp t.library.stamp } }

theorem prog_closedProg_self (hn : n < 512) : (s.closedProg n d).prog n = ⟨.ready s.library.stamp d, 0⟩ :=
  s.prog_setProg_self n _ hn

theorem prog_closedProg_ne {m : Nat} (hm : m ≠ n) : (s.closedProg n d).prog m = s.prog m :=
  s.prog_setProg_ne n m _ hm

theorem library_closedProg :
    (s.closedProg n d).library = { s.library with
      progs := (s.closedProg n d).library.progs
      stamp := if s.library.stamp = 65535#16 then 1#16 else s.library.stamp + 1#16 } := rfl

/-- Closing a program changes the library alone. -/
theorem closedProg_eq : s.closedProg n d = { s with library := (s.closedProg n d).library } := rfl

end

end State

section
variable {h : Hdr} {n : Nat} {s : State} (hlen : h.lengthOk = true) (hn : n < 512)
include hlen hn

/-- PROG CLOSE of an entry that is not LOADING for the port (R87). -/
theorem progCloseBlock_of_refused {k : Contents}
    (hk : (s.prog n).state = .empty ∧ k = .progState .empty none none ∨
      (∃ p d, (s.prog n).state = .loading p d ∧ p ≠ h.port ∧ k = .progState .loading (some p) none) ∨
      (∃ stamp d, (s.prog n).state = .ready stamp d ∧ k = .progState .ready none none)) :
    progCloseBlock h n s = s.refuse .state k := by
  obtain ⟨hstate, rfl⟩ | ⟨p, d, hstate, hp, rfl⟩ | ⟨stamp, d, hstate, rfl⟩ := hk
  · simp [progCloseBlock, programRange_eq_true hlen hn, hstate, State.progReport]
  · simp [progCloseBlock, programRange_eq_true hlen hn, hstate, hp, State.progReport]
  · simp [progCloseBlock, programRange_eq_true hlen hn, hstate, State.progReport]

variable {d : ProgData} (hstate : (s.prog n).state = .loading h.port d)
include hstate

/-- PROG CLOSE of a complete program whose check agrees (R87). -/
theorem progCloseBlock_of_whole (hcount : d.received = d.count)
    (hcheck : programCheck (s.pointsFrom d 0 d.count) = d.check) :
    progCloseBlock h n s = (s.closedProg n d).done (.closed s.library.stamp d.count d.schedules) := by
  simp [progCloseBlock, programRange_eq_true hlen hn, hstate, State.checkOf, hcount, hcheck, State.closedProg]

/-- PROG CLOSE of a program that is not whole, or whose check differs (R87). -/
theorem progCloseBlock_of_mismatch {computed : Option Word}
    (hcomputed : d.received ≠ d.count ∧ computed = none ∨
      d.received = d.count ∧ programCheck (s.pointsFrom d 0 d.count) ≠ d.check ∧
        computed = some (programCheck (s.pointsFrom d 0 d.count))) :
    progCloseBlock h n s = ⟨s.emptyProg n d, .check, .mismatch d.received d.count computed⟩ := by
  obtain ⟨hcount, rfl⟩ | ⟨hcount, hcheck, rfl⟩ := hcomputed
  · simp [progCloseBlock, programRange_eq_true hlen hn, hstate, hcount]
  · simp [progCloseBlock, programRange_eq_true hlen hn, hstate, State.checkOf, hcount, hcheck]

end

/-- Settles O32: a refused close changes nothing, a whole program is written READY under the counter, and any other is
emptied as an abandonment empties it. -/
theorem progCloseChecksTheProgram : Obligations.ProgCloseChecksTheProgram := by
  refine ⟨fun s h n k ⟨hlistens, hgrants, hlen⟩ hn hk => ?_,
    fun s h n d ⟨hlistens, hgrants, hlen⟩ hn hstate => ⟨?_, ?_⟩⟩
  · exact s.exec_request_of_block_unchanged (i := .progClose h n) rfl hlistens hgrants
      (progCloseBlock_of_refused (s := s.goodFrameOn h.port.val) hlen hn hk)
  · intro hcount hcheck
    obtain ⟨hexec, hanswered⟩ := s.exec_request_of_block (i := .progClose h n) rfl hlistens hgrants
      (progCloseBlock_of_whole (s := s.goodFrameOn h.port.val) hlen hn hstate hcount hcheck) rfl
    refine ⟨_, hexec, hanswered, ?_, fun m hm => ?_, ?_, ?_⟩
    · rw [State.prog_sendReply, State.prog_closedProg_self _ _ _ hn, State.library_goodFrameOn]
    · rw [State.prog_sendReply, State.prog_closedProg_ne _ _ _ hm, State.prog_goodFrameOn]
    · rw [State.library_sendReply, State.library_closedProg, State.library_goodFrameOn]
    · rw [State.sendReply_eq, State.closedProg_eq]
      rfl
  · intro computed hcomputed
    exact s.exec_request_of_emptyProg (i := .progClose h n) rfl hlistens hgrants rfl
      (fun _ => .mismatch d.received d.count computed)
      (progCloseBlock_of_mismatch (s := s.goodFrameOn h.port.val) hlen hn hstate hcomputed)

end Machine
end Sys2Proof
end

section
/-!
SUPPORT. PROG DELETE (O33): one lemma for each state of the entry, and the slots and owed events after a deletion (R89, R91).
-/
namespace Sys2Proof
namespace Machine

section
variable {h : Hdr} {n : Nat} {s : State} (hlen : h.lengthOk = true) (hn : n < 512)
include hlen hn

/-- PROG DELETE of a READY program without references (R89). -/
theorem progDeleteBlock_of_ready {stamp : Word} {d : ProgData} (hprog : s.prog n = ⟨.ready stamp d, 0⟩) {u : State}
    (hu : u = (s.emptyProg n d).staleSlots n stamp) :
    progDeleteBlock h n s = u.done (.deleted stamp u.freeBlocks.length) := by
  simp [progDeleteBlock, programRange_eq_true hlen hn, hprog, hu]

theorem progDeleteBlock_of_referenced {stamp : Word} {d : ProgData} {refs : Nat}
    (hprog : s.prog n = ⟨.ready stamp d, refs + 1⟩) :
    progDeleteBlock h n s = s.refuse .inUse (.references (refs + 1)) := by
  simp [progDeleteBlock, programRange_eq_true hlen hn, hprog]

theorem progDeleteBlock_of_empty (hstate : (s.prog n).state = .empty) : progDeleteBlock h n s = s.refuse .unknown := by
  simp [progDeleteBlock, programRange_eq_true hlen hn, hstate]

/-- PROG DELETE of the port's own LOADING program (R88, R89). -/
theorem progDeleteBlock_of_own {d : ProgData} (hstate : (s.prog n).state = .loading h.port d) {u : State}
    (hu : u = s.emptyProg n d) : progDeleteBlock h n s = u.done (.abandoned .empty u.freeBlocks.length) := by
  simp [progDeleteBlock, programRange_eq_true hlen hn, hstate, hu]

theorem progDeleteBlock_of_other {p : Fin 4} {d : ProgData} (hstate : (s.prog n).state = .loading p d) (hp : p ≠ h.port) :
    progDeleteBlock h n s = s.refuse .state (.progState .loading (some p) none) := by
  simp [progDeleteBlock, programRange_eq_true hlen hn, hstate, hp, State.progReport]

end

/-- The slot a deletion leaves (R91). -/
theorem Slot.staleFor_eq (n : Nat) (stamp : Word) (x : Slot) :
    x.staleFor n stamp = if x.content = .valid n stamp then ⟨.stale n stamp, x.lastUse⟩ else x := rfl

/-- A slot of a robot whose slots are all changed alike. -/
theorem Robot.slot_map (b : Robot) (f : Slot → Slot) {i : Nat} (hi : i < 8) :
    ({ b with slots := b.slots.map f } : Robot).slot i = f (b.slot i) :=
  tget_map _ _ _ _ _ hi

namespace State

section
variable (s : State) (n : Nat) (stamp : Word)

@[simp] theorem prog_staleSlots (m : Nat) : (s.staleSlots n stamp).prog m = s.prog m := rfl
@[simp] theorem block_staleSlots (b : Nat) : (s.staleSlots n stamp).block b = s.block b := rfl
@[simp] theorem library_staleSlots : (s.staleSlots n stamp).library = s.library := rfl

/-- The Robot Table is told of a deletion slot by slot (R91). -/
theorem robot_staleSlots {r : Nat} (hr : r < 32) :
    (s.staleSlots n stamp).robot r = { s.robot r with slots := (s.robot r).slots.map (Slot.staleFor n stamp) } :=
  tget_map _ _ _ _ _ hr

/-- The staling of slots changes the robots and owes events, and no more. -/
theorem staleSlots_eq :
    s.staleSlots n stamp = { s with robots := (s.staleSlots n stamp).robots, due := (s.staleSlots n stamp).due } := rfl

theorem holdsValid_iff (r : Nat) :
    s.holdsValid r n stamp = true ↔ ∃ i, i < 8 ∧ ((s.robot r).slot i).content = .valid n stamp := by
  simp only [holdsValid, toList_eq_map_tget ⟨.unknown, 0⟩ (s.robot r).slots, List.any_map, List.any_eq_true, List.mem_range,
    Function.comp_apply, beq_iff_eq, Robot.slot]

/-- Each robot with a slot that was VALID with the loading is recomputed and attempts a selection (R91). -/
theorem mem_due_staleSlots (e : Due) :
    e ∈ (s.staleSlots n stamp).due ↔ e ∈ s.due ∨ ∃ r i, r < 32 ∧ i < 8 ∧
      ((s.robot r).slot i).content = .valid n stamp ∧ (e = .recompute r ∨ e = .selection r) := by
  simp only [staleSlots, due_owe, List.mem_append, List.mem_flatMap, List.mem_filter, List.mem_range, holdsValid_iff,
    List.mem_cons, List.not_mem_nil, or_false]
  refine or_congr_right ⟨?_, ?_⟩
  · rintro ⟨r, ⟨hr, i, hi, hvalid⟩, he⟩
    exact ⟨r, i, hr, hi, hvalid, he⟩
  · rintro ⟨r, i, hr, hi, hvalid, he⟩
    exact ⟨r, ⟨hr, i, hi, hvalid⟩, he⟩

end

end State

/-- Settles O33: each state of the entry gives one branch of the block; a deletion is the emptying of the entry and then the
staling of the slots, an abandonment the emptying alone. -/
theorem progDeleteNeedsNoReference : Obligations.ProgDeleteNeedsNoReference := by
  rintro s h n ⟨hlistens, hgrants, hlen⟩ hn
  let u := s.goodFrameOn h.port.val
  refine ⟨fun stamp d hprog => ?_, fun stamp d refs hprog => ?_, fun hstate => ?_, fun p d hstate => ⟨?_, fun hp => ?_⟩⟩
  · have hrefs : (s.prog n).refs = 0 := by rw [hprog]
    obtain ⟨hexec, hanswered⟩ := s.exec_request_of_block (i := .progDelete h n) rfl hlistens hgrants
      (progDeleteBlock_of_ready (s := u) hlen hn hprog rfl) rfl
    refine ⟨_, hexec, ?_, ?_, fun m hm => ?_, fun b => ?_, ?_, fun r i hr hi => ?_, fun r hr => ?_, fun e => ?_, ?_⟩
    · rw [State.freeBlocks_sendReply]
      exact hanswered
    · rw [State.prog_sendReply, State.prog_staleSlots, State.prog_emptyProg, if_pos rfl, State.prog_goodFrameOn, hrefs]
    · rw [State.prog_sendReply, State.prog_staleSlots, State.prog_emptyProg, if_neg hm, State.prog_goodFrameOn]
    · rw [State.block_sendReply, State.block_staleSlots, State.block_emptyProg, State.block_goodFrameOn]
    · rw [State.library_sendReply, State.library_staleSlots, State.stamp_emptyProg, State.library_goodFrameOn]
    · rw [State.robot_sendReply, State.robot_staleSlots _ _ _ hr, Robot.slot_map _ _ hi, Slot.staleFor_eq,
        State.robot_emptyProg, State.robot_goodFrameOn]
    · rw [State.robot_sendReply, State.robot_staleSlots _ _ _ hr, State.robot_emptyProg, State.robot_goodFrameOn]
    · simp only [State.due_sendReply, State.mem_due_staleSlots, State.robot_emptyProg, State.due_emptyProg,
        State.robot_goodFrameOn, State.due_goodFrameOn, u]
    · rw [State.sendReply_eq, State.staleSlots_eq, State.emptyProg_eq]
      rfl
  · exact s.exec_request_of_block_unchanged (i := .progDelete h n) rfl hlistens hgrants
      (progDeleteBlock_of_referenced (s := u) hlen hn hprog)
  · exact s.exec_request_of_block_unchanged (i := .progDelete h n) rfl hlistens hgrants
      (progDeleteBlock_of_empty (s := u) hlen hn hstate)
  · rintro rfl
    exact s.exec_request_of_emptyProg (i := .progDelete h n) rfl hlistens hgrants rfl (.abandoned .empty)
      (progDeleteBlock_of_own (s := u) hlen hn hstate rfl)
  · exact s.exec_request_of_block_unchanged (i := .progDelete h n) rfl hlistens hgrants
      (progDeleteBlock_of_other (s := u) hlen hn hstate hp)

end Machine
end Sys2Proof
end

section
/-!
SUPPORT. The wear increment (O35): one lemma for each end of the search through a curve's steps, and the bounds of the truncated
share (R101).
-/
namespace Sys2Proof
namespace Machine

/-- A share `x` out of `d` of a rise or fall `c`, truncated toward zero, lies between 0 and `c`. -/
theorem tdiv_share_between (c : Int) {x d : Int} (hx : 0 ≤ x) (hxd : x ≤ d) (hd : 0 < d) :
    min 0 c ≤ (c * x).tdiv d ∧ (c * x).tdiv d ≤ max 0 c := by
  have hnone : (c * 0).tdiv d = 0 := by rw [mul_zero, Int.zero_tdiv]
  have hall : (c * d).tdiv d = c := Int.mul_tdiv_cancel c hd.ne'
  rcases le_total 0 c with hc | hc
  · have hlow := Int.tdiv_le_tdiv hd (mul_le_mul_of_nonneg_left hx hc)
    have hhigh := Int.tdiv_le_tdiv hd (mul_le_mul_of_nonneg_left hxd hc)
    omega
  · have hlow := Int.tdiv_le_tdiv hd (mul_le_mul_of_nonpos_left hxd hc)
    have hhigh := Int.tdiv_le_tdiv hd (mul_le_mul_of_nonpos_left hx hc)
    omega

/-- The increment at wear count `w` between the steps `a` and `b` of a curve: that of `a` and the truncated share of the
difference (R101). -/
def incrementBetween (w : Nat) (a b : CurveStep) : Int :=
  a.increment + (((b.increment : Int) - a.increment) * ((w : Int) - a.threshold)).tdiv ((b.threshold : Int) - a.threshold)

theorem incrementBetween_bounds {w : Nat} {a b : CurveStep} (ha : a.threshold ≤ w) (hb : w < b.threshold) :
    min (a.increment : Int) b.increment ≤ incrementBetween w a b ∧
      incrementBetween w a b ≤ max (a.increment : Int) b.increment := by
  have hshare := tdiv_share_between ((b.increment : Int) - a.increment) (x := (w : Int) - a.threshold)
    (d := (b.threshold : Int) - a.threshold) (by omega) (by omega) (by omega)
  unfold incrementBetween
  omega

theorem wearFrom_cons_of_lt {w : Nat} {prev c : CurveStep} {cs : List CurveStep} (hc : w < c.threshold) :
    wearFrom w prev (c :: cs) = (incrementBetween w prev c, false) :=
  if_pos hc

theorem wearFrom_cons_of_le {w : Nat} {prev c : CurveStep} {cs : List CurveStep} (hc : c.threshold ≤ w) :
    wearFrom w prev (c :: cs) = wearFrom w c cs :=
  if_neg hc.not_gt

theorem wearIncrement_of_ne_nil {steps : List CurveStep} (hne : steps ≠ []) (w : Nat) :
    wearIncrement (some steps) w = wearFrom w ⟨0, 0⟩ steps := by
  cases steps with
  | nil => contradiction
  | cons c cs => rfl

/-- With every threshold reached the search ends at the last step, saturated. -/
theorem wearFrom_of_forall_le {w : Nat} {prev x : CurveStep} {steps : List CurveStep}
    (hle : ∀ y ∈ steps, y.threshold ≤ w) (hlast : (prev :: steps).getLast? = some x) :
    wearFrom w prev steps = ((x.increment : Int), true) := by
  induction steps generalizing prev with
  | nil =>
    obtain rfl : prev = x := Option.some.inj hlast
    rfl
  | cons c cs ih =>
    obtain ⟨hc, hcs⟩ := List.forall_mem_cons.mp hle
    rw [wearFrom_cons_of_le hc]
    exact ih hcs hlast

/-- With rising thresholds the search stops at the one pair of neighbours that has `w` between their thresholds. -/
theorem wearFrom_between {w k : Nat} {prev a b : CurveStep} {steps : List CurveStep}
    (hrise : (steps.map (·.threshold)).Pairwise (· < ·)) (hka : (prev :: steps)[k]? = some a) (hkb : steps[k]? = some b)
    (ha : a.threshold ≤ w) (hb : w < b.threshold) :
    wearFrom w prev steps = (incrementBetween w a b, false) := by
  induction steps generalizing prev k with
  | nil => cases hkb
  | cons c cs ih =>
    obtain ⟨hfirst, hrest⟩ := List.pairwise_cons.mp hrise
    cases k with
    | zero =>
      obtain rfl : prev = a := Option.some.inj hka
      obtain rfl : c = b := Option.some.inj hkb
      exact wearFrom_cons_of_lt hb
    | succ k =>
      have hmem : a ∈ c :: cs := List.mem_of_getElem? hka
      have hca : c.threshold ≤ a.threshold := by
        rcases List.mem_cons.mp hmem with rfl | hlater
        · exact le_rfl
        · exact (hfirst _ (List.mem_map_of_mem hlater)).le
      rw [wearFrom_cons_of_le (hca.trans ha)]
      exact ih hrest hka hkb

/-- No threshold of a rising curve is above the last one. -/
theorem threshold_le_getLast? {x y : CurveStep} {steps : List CurveStep}
    (hrise : (steps.map (·.threshold)).Pairwise (· < ·)) (hlast : steps.getLast? = some x) (hy : y ∈ steps) :
    y.threshold ≤ x.threshold := by
  obtain rfl := Option.some.inj ((List.getLast?_eq_some_getLast (List.ne_nil_of_mem hy)).symm.trans hlast)
  simpa only [List.getLast_map] using (hrise.imp le_of_lt).rel_getLast (List.mem_map_of_mem hy)

/-- Settles O35: the search is followed to the last step of the curve or to the pair of steps about the wear count, and the
increment between two steps is bounded by theirs. -/
theorem wearIncrementFollowsTheCurve : Obligations.WearIncrementFollowsTheCurve := by
  refine fun w => ⟨rfl, fun steps hne hrange hrise => ⟨fun x hlast hx => ?_, fun k a b hka hkb ha hb => ?_⟩⟩
  · rw [wearIncrement_of_ne_nil hne]
    refine wearFrom_of_forall_le (fun y hy => (threshold_le_getLast? hrise hlast hy).trans hx) ?_
    rw [List.getLast?_cons, hlast, Option.getD_some]
  · have hmax : a.increment ≤ 500 ∧ b.increment ≤ 500 := by
      obtain ⟨-, hbmax⟩ := hrange b (List.mem_of_getElem? hkb)
      refine ⟨?_, hbmax⟩
      rcases List.mem_cons.mp (List.mem_of_getElem? hka) with rfl | hmem
      · exact Nat.zero_le 500
      · exact (hrange a hmem).2
    obtain ⟨hlow, hhigh⟩ := incrementBetween_bounds ha hb
    refine ⟨incrementBetween w a b, ?_, rfl, hlow, hhigh, by omega, by omega⟩
    rw [wearIncrement_of_ne_nil hne]
    exact wearFrom_between hrise hka hkb ha hb

end Machine
end Sys2Proof
end

section
/-!
SUPPORT. READ ATTENTION and SET ATTENTION MASK (O10): the latched kinds of a port as a list in table order, a port with every
latch cleared, and one lemma for a request that changes its port's attention state, which both requests are.
-/
namespace Sys2Proof
namespace Machine

/-! ### Kinds and latches (R180, R181) -/

/-- Bits 0 to 6 of the mask and the kinds they filter (R181). -/
theorem Kind.maskBit_eq_some_iff (k : Kind) (i : Nat) :
    k.maskBit = some i ↔
      (k = .stationComplete ∧ i = 0 ∨ k = .arrival ∧ i = 1 ∨ k = .bodyExit ∧ i = 2 ∨ k = .changeoverTaken ∧ i = 3 ∨
        k = .ringLow ∧ i = 4 ∨ k = .loadDone ∧ i = 5 ∨ k = .dressDone ∧ i = 6) := by
  cases k <;> simp [Kind.maskBit, eq_comm]

/-- The table of 11.6 has every kind. -/
@[simp] theorem Kind.mem_all (k : Kind) : k ∈ Kind.all := by cases k <;> decide

namespace Attention

variable (a : Attention)

/-- The list has each latched kind with its latch, and nothing else (R181). -/
theorem mem_latched (k : Kind) (l : Latch) : (k, l) ∈ a.latched ↔ a.latch k = some l := by
  simp [latched]

/-- The kinds of the list are those of the table that are latched, in the table's order (R181). -/
theorem map_fst_latched : a.latched.map (·.1) = Kind.all.filter fun k => (a.latch k).isSome := by
  rw [latched, List.map_filterMap, ← List.filterMap_eq_filter]
  refine List.filterMap_congr fun k _ => ?_
  cases hk : a.latch k <;> simp [hk, Option.guard]

@[simp] theorem latch_cleared (k : Kind) : a.cleared.latch k = none := by
  cases k <;> rfl

/-- With every latch clear the attention bit is clear (R181). -/
@[simp] theorem waiting_cleared : a.cleared.waiting = false := by
  simp [waiting, latched]

end Attention

namespace State

variable (s : State)

/-- The attention bit of a reply is the port's condition as the request left it (R178). -/
theorem attention_reply_of_answered {h : Hdr} {kind : Byte} {c : Code} {k : Contents} {t : State}
    (ha : answered h kind c k s t) :
    (t.port h.port.val).reply.map (·.attention) = some (t.attn h.port.val).waiting := by
  obtain ⟨hport, -⟩ := ha
  rw [hport]
  rfl

/-- What a request does whose block changes the attention state of its own port alone. -/
theorem exec_request_of_modAttn {i : Instr} {h : Hdr} {kind : Byte} {g : Group}
    (hr : requestOf i = some (h, kind, g)) (hl : s.listens h.port) (hg : s.grants h.port g)
    {f : Attention → Attention} {k : Contents}
    (hb : requestBlock i (s.goodFrameOn h.port.val) =
      ((s.goodFrameOn h.port.val).modAttn h.port.val f).done k) :
    ∃ t, exec i s = .next t ∧ answered h kind .done k s t ∧
      t = { s with ports := t.ports, attention := t.attention } ∧
      t.attn h.port.val = f (s.attn h.port.val) ∧ ∀ q, q ≠ h.port.val → t.attn q = s.attn q := by
  obtain ⟨hexec, hanswered⟩ := s.exec_request_of_block hr hl hg hb rfl
  exact ⟨_, hexec, hanswered, rfl, attn_modAttn_self _ _ f h.port.isLt, fun q hq => attn_modAttn_ne _ _ q f hq⟩

end State

/-! ### The two blocks -/

section
variable {h : Hdr} {mask : Byte} (s : State)

theorem readAttentionBlock_of_lengthOk (hlen : h.lengthOk = true) :
    readAttentionBlock h s =
      (s.modAttn h.port.val Attention.cleared).done (.attention (s.attn h.port.val).latched) :=
  if_pos hlen

theorem readAttentionBlock_of_not_lengthOk (hlen : h.lengthOk = false) : readAttentionBlock h s = s.refuse .range :=
  if_neg (by simp [hlen])

theorem setAttentionMaskBlock_of_checks (hlen : h.lengthOk = true) (hbit : mask.getLsbD 7 = false) :
    setAttentionMaskBlock h mask s =
      (s.modAttn h.port.val fun a => { a with mask := mask.setWidth 7 }).done (.mask (mask.setWidth 7)) :=
  if_pos ⟨hlen, hbit⟩

/-- The refusals of SET ATTENTION MASK: a payload of another length, and a mask with bit 7 (R177, R181). -/
theorem setAttentionMaskBlock_of_refused (hbad : h.lengthOk = false ∨ mask.getLsbD 7 = true) :
    setAttentionMaskBlock h mask s = s.refuse .range :=
  if_neg (by obtain hbad | hbad := hbad <;> simp [hbad])

end

/-- Settles O10: each request past its checks changes its port's attention state alone, READ ATTENTION by clearing it, which
clears the attention bit of the reply, and a refused one changes the ports alone. -/
theorem attentionRequestsReadAndMask : Obligations.AttentionRequestsReadAndMask := by
  refine ⟨fun s h ⟨hlistens, hgrants, hlen⟩ => ⟨?_, fun mask => ⟨fun hbit => ?_, fun hbit => ?_⟩⟩,
    fun s h mask hlistens hlen => ⟨?_, ?_⟩, Kind.maskBit_eq_some_iff⟩
  · have hblock := readAttentionBlock_of_lengthOk (s.goodFrameOn h.port.val) hlen
    obtain ⟨t, hexec, hanswered, hframe, hattn, hother⟩ :=
      s.exec_request_of_modAttn (i := .readAttention h) rfl hlistens hgrants hblock
    have horder : ((s.attn h.port.val).latched.map (·.1)).Sublist Kind.all := by
      rw [Attention.map_fst_latched]
      exact List.filter_sublist
    have hclear : ((t.port h.port.val).reply.map (·.attention)) = some false := by
      rw [s.attention_reply_of_answered hanswered, hattn, Attention.waiting_cleared]
    exact ⟨t, hexec, _, hanswered, (s.attn h.port.val).mem_latched, horder, hframe, hattn, hclear, hother⟩
  · exact s.exec_request_of_modAttn (i := .setAttentionMask h mask) rfl hlistens hgrants
      (setAttentionMaskBlock_of_checks _ hlen hbit)
  · exact s.exec_request_of_block_unchanged (i := .setAttentionMask h mask) rfl hlistens hgrants
      (setAttentionMaskBlock_of_refused _ (.inr hbit))
  · exact s.exec_request_of_block_unchanged (i := .readAttention h) (g := .query) rfl hlistens trivial
      (readAttentionBlock_of_not_lengthOk _ hlen)
  · exact s.exec_request_of_block_unchanged (i := .setAttentionMask h mask) (g := .query) rfl hlistens trivial
      (setAttentionMaskBlock_of_refused _ (.inl hlen))

end Machine
end Sys2Proof
end

section
/-!
SUPPORT. What a command does, in one shape for all of them: every command answers the state `after` it; a command that is no
request works, while RESET is not asserted, by its `eventBlock`; and what the requests, the events and the empty queue keep, a
step keeps.
-/
namespace Sys2Proof
namespace Machine

/-- What the reply of a drop bus does to the state once the transaction `o` it answers has ended (R161). -/
def taking (i : Instr) (o : OnBus) (t : State) : State :=
  match i with
  | .statusReply _ _ x => t.takeStatus o.robot x (State.toLiveAbort o)
  | .ack _ _ => (State.selectOf o).elim t fun f => t.takeAck o.robot f
  | .nakSlot _ _ => (State.selectOf o).elim t fun f => t.takeNakSlot o.robot f
  | .nakBusy _ _ => (State.selectOf o).elim t fun f => t.takeNakBusy o.robot f
  | .aborted _ _ _ _ welds => t.takeAborted o.robot (!State.toLiveAbort o) welds
  | .slotReport _ _ records => (State.classifyFrom o.robot 0 records t).oweSlot o.robot
  | .loadAck _ _ _ => t.takeLoadAck o.robot o.tx.req
  | .loadCheckReply _ _ _ check => t.takeLoadCheck o.robot o.tx.req check
  | _ => t

/-- What an event of the module or of a link does while the RESET input is not asserted. A request, REPLY SENT, which takes a
request, and a command of the RESET input are no such event and do nothing here. -/
def eventBlock (i : Instr) (s : State) : State :=
  match i with
  | .frameError p c =>
    if ((s.port p.val).rx = .skipping ∨ s.receiverClosed p.val) ∧ c ≠ .shortBreak then s else s.frameErrorOn p.val .skipping
  | .interByteGap p => if (s.port p.val).rx = .receiving then s.frameErrorOn p.val .hunting else s
  | .lineSilence p =>
    if (s.port p.val).rx = .skipping then s.modPort p.val fun x => { x with rx := .hunting } else s
  | .portReset p => ((s.modPort p.val Port.afterBreak).modAttn p.val fun _ => Attention.reset).abandonOf p
  | .goodFrameDiscarded p =>
    if (s.port p.val).rx ≠ .skipping ∧ s.receiverClosed p.val = false ∧ (s.port p.val).held.isSome then s.goodFrameOn p.val
    else s
  | .acceptedChange line level => ((s.accept line level).presenceReport line (s.present line)).1
  | .confirmWindowExpiry i => s.expireWindow i
  | .departureEchoExpiry i => s.expireEcho i
  | .overrun i => s.overrunAt i
  | .admissionAttempt => s.takeAdmission
  | .stagingRecomputation r => s.takeRecompute r
  | .selectionAttempt r => s.takeSelection r
  | .arbiterChoice b => s.arbitrate b
  | .pollTimerExpiry r => s.expirePoll r
  | .paceTimerExpiry b => s.expirePace b.val
  | .busyWaitExpiry r => s.expireBusy r
  | .replyTimeout b => s.noReply b.val
  | .invalidReply b => s.noReply b.val
  | .statusReply b drop x =>
    s.takeReply b drop (State.statusFits x) (taking i)
  | .ack b drop =>
    s.takeReply b drop (fun o => (State.selectOf o).isSome) (taking i)
  | .nakSlot b drop =>
    s.takeReply b drop (fun o => (State.selectOf o).isSome) (taking i)
  | .nakBusy b drop =>
    s.takeReply b drop (fun o => (State.selectOf o).isSome) (taking i)
  | .aborted b drop slot dispatch welds =>
    s.takeReply b drop
      (fun o => (match o.tx.req with
        | .abort _ _ _ => true
        | _ => false) && s.slotInRange o.robot slot && decide (dispatch ≤ 7) && decide (welds ≤ 256))
      (taking i)
  | .slotReport b drop records =>
    s.takeReply b drop
      (fun o => match o.tx.req with
        | .slotQuery _ => records.length == s.slotCount o.robot
        | _ => false)
      (taking i)
  | .loadAck b drop slot =>
    s.takeReply b drop
      (fun o => (match o.tx.req with
        | .loadOpen _ _ _ _ _ => true
        | .loadData _ _ _ _ => true
        | .loadCancel _ => true
        | _ => false) && s.slotInRange o.robot slot)
      (taking i)
  | .loadCheckReply b drop slot _ =>
    s.takeReply b drop
      (fun o => (match o.tx.req with
        | .loadClose _ _ => true
        | _ => false) && s.slotInRange o.robot slot)
      (taking i)
  | .frameOpening p =>
    if (s.port p.val).rx = .hunting ∧ s.receiverClosed p.val = false then
      s.modPort p.val fun x => { x with rx := .receiving }
    else s
  | _ => s

/-- A command of the RESET input (R188), or REPLY SENT (R171). -/
def isResetOrSent : Instr → Bool
  | .powerOn _ _ => true
  | .resetAssert => true
  | .resetRelease _ _ => true
  | .replySent _ => true
  | _ => false

/-- The state after RESET ASSERT (R188). -/
def State.resetAsserted (s : State) : State :=
  { s with
    resetInput := true
    due := []
    buses := s.buses.map fun b => { b with cur := none }
    ports := s.ports.map fun p => { p with reply := none, sending := false, held := none } }

/-- An event works by its block, while RESET is not asserted (R188). -/
theorem exec_of_event {i : Instr} (hr : requestOf i = none) (hi : isResetOrSent i = false) (s : State) :
    exec i s = .next (s.whileWorking (eventBlock i)) := by
  cases i <;> simp only [requestOf, isResetOrSent, reduceCtorEq] at hr hi
  case unknownRequestKind h kind =>
    have hk : knownKind kind = true := by
      by_contra hk
      simp [hk] at hr
    simp only [exec, execUnknownRequestKind, hk, State.whileWorking, eventBlock, ↓reduceIte, ite_self]
  all_goals rfl

section
variable {Q : State → Prop} {s t : State}

/-- What the sending of a reply, the held frame and every request's block keep, REPLY SENT keeps (R171). -/
theorem replySent_keeps (hsent : ∀ s (p : Fin 4), Q s → Q (s.modPort p.val fun y => { y with reply := none, sending := false }))
    (hheld : ∀ s (p : Fin 4) x, Q s → Q (s.modPort p.val fun y => { y with held := x }))
    (hreply : ∀ s h k c x, Q s → Q (State.sendReply h k c x s)) (hb : ∀ i s, Q s → Q (requestBlock i s).state) {p : Fin 4}
    (hs : Q s) (ht : exec (.replySent p) s = .next t) : Q t := by
  cases ht
  refine whileWorking_keeps (fun hs => ?_) hs
  split
  · unfold State.takeHeld
    split
    · exact serveHeld_keeps hreply hb _ (hheld _ _ _ (hsent _ _ hs))
    · exact hsent _ _ hs
  · exact hs

/-- What every power-on state has and RESET ASSERT keeps, RESET RELEASE keeps (R188). -/
theorem resetRelease_keeps
    (hpower : ∀ straps levels s r, Q s → Q { State.powerOn straps levels with pending := s.pending, resetInput := r })
    {straps : Straps} {levels : BitVec 16} (hs : Q s) (ht : exec (.resetRelease straps levels) s = .next t) : Q t := by
  simp only [exec, execResetRelease, Host.Outcome.next.injEq] at ht
  split at ht
  · exact ht ▸ hpower straps levels s false hs
  · exact ht ▸ hs

/-- What every power-on state has, and the ports' own changes, RESET ASSERT, every request's block and every event keep, every
command keeps. -/
theorem exec_keeps
    (hpower : ∀ straps levels s r, Q s → Q { State.powerOn straps levels with pending := s.pending, resetInput := r })
    (hassert : ∀ s, Q s → Q s.resetAsserted) (hgood : ∀ s (p : Fin 4), Q s → Q (s.goodFrameOn p.val))
    (hsent : ∀ s (p : Fin 4), Q s → Q (s.modPort p.val fun y => { y with reply := none, sending := false }))
    (hheld : ∀ s (p : Fin 4) x, Q s → Q (s.modPort p.val fun y => { y with held := x }))
    (hreply : ∀ s h k c x, Q s → Q (State.sendReply h k c x s)) (hb : ∀ i s, Q s → Q (requestBlock i s).state)
    (hevent : ∀ i s, Q s → Q (eventBlock i s)) {i : Instr} (hs : Q s) (ht : exec i s = .next t) : Q t := by
  cases hr : requestOf i with
  | some v => exact request_keeps hgood hheld hreply hb hr hs ht
  | none =>
    cases hi : isResetOrSent i with
    | false =>
      rw [exec_of_event hr hi, Host.Outcome.next.injEq] at ht
      exact ht ▸ whileWorking_keeps (hevent i s) hs
    | true =>
      cases i <;> simp only [isResetOrSent, Bool.false_eq_true] at hi
      case powerOn => cases ht; exact hpower _ _ _ _ hs
      case resetAssert => cases ht; exact hassert s hs
      case resetRelease => exact resetRelease_keeps hpower hs ht
      case replySent => exact replySent_keeps hsent hheld hreply hb hs ht

end

/-- What every command and the empty queue keep, and the queue does not bear on, a step keeps. -/
theorem step_keeps {Q : State → Prop} (hqueue : ∀ s l, Q s → Q { s with pending := l })
    (hexec : ∀ i s t, Q s → exec i s = .next t → Q t) (hidle : ∀ s, Q s → Q s.idle) {s t : State} (hs : Q s)
    (ht : step s = .next t) : Q t := by
  unfold step at ht
  split at ht
  · exact hexec _ _ _ (hqueue _ _ hs) ht
  · cases ht
    exact hidle s hs

/-- What a port's beginning reply, the events owed, the arbiter and the millisecond keep, the empty queue keeps. -/
theorem idle_keeps {Q : State → Prop} {s : State} (hbegin : ∀ p, Q (s.beginReply p)) (hdue : ∀ d, Q (s.takeDue d))
    (harbiter : ∀ b, Q (s.arbitrate b)) (htick : Q s.tick) (hs : Q s) : Q s.idle := by
  unfold State.idle
  split
  · exact hs
  · split
    · exact hbegin _
    · split
      · exact hdue _
      · split
        · exact harbiter _
        · exact htick

/-! ### The queue and the commands as a whole -/

/-- Settles O1: the front of the queue is what the step's match takes. -/
theorem stepRunsFrontCommand : Obligations.StepRunsFrontCommand := by
  intro s c rest hqueue
  unfold step
  rw [hqueue]

/-- Every command answers a next state. -/
theorem exists_exec_eq_next (i : Instr) (s : State) : ∃ t, exec i s = .next t := by
  cases i <;> exact ⟨_, rfl⟩

theorem pending_requestBlock (i : Instr) (s : State) : (requestBlock i s).state.pending = s.pending := by
  cases i <;> simp [requestBlock]

/-- A field of the state that the end of a transaction, the restart of a poll timer, a sending without reply and the taking of
the reply leave as it is, the reply leaves as it is (R161). -/
theorem takeReply_leaves {α : Type} (field : State → α) (hend : ∀ s (b : Fin 4), field (s.endTx b.val) = field s)
    (hpoll : ∀ s r, field (State.restartPoll r s) = field s) (hno : ∀ s (b : Fin 4), field (s.noReply b.val) = field s)
    {b : Fin 4} {d : Nat} {fits : OnBus → Bool} {f : OnBus → State → State} (hf : ∀ o u, field (f o u) = field u) (s : State) :
    field (s.takeReply b d fits f) = field s :=
  takeReply_keeps (Q := fun t => field t = field s) (fun u b hu => (hend u b).trans hu) (fun u r hu => (hpoll u r).trans hu)
    (fun u b hu => (hno u b).trans hu) (fun o u hu => (hf o u).trans hu) rfl

theorem pending_taking (i : Instr) (o : OnBus) (u : State) : (taking i o u).pending = u.pending := by
  cases i <;> simp only [taking]
  case statusReply | aborted | slotReport | loadAck | loadCheckReply => simp
  case ack | nakSlot | nakBusy => cases State.selectOf o <;> simp

theorem pending_eventBlock (i : Instr) (s : State) : (eventBlock i s).pending = s.pending := by
  cases i <;> simp only [eventBlock]
  case statusReply | ack | nakSlot | nakBusy | aborted | slotReport | loadAck | loadCheckReply =>
    exact takeReply_leaves State.pending (by simp) (by simp) (by simp) (pending_taking _) s
  case frameError | interByteGap | lineSilence | goodFrameDiscarded | frameOpening => split <;> simp [State.goodFrameOn]
  all_goals simp

/-- Settles O2: the queue is a frame of every block and every event, so it is what it was. -/
theorem everyCommandCompletesAndKeepsQueue : Obligations.EveryCommandCompletesAndKeepsQueue := by
  intro c s
  obtain ⟨t, ht⟩ := exists_exec_eq_next c s
  refine ⟨t, ht, exec_keeps (Q := fun u => u.pending = s.pending) (fun _ _ u _ hu => hu) (fun u hu => hu) (fun u p hu => hu)
    (fun u p hu => hu) (fun u p x hu => hu) (fun u h k c x hu => hu) (fun i u hu => ?_) (fun i u hu => ?_) rfl ht⟩
  · exact (pending_requestBlock i u).trans hu
  · exact (pending_eventBlock i u).trans hu

end Machine
end Sys2Proof
end

section
/-!
SUPPORT. LAYOUT WRITE (R184), for every invariant it bears on: a request taken in SETUP gives its blocks a layout whose records
passed their checks; what each check says of the record it passed; and what the blocks make of the new layout.
-/
namespace Sys2Proof
namespace Machine

/-- A LAYOUT WRITE changes nothing, or is taken in SETUP with every record in range (R184). -/
theorem layoutWriteBlock_cases (h : Hdr) (records : List RawRecord) (s : State) :
    (layoutWriteBlock h records s).state = s ∨
      s.mode = .setup ∧ (∀ x ∈ records, recordFault x = none) ∧
        (layoutWriteBlock h records s).state = s.applyLayout (records.foldl Layout.write s.layout) := by
  unfold layoutWriteBlock
  split
  · exact .inl rfl
  · rename_i hmode
    have hsetup : s.mode = .setup := by cases hm : s.mode <;> simp_all
    split
    · exact .inl rfl
    · rename_i hfault
      split
      · exact .inl rfl
      · exact .inr ⟨hsetup, List.findSome?_eq_none_iff.mp hfault, State.done_state _ _⟩

/-- What holds of a layout and is kept by every record in range that is written, holds of the layout of a LAYOUT WRITE. -/
theorem foldl_write_keeps {Q : Layout → Prop} (hwrite : ∀ l x, recordFault x = none → Q l → Q (l.write x))
    {records : List RawRecord} (hrecords : ∀ x ∈ records, recordFault x = none) {l : Layout} (hl : Q l) :
    Q (records.foldl Layout.write l) :=
  List.foldlRecOn records Layout.write hl fun l hl x hx => hwrite l x (hrecords x hx) hl

namespace State

@[simp] theorem layout_changeRobots (new : Layout) (s : State) : (s.changeRobots new).layout = new := by
  unfold changeRobots
  exact (foldl_keeps State.layout _ (fun t a => by simp) _ _).trans (foldl_keeps State.layout _ (fun t a => by simp) _ _)

/-- The blocks act on the new layout, which is then the layout (R184). -/
@[simp] theorem layout_applyLayout (new : Layout) (s : State) : (s.applyLayout new).layout = new := by
  unfold applyLayout
  refine (foldl_keeps State.layout _ (fun t a => by simp) _ _).trans ?_
  (repeat' split) <;> simp

theorem threshold_congr {s t : State} (h : t.layout = s.layout) (p : Nat) : t.threshold p = s.threshold p := by
  simp only [threshold, h]

theorem port_congr {s t : State} (h : t.ports = s.ports) (p : Nat) : t.port p = s.port p := by simp only [port, h]

/-- A port under a threshold newly written (R174). -/
theorem port_applyThreshold (s : State) (p q : Nat) (hp : p < 4) :
    (s.applyThreshold p).port q = if q = p then (s.port p).newThreshold (s.threshold p) else s.port q := by
  have hports : (s.applyThreshold p).port q = (s.modPort p (Port.newThreshold (s.threshold p))).port q := by
    unfold applyThreshold
    dsimp only
    split <;> rfl
  rw [hports]
  split
  · next hq => rw [hq, port_modPort_self _ _ _ hp]
  · next hq => rw [port_modPort_ne _ _ _ _ hq]

/-- The first `n` ports under the thresholds newly written (R174). -/
theorem port_applyThresholds (s : State) {n : Nat} (hn : n ≤ 4) (q : Nat) :
    ((List.range n).foldl (fun t p => t.applyThreshold p) s).port q =
      if q < n then (s.port q).newThreshold (s.threshold q) else s.port q := by
  induction n generalizing q with
  | zero => simp
  | succ n ih =>
    rw [List.range_succ, List.foldl_append, List.foldl_cons, List.foldl_nil, port_applyThreshold _ _ _ (by omega),
      ih (by omega) q, ih (by omega) n,
      threshold_congr (foldl_keeps State.layout (fun t p => t.applyThreshold p) (fun t a => by simp) (List.range n) s)]
    by_cases hq : q = n
    · subst hq
      simp
    · have : q < n + 1 ↔ q < n := by omega
      simp [hq, this]

/-- Every port takes its new threshold (R174, R184). -/
theorem port_applyLayout (s : State) (new : Layout) {q : Nat} (hq : q < 4) :
    (s.applyLayout new).port q = (s.port q).newThreshold (tget 31 new.thresholds q) := by
  unfold applyLayout
  dsimp only
  rw [port_applyThresholds _ le_rfl, if_pos hq]
  congr 1
  · rw [threshold]
    congr 2
    (repeat' split) <;> simp
  · refine port_congr ?_ q
    (repeat' split) <;> simp

end State

/-- SET SENSE writes the STATION records of the layout alone (R74). -/
theorem layout_setSenseBlock (h : Hdr) (i : Nat) (sense : Option Sense) (s : State) :
    ∃ v, (setSenseBlock h i sense s).state.layout = { s.layout with stations := v } := by
  unfold setSenseBlock
  (repeat' split)
  · exact ⟨_, rfl⟩
  · exact ⟨_, rfl⟩
  · exact ⟨_, rfl⟩
  · exact ⟨_, by simp only [State.done_state, State.presenceReport_frame]; rfl⟩

end Machine
end Sys2Proof
end

section
/-!
SUPPORT. The error counters of the ports (O54): a counter within its threshold, port by port; a good frame, a frame error, a break
and a new threshold keep it there; everything else leaves the ports and the thresholds alone.
-/
namespace Sys2Proof
namespace Machine

/-- E lies within threshold `t`, and the port is DEGRADED only above 0 (R173, R174). -/
def Port.Within (t : Nat) (x : Port) : Prop := x.errors ≤ t ∧ (x.degraded = true → 1 ≤ x.errors)

/-- The port's counter and flag are read from `errors` and `degraded` alone. -/
theorem Port.Within.congr {t : Nat} {x y : Port} (hx : x.Within t) (herrors : y.errors = x.errors)
    (hdegraded : y.degraded = x.degraded) : y.Within t := by
  unfold Port.Within
  rw [herrors, hdegraded]
  exact hx

theorem Port.Within.goodFrame {t : Nat} {x : Port} (hx : x.Within t) : x.goodFrame.Within t := by
  obtain ⟨hle, -⟩ := hx
  refine ⟨(Nat.sub_le _ _).trans hle, fun hd => ?_⟩
  simp only [Port.goodFrame, Bool.and_eq_true, bne_iff_ne] at hd ⊢
  exact Nat.one_le_iff_ne_zero.mpr hd.2

theorem Port.Within.frameError {t : Nat} {x : Port} (hx : x.Within t) : (x.frameError t).Within t := by
  unfold Port.frameError
  split
  · next hlt => exact ⟨hlt, fun _ => Nat.le_add_left 1 _⟩
  · exact hx

theorem Port.within_afterBreak (t : Nat) (x : Port) : x.afterBreak.Within t := ⟨Nat.zero_le _, nofun⟩

theorem Port.within_newThreshold {t : Nat} {x : Port} (ht : 1 ≤ t) (hx : x.degraded = true → 1 ≤ x.errors) :
    (x.newThreshold t).Within t := by
  unfold Port.newThreshold
  split
  · exact ⟨le_rfl, fun _ => ht⟩
  · next hle => exact ⟨not_lt.mp hle, hx⟩

theorem Port.within_powerOn (t : Nat) (roles : Roles) : (Port.powerOn roles).Within t := ⟨Nat.zero_le _, nofun⟩

/-- Every threshold of the layout is at least 1 (R174). -/
def Layout.ThresholdsPositive (l : Layout) : Prop := ∀ p, p < 4 → 1 ≤ tget 31 l.thresholds p

theorem Layout.ThresholdsPositive.write {l : Layout} (hl : l.ThresholdsPositive) {x : RawRecord} (hx : recordFault x = none) :
    (l.write x).ThresholdsPositive := by
  intro p hp
  cases x with
  | port i t =>
    have ht : 1 ≤ t := by
      by_contra ht
      simp only [recordFault, not_le.mp ht, true_or, ↓reduceIte] at hx
      split at hx <;> simp at hx
    simp only [Layout.write, tget_tset]
    split
    · exact ht
    · exact hl p hp
  | _ => exact hl p hp

namespace State

theorem portsInv_iff (s : State) :
    s.portsInv ↔ s.layout.ThresholdsPositive ∧ ∀ p, p < 4 → (s.port p).Within (s.threshold p) :=
  ⟨fun hs => ⟨fun p hp => (hs p hp).1, fun p hp => (hs p hp).2⟩, fun hs p hp => ⟨hs.1 p hp, hs.2 p hp⟩⟩

variable {s t : State}

/-- The invariant reads the ports and the thresholds alone. -/
theorem portsInv.congr (hs : s.portsInv) (hports : t.ports = s.ports) (hthresholds : t.layout.thresholds = s.layout.thresholds) :
    t.portsInv := by
  unfold portsInv threshold port
  rw [hports, hthresholds]
  exact hs

/-- A change of a port that keeps its counter within its threshold keeps the invariant. -/
theorem portsInv.modPort (hs : s.portsInv) (p : Nat) {f : Port → Port}
    (hf : ∀ x, x.Within (s.threshold p) → (f x).Within (s.threshold p)) : (s.modPort p f).portsInv := by
  rw [portsInv_iff] at hs ⊢
  obtain ⟨hthresholds, hwithin⟩ := hs
  refine ⟨hthresholds, fun q hq => ?_⟩
  by_cases h : q = p
  · subst h
    rw [port_modPort_self _ _ _ hq]
    exact hf _ (hwithin q hq)
  · rw [port_modPort_ne _ _ _ _ h]
    exact hwithin q hq

/-- A change of a port that leaves E and the flag alone keeps the invariant. -/
theorem portsInv.modPort_of_same (hs : s.portsInv) (p : Nat) {f : Port → Port} (herrors : ∀ x, (f x).errors = x.errors)
    (hdegraded : ∀ x, (f x).degraded = x.degraded) : (s.modPort p f).portsInv :=
  hs.modPort p fun x hx => hx.congr (herrors x) (hdegraded x)

theorem portsInv.goodFrameOn (hs : s.portsInv) (p : Fin 4) : (s.goodFrameOn p.val).portsInv :=
  hs.modPort p.val fun _ hx => hx.goodFrame.congr rfl rfl

theorem portsInv.frameErrorOn (hs : s.portsInv) (p : Nat) (rx : RxState) : (s.frameErrorOn p rx).portsInv := by
  have hmod : (s.modPort p fun x => { Port.frameError (s.threshold p) x with rx := rx }).portsInv :=
    hs.modPort p fun x hx => hx.frameError.congr rfl rfl
  unfold State.frameErrorOn
  dsimp only
  split
  · exact hmod.congr rfl rfl
  · exact hmod

/-- A LAYOUT WRITE that is taken gives every port its threshold, and E the threshold where that lies below (R174). -/
theorem portsInv.applyLayout (hs : s.portsInv) {new : Layout} (hnew : new.ThresholdsPositive) :
    (s.applyLayout new).portsInv := by
  rw [portsInv_iff]
  refine ⟨by rwa [layout_applyLayout], fun p hp => ?_⟩
  rw [port_applyLayout s new hp, threshold, layout_applyLayout]
  obtain ⟨-, -, hdegraded⟩ := hs p hp
  exact Port.within_newThreshold (hnew p hp) hdegraded

theorem portsInv_powerOn (straps : Straps) (levels : BitVec 16) : (powerOn straps levels).portsInv := by
  rw [portsInv_iff]
  refine ⟨fun p hp => ?_, fun p hp => ?_⟩
  · rw [powerOn, Layout.default, tget_replicate _ _ _ hp]
    decide
  · obtain rfl | rfl | rfl | rfl : p = 0 ∨ p = 1 ∨ p = 2 ∨ p = 3 := by omega
    all_goals exact Port.within_powerOn _ _

theorem portsInv.resetAsserted (hs : s.portsInv) : s.resetAsserted.portsInv := by
  intro p hp
  obtain ⟨hthreshold, hwithin⟩ := hs p hp
  have hport : s.resetAsserted.port p = { s.port p with reply := none, sending := false, held := none } :=
    tget_map _ _ _ _ _ hp
  rw [hport]
  exact ⟨hthreshold, hwithin⟩

theorem portsInv.sendReply (hs : s.portsInv) (h : Hdr) (kind : Byte) (c : Code) (k : Contents) :
    (s.sendReply h kind c k).portsInv :=
  hs.modPort_of_same _ (fun _ => rfl) fun _ => rfl

theorem portsInv.layoutWriteBlock (hs : s.portsInv) (h : Hdr) (records : List RawRecord) :
    (layoutWriteBlock h records s).state.portsInv := by
  obtain heq | ⟨-, hrecords, heq⟩ := layoutWriteBlock_cases h records s
  · rwa [heq]
  · rw [heq]
    exact hs.applyLayout (foldl_write_keeps (fun _ _ hx hl => hl.write hx) hrecords ((portsInv_iff s).mp hs).1)

end State

/-- No block but that of LAYOUT WRITE changes a port or a threshold. -/
theorem requestBlock_portsInv (i : Instr) {s : State} (hs : s.portsInv) : (requestBlock i s).state.portsInv := by
  cases i
  case layoutWrite h records => exact hs.layoutWriteBlock h records
  case setSense h i sense =>
    obtain ⟨v, hlayout⟩ := layout_setSenseBlock h i sense s
    exact hs.congr (by simp [requestBlock]) (by rw [requestBlock, hlayout])
  all_goals exact hs.congr (by simp [requestBlock]) (by simp [requestBlock])

theorem ports_taking (i : Instr) (o : OnBus) (u : State) : (taking i o u).ports = u.ports := by
  cases i <;> simp only [taking]
  case statusReply | aborted | slotReport | loadAck | loadCheckReply => simp
  case ack | nakSlot | nakBusy => cases State.selectOf o <;> simp

theorem layout_taking (i : Instr) (o : OnBus) (u : State) : (taking i o u).layout = u.layout := by
  cases i <;> simp only [taking]
  case statusReply | aborted | slotReport | loadAck | loadCheckReply => simp
  case ack | nakSlot | nakBusy => cases State.selectOf o <;> simp

/-- The events of a line port count in E or leave it; the other events leave the ports and the thresholds alone. -/
theorem eventBlock_portsInv (i : Instr) {s : State} (hs : s.portsInv) : (eventBlock i s).portsInv := by
  cases i <;> simp only [eventBlock]
  case frameError => split <;> [exact hs; exact hs.frameErrorOn _ _]
  case interByteGap => split <;> [exact hs.frameErrorOn _ _; exact hs]
  case lineSilence => split <;> [exact hs.modPort_of_same _ (fun _ => rfl) fun _ => rfl; exact hs]
  case portReset p =>
    exact (hs.modPort p.val fun x _ => x.within_afterBreak _).congr (by simp) (by simp)
  case goodFrameDiscarded => split <;> [exact hs.goodFrameOn _; exact hs]
  case frameOpening => split <;> [exact hs.modPort_of_same _ (fun _ => rfl) fun _ => rfl; exact hs]
  case statusReply | ack | nakSlot | nakBusy | aborted | slotReport | loadAck | loadCheckReply =>
    refine hs.congr (takeReply_leaves State.ports (by simp) (by simp) (by simp) (ports_taking _) s) ?_
    rw [takeReply_leaves State.layout (by simp) (by simp) (by simp) (layout_taking _) s]
  all_goals exact hs.congr (by simp) (by simp)

theorem idle_portsInv {s : State} (hs : s.portsInv) : s.idle.portsInv :=
  idle_keeps (fun _ => hs.modPort_of_same _ (fun _ => rfl) fun _ => rfl) (fun d => hs.congr (by simp) (by simp))
    (fun b => hs.congr (by simp) (by simp)) (hs.congr (by simp) (by simp)) hs

/-- Settles O54: no command and no step on an empty queue takes a counter out of its range. -/
theorem stepKeepsPortCountersInRange : Obligations.StepKeepsPortCountersInRange := fun _ _ hs ht =>
  step_keeps (Q := State.portsInv) (fun _ _ hs => hs)
    (fun _ _ _ hs ht => exec_keeps (Q := State.portsInv)
      (fun straps levels _ _ _ => (State.portsInv_powerOn straps levels).congr rfl rfl) (fun _ hs => hs.resetAsserted)
      (fun _ p hs => hs.goodFrameOn p) (fun _ _ hs => hs.modPort_of_same _ (fun _ => rfl) fun _ => rfl)
      (fun _ _ _ hs => hs.modPort_of_same _ (fun _ => rfl) fun _ => rfl) (fun _ h k c x hs => hs.sendReply h k c x)
      (fun i _ hs => requestBlock_portsInv i hs) (fun i _ hs => eventBlock_portsInv i hs) hs ht)
    (fun _ hs => idle_portsInv hs) hs ht

end Machine
end Sys2Proof
end

section
/-!
SUPPORT. The tables that the invariants O55 and O57 to O59 read, and what a property of them has to be kept by for every shared
operation to keep it: `Closed` lists the changes of single entries that the operations of Chapters 3, 7, 8, 9 and 10 are made
of, and one lemma for each operation says that a closed property survives it.
-/
namespace Sys2Proof
namespace Machine

/-- The counters of a robot context lie in the ranges of R107. -/
def Robot.InRange (b : Robot) : Prop :=
  b.wear ≤ 65535 ∧ b.clamps ≤ 65535 ∧ b.uses ≤ 4294967295 ∧ b.totalWelds < 4294967296 ∧ b.dispatch < 8

/-- Every pending transaction of a robot stands in its own class (R164). -/
def Pend.InClass (p : Pend) : Prop :=
  (∀ tx, p.abort = some tx → tx.cls = .abort) ∧ (∀ tx, p.select = some tx → tx.cls = .select) ∧
    (∀ tx, p.poll = some tx → tx.cls = .poll) ∧ ∀ tx, p.query = some tx → tx.cls = .query

/-- Only load transactions stand in a load channel (R135, R164). -/
def Staging.InClass (g : Staging) : Prop := ∀ tx ∈ g.channel, tx.cls = .load

namespace Pend.InClass
variable {p : Pend} (hp : p.InClass) {tx : Tx}
include hp

theorem abort (htx : tx.cls = .abort) : ({ p with abort := some tx } : Pend).InClass :=
  ⟨fun _ hx => Option.some.inj hx ▸ htx, hp.2⟩

theorem select (htx : tx.cls = .select) : ({ p with select := some tx } : Pend).InClass :=
  let ⟨habort, _, hrest⟩ := hp
  ⟨habort, fun _ hx => Option.some.inj hx ▸ htx, hrest⟩

theorem poll (htx : tx.cls = .poll) : ({ p with poll := some tx } : Pend).InClass :=
  let ⟨habort, hselect, _, hquery⟩ := hp
  ⟨habort, hselect, fun _ hx => Option.some.inj hx ▸ htx, hquery⟩

theorem query (htx : tx.cls = .query) : ({ p with query := some tx } : Pend).InClass :=
  let ⟨habort, hselect, hpoll, _⟩ := hp
  ⟨habort, hselect, hpoll, fun _ hx => Option.some.inj hx ▸ htx⟩

theorem noAbort : ({ p with abort := none } : Pend).InClass :=
  ⟨fun _ hx => (Option.some_ne_none _ hx.symm).elim, hp.2⟩

theorem noSelect : ({ p with select := none } : Pend).InClass :=
  let ⟨habort, _, hrest⟩ := hp
  ⟨habort, fun _ hx => (Option.some_ne_none _ hx.symm).elim, hrest⟩

theorem noPoll : ({ p with poll := none } : Pend).InClass :=
  let ⟨habort, hselect, _, hquery⟩ := hp
  ⟨habort, hselect, fun _ hx => (Option.some_ne_none _ hx.symm).elim, hquery⟩

theorem noQuery : ({ p with query := none } : Pend).InClass :=
  let ⟨habort, hselect, hpoll, _⟩ := hp
  ⟨habort, hselect, hpoll, fun _ hx => (Option.some_ne_none _ hx.symm).elim⟩

end Pend.InClass

/-- A state with the same mode, LINE record, Body Table, robots, pending transactions, staging and library. -/
structure SameTables (s t : State) : Prop where
  mode : t.mode = s.mode
  line : t.layout.line = s.layout.line
  bodies : t.bodies = s.bodies
  robots : t.robots = s.robots
  pend : t.pend = s.pend
  staging : t.staging = s.staging
  library : t.library = s.library

/-- A property of the tables that the changes of single entries keep: of a robot within its counters' ranges, of pending
transactions within their classes, of a body that makes none ADMITTED that was not, of a reference count; and that freeing
bodies keeps. -/
structure Closed (Q : State → Prop) : Prop where
  congr : ∀ {s t}, Q s → SameTables s t → Q t
  robot : ∀ {s} r {f : Robot → Robot}, Q s → (∀ b, b.InRange → (f b).InRange) → Q (s.modRobot r f)
  robots : ∀ {s} {f : Robot → Robot}, Q s → (∀ b, b.InRange → (f b).InRange) → Q { s with robots := s.robots.map f }
  pend : ∀ {s} r {f : Pend → Pend}, Q s → (∀ p, p.InClass → (f p).InClass) → Q (s.modPend r f)
  stage : ∀ {s} r {f : Staging → Staging}, Q s → (∀ g, g.InClass → (f g).InClass) → Q (s.modStage r f)
  body : ∀ {s} {f : Body → Body}, Q s → (∀ b, (f b).state = .admitted → b.state = .admitted) →
    Q { s with bodies := s.bodies.map f }
  free : ∀ {s} (p : Body → Bool), Q s → Q { s with bodies := s.bodies.filter p }
  refs : ∀ {s} n k, Q s → Q (s.setProg n { s.prog n with refs := k })

/-- A fold of operations that each keep a property keeps it. -/
theorem foldl_keeps_prop {Q : State → Prop} {α : Type} {f : State → α → State} (hf : ∀ s a, Q s → Q (f s a)) (l : List α)
    {s : State} (hs : Q s) : Q (l.foldl f s) :=
  List.foldlRecOn l f hs fun t ht a _ => hf t a ht

/-- Both branches of a choice having a property, the choice has it. -/
theorem prop_ite {Q : State → Prop} {c : Prop} [Decidable c] {a b : State} (ha : Q a) (hb : Q b) : Q (if c then a else b) := by
  split
  · exact ha
  · exact hb

namespace Closed
variable {Q : State → Prop} (hQ : Closed Q) {s : State} (hs : Q s)
include hQ hs

/-! ### The Body Table and the stations -/

theorem raise (k : Kind) (n : Nat) : Q (s.raise k n) := hQ.congr hs (by constructor <;> simp)

theorem owe (ds : List Due) : Q (s.owe ds) := hQ.congr hs (by constructor <;> simp)

theorem oweAll : Q s.oweAll := hQ.congr hs (by constructor <;> simp)

theorem oweSlot (r : Nat) : Q (s.oweSlot r) := hQ.congr hs (by constructor <;> simp)

theorem modStation (i : Nat) (f : Station → Station) : Q (s.modStation i f) := hQ.congr hs (by constructor <;> simp)

theorem modPresence (i : Nat) (f : Presence → Presence) : Q (s.modPresence i f) := hQ.congr hs (by constructor <;> simp)

theorem openWindow (i : Nat) (w : Window) : Q (s.openWindow i w) := hQ.congr hs (by constructor <;> simp)

theorem closeWindow (i : Nat) : Q (s.closeWindow i) := hQ.congr hs (by constructor <;> simp)

theorem setEcho (i : Nat) (e : Echo) : Q (s.setEcho i e) := hQ.congr hs (by constructor <;> simp)

theorem enterState (i : Nat) (st : StationState) : Q (s.enterState i st) := hQ.congr hs (by constructor <;> simp)

theorem faultStation (i : Nat) (c : Cause) : Q (s.faultStation i c) := hQ.congr hs (by constructor <;> simp)

theorem completeStation (i : Nat) : Q (s.completeStation i) := hQ.congr hs (by constructor <;> simp)

theorem setComponent (i r : Nat) (c : Component) : Q (s.setComponent i r c) := hQ.congr hs (by constructor <;> simp)

theorem vacate (i : Nat) (st : StationState) (wait : List Nat) : Q (s.vacate i st wait) :=
  hQ.congr hs (by constructor <;> simp)

theorem leaveAbortWait (r : Nat) : Q (s.leaveAbortWait r) := hQ.congr hs (by constructor <;> simp)

theorem faultFor (i : Nat) (sel : Selection) (c : Cause) : Q (s.faultFor i sel c) := hQ.congr hs (by constructor <;> simp)

theorem modBody (k : Nat) {f : Body → Body} (hf : ∀ b, (f b).state = .admitted → b.state = .admitted) :
    Q (s.modBody k f) :=
  hQ.body hs fun b hb => by
    split at hb
    · exact hf b hb
    · exact hb

theorem setResult (k i : Nat) (r : Result) : Q (s.modBody k (Body.setResult i r)) := hQ.modBody hs k fun _ hb => hb

theorem markIncomplete (k : Nat) : Q (s.markIncomplete k) := by
  unfold State.markIncomplete
  split
  · exact hQ.raise (hQ.modBody hs k (f := fun b => { b with incomplete := true }) fun _ hb => hb) _ _
  · exact hs

theorem setResultAt (i : Nat) (r : Result) : Q (s.setResultAt i r) := by
  unfold State.setResultAt
  split
  · exact hQ.setResult hs _ _ _
  · exact hs

theorem freeBody (k : Nat) : Q (s.freeBody k) := by
  unfold State.freeBody
  split
  · exact hQ.congr (hQ.free (fun c => c.key != k) hs) (by constructor <;> simp)
  · exact hs

theorem judgeStation (i : Nat) : Q (s.judgeStation i) := by
  unfold State.judgeStation
  dsimp only
  split
  · split
    · split
      · split
        · exact hQ.completeStation (hQ.setResultAt (hQ.enterState hs _ _) _ _) _
        · exact hQ.enterState hs _ _
      · exact hs
    · split
      · exact hQ.completeStation (hQ.setResultAt hs _ _) _
      · exact hs
    · exact hs
  · exact hs

theorem skipDisabled (r : Nat) : Q (s.skipDisabled r) := by
  unfold State.skipDisabled
  split
  · split
    · dsimp only
      refine hQ.judgeStation ?_ _
      split
      · exact hQ.markIncomplete (hQ.setComponent hs _ _ _) _
      · exact hQ.setComponent hs _ _ _
    · exact hs
  · exact hs

/-! ### Robots, aborts and the end of a load -/

/-- A change of a robot that leaves its five counters alone. -/
theorem robot_of_same (r : Nat) {f : Robot → Robot}
    (hf : ∀ b, (f b).wear = b.wear ∧ (f b).clamps = b.clamps ∧ (f b).uses = b.uses ∧ (f b).totalWelds = b.totalWelds ∧
      (f b).dispatch = b.dispatch := by intro b; exact ⟨rfl, rfl, rfl, rfl, rfl⟩) : Q (s.modRobot r f) :=
  hQ.robot r hs fun b hb => by
    obtain ⟨hwear, hclamps, huses, hwelds, hdispatch⟩ := hf b
    unfold Robot.InRange
    rw [hwear, hclamps, huses, hwelds, hdispatch]
    exact hb

/-- A change of a robot's staging that leaves the load channel alone. -/
theorem stage_of_same (r : Nat) {f : Staging → Staging} (hchannel : ∀ g, (f g).channel = g.channel := by intro g; rfl) : Q (s.modStage r f) :=
  hQ.stage r hs fun g hg => by
    unfold Staging.InClass
    rw [hchannel]
    exact hg

theorem enterIdle (r : Nat) : Q (s.enterIdle r) :=
  hQ.oweSlot (hQ.skipDisabled (hQ.robot_of_same hs r) r) r

theorem startAbort (r : Nat) (sel : Selection) : Q (s.startAbort r sel) := by
  have hrobot := hQ.robot_of_same hs r (f := fun b => { b with motion := .aborting sel, busy := none, pollTimer := 0 })
  exact hQ.owe (hQ.pend r hrobot fun p hp => (hp.abort rfl).noSelect) _

theorem abortAll (k : Nat) (rs : List Nat) : Q (s.abortAll k rs) :=
  foldl_keeps_prop (fun t r ht => by
    split
    · exact hQ.startAbort ht _ _
    · exact ht) rs hs

theorem countWelds (r n : Nat) : Q (s.countWelds r n) :=
  hQ.robot r hs fun b ⟨_, hclamps, huses, _, hdispatch⟩ =>
    ⟨min_le_left _ _, hclamps, huses, Nat.mod_lt _ (by decide), hdispatch⟩

theorem setWelds (k r n : Nat) : Q (s.setWelds k r n) := hQ.modBody hs k fun _ hb => hb

theorem addRef (n : Nat) : Q (s.addRef n) := hQ.refs n _ hs

theorem dropRef (n : Nat) : Q (s.dropRef n) := hQ.refs n _ hs

theorem endLoad (r : Nat) : Q (s.endLoad r) := by
  unfold State.endLoad
  split
  · exact hQ.stage_of_same (hQ.dropRef hs _) r
  · exact hs

theorem setSlot (r i : Nat) (c : SlotContent) : Q (s.setSlot r i c) :=
  hQ.robot_of_same hs r

theorem cancelLoad (r : Nat) : Q (s.cancelLoad r) := by
  unfold State.cancelLoad
  split
  · refine hQ.oweSlot (hQ.stage r (hQ.setSlot (hQ.endLoad hs _) _ _ _) fun g hg tx htx => ?_) r
    obtain htx | htx := List.mem_append.mp htx
    · exact hg tx (List.mem_of_mem_filter htx)
    · rw [List.mem_singleton.mp htx]
      rfl
  · exact hs

theorem loseMotion (r : Nat) : Q (s.loseMotion r) := by
  have hfault : ∀ sel, Q ((s.stationOf r).elim s fun i => s.faultFor i sel .robotLost) := fun sel => by
    cases s.stationOf r with
    | none => exact hs
    | some i => exact hQ.faultFor hs i sel _
  unfold State.loseMotion
  split
  · exact hs
  · exact hQ.enterIdle hs r
  · exact hQ.enterIdle (hfault _) r
  · exact hQ.enterIdle (hfault _) r
  · exact hQ.enterIdle (hQ.leaveAbortWait hs r) r

theorem goOffline (r : Nat) (notify : Bool) : Q (s.goOffline r notify) := by
  have hpend : Q (s.modPend r fun _ => .reset) := hQ.pend r hs fun _ _ => ⟨nofun, nofun, nofun, nofun⟩
  have hload := hQ.endLoad (hQ.congr hpend (t := (s.modPend r fun _ => .reset).endOnBuses r) (by constructor <;> simp)) r
  have hstage := hQ.stage r hload (f := fun g => { g with channel := [], blocked := false }) fun _ _ => nofun
  have hlose := hQ.loseMotion (hQ.robot_of_same hstage r (f := fun b => { b with
    online := false, slots := .replicate 8 ⟨.unknown, 0⟩, fault := none, busy := none, pollTimer := 0 })) r
  refine hQ.oweSlot ?_ r
  split
  · exact hQ.raise hlose _ _
  · exact hlose

end Closed
end Machine
end Sys2Proof
end

section
/-!
SUPPORT. Closed properties through the Line Tracker and the Presence Input Unit (Chapters 3 and 4).
-/
namespace Sys2Proof
namespace Machine

/-- Writing results never makes a body ADMITTED. -/
theorem state_foldl_setResult (l : List Nat) (r : Result) (b : Body) :
    (l.foldl (fun b j => b.setResult j r) b).state = b.state := by
  induction l generalizing b with
  | nil => rfl
  | cons j l ih => exact ih _

namespace Closed
variable {Q : State → Prop} (hQ : Closed Q) {s : State} (hs : Q s)
include hQ hs

theorem openWork (i k : Nat) : Q (s.openWork i k) := by
  unfold State.openWork
  split
  · exact hs
  · rename_i b hb
    dsimp only
    have hitems : Q (s.modStation i fun x => { x with work := some (s.workFor i b) }) := hQ.modStation hs i _
    have hmarked := prop_ite (c := ((s.workFor i b).any fun w => w.comp == .skipped) = true) (hQ.markIncomplete hitems k) hitems
    exact hQ.owe (hQ.oweAll (prop_ite (hQ.completeStation (hQ.setResultAt hmarked _ _) _) hmarked)) _

theorem exitBody (k : Nat) : Q (s.exitBody k) := by
  unfold State.exitBody
  split
  · exact hs
  · dsimp only
    refine hQ.owe (hQ.oweAll ?_) _
    have hexit : ∀ n, Q ((s.freeBody k).raise .bodyExit n) := fun n => hQ.raise (hQ.freeBody hs k) _ _
    split
    · exact hQ.raise (hexit _) _ _
    · exact hexit _

theorem moveOn (i k : Nat) : Q (s.moveOn i k) := by
  unfold State.moveOn
  split
  · exact hQ.exitBody hs k
  · exact hQ.modBody hs k nofun

theorem leaveUnwelded (i k : Nat) (move : Bool) : Q (s.leaveUnwelded i k move) := by
  unfold State.leaveUnwelded
  dsimp only
  refine hQ.abortAll ?_ k _
  have hvacate : ∀ st wait, Q (((s.modBody k (Body.setResult i .incomplete)).markIncomplete k).vacate i st wait) :=
    fun st wait => hQ.vacate (hQ.markIncomplete (hQ.setResult hs _ _ _) k) i st wait
  split
  · exact hQ.moveOn (hvacate _ _) i k
  · exact hvacate _ _

theorem leaveUnowed (i k : Nat) (b : Body) : Q (s.leaveUnowed i k b) := by
  unfold State.leaveUnowed
  dsimp only
  refine hQ.vacate ?_ i _ _
  split
  · exact hQ.markIncomplete (hQ.setResult hs _ _ _) k
  · exact hQ.setResult hs _ _ _

theorem departure (i : Nat) : Q (s.departure i).1 := by
  unfold State.departure
  split
  · exact hs
  · split
    · exact hs
    · dsimp only
      split
      · exact hQ.oweAll (hQ.moveOn (hQ.vacate hs _ _ _) _ _)
      · split
        · exact hQ.oweAll (hQ.moveOn (hQ.leaveUnowed hs _ _ _) _ _)
        · exact hQ.oweAll (hQ.leaveUnwelded hs _ _ _)
      · exact hQ.oweAll (hQ.leaveUnwelded hs _ _ _)
      · exact hQ.oweAll (hQ.leaveUnwelded hs _ _ _)
      · exact hs

theorem impliedDeparture (i : Nat) (b : Body) : Q (s.impliedDeparture i b) := by
  unfold State.impliedDeparture
  split
  · split
    · exact hQ.departure hs _
    · exact hs
  · exact hs

theorem bypass (i k : Nat) : Q (s.bypass i k) := by
  unfold State.bypass
  split
  · exact hs
  · dsimp only
    have hskip : ∀ l : List Nat, Q (s.modBody k fun b => l.foldl (fun b j => b.setResult j .skipped) b) := fun l =>
      hQ.modBody hs k fun b hb => by rwa [state_foldl_setResult] at hb
    split
    · exact hQ.markIncomplete (hskip _) k
    · exact hskip _

theorem takeArrival (i k : Nat) : Q (s.takeArrival i k) := by
  unfold State.takeArrival
  dsimp only
  have hend : ∀ u, Q u → Q (if (s.station i).hold = true then u else u.openWork i k) := fun u hu =>
    prop_ite hu (hQ.openWork hu i k)
  have howe : ∀ (c : Bool) u, Q u → Q (if c = true then u.owe [.admission] else u) := fun c u hu =>
    prop_ite (hQ.owe hu _) hu
  refine hend _ (howe _ _ (hQ.oweAll (hQ.raise (hQ.modStation (hQ.enterState (hQ.modBody hs k fun b hb => ?_) _ _) _ _) _ _)))
  cases hb

theorem arrival (i : Nat) (tag : Option Word) : Q (s.arrival i tag).1 := by
  unfold State.arrival
  split
  · exact hs
  · exact hQ.faultStation hs _ _
  · split
    · exact hs
    · exact hQ.takeArrival (hQ.bypass (hQ.impliedDeparture hs _ _) _ _) _ _

theorem pullBody (b : Body) (reason : Byte) : Q (s.pullBody b reason) := by
  unfold State.pullBody
  dsimp only
  have hleave : ∀ u, Q u → Q ({ u.modBody b.key (fun x => { x with state := .pulled reason }) with
      lineList := (u.modBody b.key fun x => { x with state := .pulled reason }).lineList.filter fun j => j != b.key } :
        State).oweAll := fun u hu =>
    hQ.oweAll (hQ.congr (hQ.modBody hu b.key (f := fun x => { x with state := .pulled reason }) nofun)
      (by constructor <;> rfl))
  have howe : ∀ u, Q u → Q (if b.state = .admitted then u.owe [.admission] else u) := fun u hu => by
    split
    · exact hQ.owe hu _
    · exact hu
  refine howe _ (hleave _ ?_)
  (repeat' split)
  · exact hQ.vacate hs _ _ _
  · exact hQ.leaveUnowed hs _ _ _
  · exact hQ.leaveUnwelded hs _ _ _
  · exact hQ.leaveUnwelded hs _ _ _
  · exact hs

theorem reinsertBody (b : Body) (i : Nat) : Q (s.reinsertBody b i) := by
  unfold State.reinsertBody
  dsimp only
  exact hQ.oweAll (hQ.congr (hQ.modBody hs b.key (f := fun x => { reopened s.stationCount i x with
    state := .onLine (.before i), reinserts := satAdd 255 x.reinserts 1 }) nofun) (by constructor <;> rfl))

theorem releaseStation (i : Nat) : Q (s.releaseStation i) := by
  unfold State.releaseStation
  dsimp only
  have hhold : ∀ f, Q (s.modStation i f) := fun f => hQ.modStation hs i f
  (repeat' split)
  · exact hQ.openWork (hhold _) _ _
  · exact hhold _
  · exact hhold _

theorem clearWithBody (i k : Nat) : Q (s.clearWithBody i k) := by
  unfold State.clearWithBody
  exact hQ.abortAll (hQ.completeStation (hQ.markIncomplete (hQ.setResultAt (hQ.modStation hs _ _) _ _) _) _) _ _

theorem departureReport (i : Nat) (owed other : Echo) : Q (s.departureReport i owed other).1 := by
  unfold State.departureReport
  split
  · exact hQ.setEcho hs _ _
  · dsimp only
    split
    · exact hQ.setEcho (hQ.departure hs _) _ _
    · exact hQ.departure hs _

theorem lineArrival (i : Nat) : Q (s.lineArrival i).1 := by
  unfold State.lineArrival
  split
  · exact hQ.arrival hs _ _
  · exact hs
  · split
    · exact hQ.arrival (hQ.closeWindow hs _) _ _
    · exact hs
    · split
      · exact hQ.openWindow hs _ _
      · exact hs

theorem lineDeparture (i : Nat) : Q (s.lineDeparture i).1 := by
  unfold State.lineDeparture
  split
  · exact hQ.departure hs _
  · exact hs
  · split
    · exact hQ.closeWindow hs _
    · exact hQ.departureReport hs _ _ _

theorem presenceReport (i : Nat) (was : Bool) : Q (s.presenceReport i was).1 := by
  unfold State.presenceReport
  split
  · split
    · exact hQ.lineArrival hs _
    · exact hQ.lineDeparture hs _
  · exact hs

theorem frameArrival (i : Nat) (tag : Word) : Q (s.frameArrival i tag).1 := by
  unfold State.frameArrival
  split
  · split
    · exact hQ.arrival (hQ.closeWindow hs _) _ _
    · exact hs
    · split
      · exact hQ.openWindow hs _ _
      · exact hs
  · exact hQ.arrival hs _ _

theorem frameDeparture (i : Nat) : Q (s.frameDeparture i).1 := by
  unfold State.frameDeparture
  split
  · exact hQ.departureReport hs _ _ _
  · exact hQ.departure hs _

theorem sampleLine (i : Nat) : Q (s.sampleLine i) := by
  unfold State.sampleLine
  dsimp only
  split
  · exact hQ.modPresence hs _ _
  · split
    · exact hQ.presenceReport (hQ.modPresence hs _ _) _ _
    · exact hQ.modPresence hs _ _

end Closed
end Machine
end Sys2Proof
end

section
/-!
SUPPORT. Closed properties through the Staging Unit, selection, the Drop Bus Controllers and the timers (Chapters 8 to 10).
-/
namespace Sys2Proof
namespace Machine

namespace Closed
variable {Q : State → Prop} (hQ : Closed Q) {s : State} (hs : Q s)
include hQ hs

/-! ### Staging -/

/-- A load transaction placed at the end of a channel. -/
theorem placed (r : Nat) {f : Staging → Staging} {tx : Tx} (htx : tx.cls = .load)
    (hf : ∀ g, (f g).channel = g.channel ++ [tx] := by intro g; rfl) : Q (s.modStage r f) :=
  hQ.stage r hs fun g hg x hx => by
    rw [hf] at hx
    obtain hx | hx := List.mem_append.mp hx
    · exact hg x hx
    · rwa [List.mem_singleton.mp hx]

theorem beginLoad (r slot count : Nat) (j : Job) : Q (s.beginLoad r slot count j) := by
  unfold State.beginLoad
  dsimp only
  exact hQ.oweSlot (hQ.addRef (hQ.robot_of_same (hQ.placed hs r
    (tx := s.newTx .load (.loadOpen _ slot j.program j.stamp count)) rfl) r) _) r

theorem blockHead (r : Nat) : Q (s.blockHead r) := by
  unfold State.blockHead
  split
  · exact hs
  · exact hQ.raise (hQ.stage_of_same hs r) _ _

theorem activate (r : Nat) : Q (s.activate r) := by
  unfold State.activate
  split
  · split
    · exact hs
    · split
      · exact hs
      · split
        · exact hQ.beginLoad hs _ _ _ _
        · exact hQ.blockHead hs _
  · exact hs

theorem recompute (r : Nat) : Q (s.recompute r) := by
  unfold State.recompute
  dsimp only
  exact hQ.activate (hQ.stage_of_same (prop_ite (hQ.cancelLoad hs r) hs) r) r

theorem takeRecompute (r : Nat) : Q (s.takeRecompute r) :=
  hQ.recompute (hQ.congr hs (t := s.discharge (.recompute r)) (by constructor <;> simp)) r

/-! ### Selection -/

theorem takePending (r : Nat) (c : TxClass) : Q (s.takePending r c) := by
  cases c
  case abort => exact hQ.pend r hs fun _ hp => hp.noAbort
  case select => exact hQ.pend r hs fun _ hp => hp.noSelect
  case poll => exact hQ.pend r hs fun _ hp => hp.noPoll
  case query => exact hQ.pend r hs fun _ hp => hp.noQuery
  case load =>
    exact hQ.stage r hs (f := fun g => { g with channel := g.channel.tail })
      fun g hg tx htx => hg tx (List.mem_of_mem_tail htx)

theorem calculate (r : Nat) (list : List Nat) (trim : Int) : Q (s.calculate r list trim).1 := by
  unfold State.calculate
  split
  · exact hs
  · dsimp only
    refine hQ.robot r hs fun b hb => ?_
    obtain ⟨hwear, -, huses, hwelds, hdispatch⟩ := hb
    exact ⟨hwear, min_le_left _ _, huses, hwelds, hdispatch⟩

/-- A transaction pending in the SELECT class (R164). -/
theorem pendSelect (r : Nat) {tx : Tx} (htx : tx.cls = .select) : Q (s.modPend r fun p => { p with select := some tx }) :=
  hQ.pend r hs fun _ hp => hp.select htx

theorem beginSelection (r i slot : Nat) (b : Body) (e : DispatchEntry) : Q (s.beginSelection r i slot b e) := by
  unfold State.beginSelection
  dsimp only
  have hselecting := hQ.robot_of_same hs r (f := fun x => { x with motion := .selecting ⟨slot, b.psn, b.tag, b.key, b.stay⟩ })
  have hpoll := hQ.pend r hselecting (f := fun p => { p with poll := none })
    fun _ hp => hp.noPoll
  have hcalc := hQ.calculate (hQ.owe hpoll [.recompute r]) r
  split
  · exact hQ.enterIdle (hQ.faultStation (hcalc _ _) _ _) r
  · refine hQ.pendSelect (hQ.robot r (hcalc _ _) fun x hx => ?_) r rfl
    obtain ⟨hwear, hclamps, huses, hwelds, -⟩ := hx
    exact ⟨hwear, hclamps, huses, hwelds, Nat.mod_lt _ (by decide)⟩

theorem attemptSelection (r : Nat) : Q (s.attemptSelection r) := by
  unfold State.attemptSelection
  split
  · exact hs
  · split
    · split
      · exact hs
      · split
        · exact hs
        · split
          · exact hQ.congr hs (by constructor <;> simp)
          · exact hQ.beginSelection hs _ _ _ _ _
    · exact hs

theorem takeSelection (r : Nat) : Q (s.takeSelection r) :=
  hQ.attemptSelection (hQ.congr hs (t := s.discharge (.selection r)) (by constructor <;> simp)) r

theorem acknowledged (r : Nat) (sel : Selection) : Q (s.acknowledged r sel) := by
  unfold State.acknowledged
  dsimp only
  have huse := hQ.owe (hQ.robot r hs (f := fun b =>
    { b.modSlot sel.slot (fun x => { x with lastUse := satAdd (Config.modulus32 - 1) b.uses 1 }) with
      uses := satAdd (Config.modulus32 - 1) b.uses 1, motion := .selected sel, busy := none, pollTimer := 0 })
    fun b ⟨hwear, hclamps, _, hwelds, hdispatch⟩ => ⟨hwear, hclamps, min_le_left _ _, hwelds, hdispatch⟩) [.recompute r]
  cases h : State.stationOf _ r with
  | none => exact huse
  | some i => exact hQ.judgeStation huse i

theorem takeAck (r : Nat) (f : SelectFrame) : Q (s.takeAck r f) := by
  unfold State.takeAck
  split
  · exact hQ.acknowledged hs _ _
  · exact hQ.pend r hs fun _ hp => hp.abort rfl
  · exact hs

theorem refuseSlot (r i : Nat) : Q (s.refuseSlot r i) := by
  unfold State.refuseSlot
  split
  · exact hQ.oweSlot (hQ.setSlot hs _ _ _) _
  · exact hs

theorem takeNakSlot (r : Nat) (f : SelectFrame) : Q (s.takeNakSlot r f) := by
  unfold State.takeNakSlot
  dsimp only
  split
  · exact hQ.enterIdle (hQ.refuseSlot hs _ _) _
  · exact hQ.refuseSlot hs _ _

theorem takeNakBusy (r : Nat) (f : SelectFrame) : Q (s.takeNakBusy r f) := by
  unfold State.takeNakBusy
  split
  · exact hQ.robot_of_same hs r
  · exact hs

theorem answerAbort (r : Nat) (sel : Selection) (welds : Option Nat) : Q (s.answerAbort r sel welds) := by
  have hcounted : ∀ n, Q ((s.countWelds r n).abortedWelds r n sel) := fun n => by
    unfold State.abortedWelds
    split
    · exact prop_ite (hQ.setWelds (hQ.countWelds hs r n) _ _ _) (hQ.countWelds hs r n)
    · exact hQ.countWelds hs r n
  have hanswer : ∀ u, Q u → Q (((u.modPend r fun p => { p with abort := none }).leaveAbortWait r).enterIdle r) := fun u hu =>
    hQ.enterIdle (hQ.leaveAbortWait (hQ.takePending hu r .abort) r) r
  cases welds with
  | none => exact hanswer s hs
  | some n => exact hanswer _ (hcounted n)

theorem takeAborted (r : Nat) (orphan : Bool) (n : Nat) : Q (s.takeAborted r orphan n) := by
  unfold State.takeAborted
  split
  · exact hQ.countWelds hs _ _
  · split
    · exact hQ.answerAbort hs _ _ _
    · exact hs

theorem matchingDone (r : Nat) (sel : Selection) (x : StatusRecord) : Q (s.matchingDone r sel x) := by
  unfold State.matchingDone
  dsimp only
  have hwelds := hQ.setWelds (hQ.countWelds hs r x.welds) sel.key r x.welds
  refine hQ.enterIdle ?_ r
  split
  · exact hwelds
  · rename_i i _
    exact prop_ite (prop_ite (hQ.judgeStation (prop_ite (hQ.setComponent hwelds i r .done) hwelds) i)
      (hQ.faultStation hwelds i _)) hwelds

theorem statusAgainstMotion (r : Nat) (x : StatusRecord) (toAbort : Bool) : Q (s.statusAgainstMotion r x toAbort) := by
  have hfault : ∀ sel, Q (((s.stationOf r).elim s fun i => s.faultFor i sel .robotFault).enterIdle r) := fun sel => by
    refine hQ.enterIdle ?_ r
    cases s.stationOf r with
    | none => exact hs
    | some i => exact hQ.faultFor hs i sel _
  have hdone : ∀ sel, Q (s.matchingDone r sel x) := fun sel => hQ.matchingDone hs r sel x
  unfold State.statusAgainstMotion
  dsimp only
  split
  · exact prop_ite (prop_ite (hdone _) hs) (prop_ite (hfault _) (prop_ite
      (hQ.owe (hQ.robot_of_same hs r) _) hs))
  · exact prop_ite (prop_ite (hdone _) hs) (prop_ite (hfault _) hs)
  · exact prop_ite (prop_ite (hQ.answerAbort hs _ _ _) (prop_ite (hQ.answerAbort hs _ _ _) hs)) hs
  · exact hs

/-! ### Drop buses -/

theorem takeDress (r : Nat) (x : StatusRecord) : Q (s.takeDress r x) := by
  unfold State.takeDress
  split
  · exact hQ.robot_of_same hs r
  · split
    · exact hs
    · refine hQ.raise (hQ.robot r hs fun b hb => ?_) _ _
      obtain ⟨-, hclamps, huses, hwelds, hdispatch⟩ := hb
      exact ⟨Nat.zero_le _, hclamps, huses, hwelds, hdispatch⟩

theorem takeFaultCode (r : Nat) (x : StatusRecord) : Q (s.takeFaultCode r x) := by
  have hstored : Q (s.modRobot r fun b => { b with fault := some (.robot x.faultNumber) }) :=
    hQ.robot_of_same hs r
  have hremoved : Q (s.modRobot r fun b => { b with fault := none }) :=
    hQ.robot_of_same hs r
  unfold State.takeFaultCode
  exact prop_ite (prop_ite hstored (hQ.raise hstored _ _)) (prop_ite (hQ.owe (hQ.activate hremoved r) _) hs)

theorem comeOnline (r : Nat) (x : StatusRecord) : Q (s.comeOnline r x) := by
  unfold State.comeOnline
  refine hQ.owe (hQ.takeFaultCode (hQ.takeDress (hQ.pend r ?_ ?_) r x) r x) _
  · exact hQ.robot_of_same hs r
  · exact fun _ hp => hp.query rfl

theorem takeStatus (r : Nat) (x : StatusRecord) (toAbort : Bool) : Q (s.takeStatus r x toAbort) :=
  prop_ite (hQ.takeFaultCode (hQ.takeDress (hQ.statusAgainstMotion hs r x toAbort) r x) r x) (hQ.comeOnline hs r x)

theorem classifyFrom (r i : Nat) (records : List SlotRecord) : Q (State.classifyFrom r i records s) := by
  induction records generalizing i s with
  | nil => exact hs
  | cons x records ih => exact ih (prop_ite (hQ.setSlot hs r i _) hs) _

theorem placeLoad (r : Nat) (req : DropRequest) : Q (s.placeLoad r req) :=
  hQ.placed hs r (tx := s.newTx .load req) rfl

theorem nextLoadFrame (r : Nat) (l : Load) (next : Nat) : Q (s.nextLoadFrame r l next) := by
  unfold State.nextLoadFrame
  exact prop_ite (hQ.placeLoad (hQ.stage_of_same hs r) r _) (hQ.placeLoad (hQ.stage_of_same hs r) r _)

theorem takeLoadAck (r : Nat) (req : DropRequest) : Q (s.takeLoadAck r req) := by
  unfold State.takeLoadAck
  split
  · exact hQ.activate hs r
  · split
    · exact hQ.nextLoadFrame hs r _ _
    · exact hs
  · split
    · exact hQ.nextLoadFrame hs r _ _
    · exact hs
  · exact hs

theorem loadMatches (r : Nat) (l : Load) : Q (s.loadMatches r l) :=
  hQ.oweSlot (hQ.raise (hQ.stage_of_same (hQ.setSlot (hQ.endLoad hs r) r _ _) r) _ _) r

theorem loadMismatch (r : Nat) (l : Load) : Q (s.loadMismatch r l) := by
  unfold State.loadMismatch
  dsimp only
  have hslot := hQ.setSlot (hQ.endLoad hs r) r l.slot (.invalid l.program l.stamp)
  exact hQ.oweSlot (prop_ite (hQ.raise (hQ.robot_of_same (hQ.stage_of_same hslot r) r) _ _) (hQ.stage_of_same hslot r)) r

theorem takeLoadCheck (r : Nat) (req : DropRequest) (check : Word) : Q (s.takeLoadCheck r req check) := by
  unfold State.takeLoadCheck
  split
  · exact prop_ite (hQ.loadMatches hs r _) (hQ.loadMismatch hs r _)
  · exact hs

theorem modBus (b : Nat) (f : Bus → Bus) : Q (s.modBus b f) := hQ.congr hs (by constructor <;> simp)

theorem arbitrate (b : Fin 4) : Q (s.arbitrate b) := by
  unfold State.arbitrate
  split
  · exact hs
  · split
    · exact hs
    · exact hQ.modBus (hQ.modBus (hQ.takePending hs _ _) _ _) _ _

theorem expirePoll (r : Nat) : Q (s.expirePoll r) := by
  unfold State.expirePoll
  refine prop_ite (hQ.pend r (hQ.robot_of_same hs r) ?_) hs
  intro p hp
  split
  · exact hp.poll rfl
  · exact hp.query rfl

theorem expireBusy (r : Nat) : Q (s.expireBusy r) := by
  unfold State.expireBusy
  split
  · exact hQ.pendSelect (hQ.robot_of_same hs r) r rfl
  · exact hs

theorem restartPoll (r : Nat) : Q (s.restartPoll r) := hQ.robot_of_same hs r

theorem noReply (b : Nat) : Q (s.noReply b) := by
  unfold State.noReply
  split
  · exact hs
  · exact prop_ite (hQ.modBus hs _ _) (prop_ite (hQ.restartPoll (hQ.modBus hs _ _) _) (hQ.goOffline (hQ.modBus hs _ _) _ _))

/-- The reply of a drop bus, whatever it is (R161). -/
theorem taking (i : Instr) (o : OnBus) : Q (taking i o s) := by
  cases i <;> simp only [Machine.taking]
  case statusReply => exact hQ.takeStatus hs _ _ _
  case ack => cases State.selectOf o <;> [exact hs; exact hQ.takeAck hs _ _]
  case nakSlot => cases State.selectOf o <;> [exact hs; exact hQ.takeNakSlot hs _ _]
  case nakBusy => cases State.selectOf o <;> [exact hs; exact hQ.takeNakBusy hs _ _]
  case aborted => exact hQ.takeAborted hs _ _ _
  case slotReport => exact hQ.oweSlot (hQ.classifyFrom hs _ _ _) _
  case loadAck => exact hQ.takeLoadAck hs _ _
  case loadCheckReply => exact hQ.takeLoadCheck hs _ _ _
  all_goals exact hs

/-! ### The millisecond -/

theorem tickPoll (r : Nat) : Q (s.tickPoll r) :=
  prop_ite (prop_ite (hQ.expirePoll hs r) (hQ.robot_of_same hs r)) hs

theorem tickBusy (r : Nat) : Q (s.tickBusy r) := by
  unfold State.tickBusy
  split
  · exact hs
  · exact prop_ite (hQ.expireBusy hs r) (hQ.robot_of_same hs r)

theorem tickReply (b : Nat) : Q (s.tickReply b) := by
  unfold State.tickReply
  split
  · exact hs
  · exact prop_ite (hQ.noReply hs b) (hQ.modBus hs _ _)

theorem tickStation (i : Nat) : Q (((s.tickWindow i).tickEcho i).tickWatch i) := hQ.congr hs (by constructor <;> simp)

theorem tickPace (b : Nat) : Q (s.tickPace b) := hQ.modBus hs _ _

theorem tick : Q s.tick := by
  unfold State.tick
  exact foldl_keeps_prop (Q := Q) (fun t i ht => hQ.sampleLine ht i) _ <|
    foldl_keeps_prop (Q := Q) (fun t b ht => hQ.tickReply (hQ.tickPace ht b) b) _ <|
      foldl_keeps_prop (Q := Q) (fun t r ht => hQ.tickBusy (hQ.tickPoll ht r) r) _ <|
        foldl_keeps_prop (Q := Q) (fun t i ht => hQ.tickStation ht i) _ hs

end Closed
end Machine
end Sys2Proof
end

section
/-!
SUPPORT. Closed properties through the requests, the layout, START, TRACK RESET and every event; and the two invariants that
read nothing but the robots (O57) and the pending transactions (O59).
-/
namespace Sys2Proof
namespace Machine

namespace Closed
variable {Q : State → Prop} (hQ : Closed Q) {s : State} (hs : Q s)
include hQ hs

/-! ### Layout, START and TRACK RESET -/

/-- The robots act on a change of layout (R125, R169), where the property survives the layout itself. -/
theorem changeRobots {new : Layout} (hlayout : ∀ u, Q u → Q { u with layout := new }) : Q (s.changeRobots new) := by
  have hparted : ∀ (l : List Nat) u, Q u → Q (l.foldl (fun t r => t.modRobot r fun b => { b with pollTimer := 0 }) u) :=
    fun l u hu => foldl_keeps_prop (Q := Q) (fun t r ht => hQ.robot_of_same ht r) l hu
  have hfresh : ∀ (l : List Nat) u, Q u → Q (l.foldl (fun t r => t.placeRobot r) u) := fun l u hu =>
    foldl_keeps_prop (Q := Q) (fun t r ht => hQ.robot_of_same ht r) l hu
  have hlost : ∀ (l : List Nat), Q (l.foldl (fun t r => t.goOffline r false) s) := fun l =>
    foldl_keeps_prop (Q := Q) (fun t r ht => hQ.goOffline ht r false) l hs
  exact hparted _ _ (hfresh _ _ (hlayout _ (hlost _)))

theorem applyLayout {new : Layout} (hlayout : ∀ u, Q u → Q { u with layout := new }) : Q (s.applyLayout new) := by
  have hrobots := hQ.changeRobots hs hlayout
  have hring := fun (c : Prop) [Decidable c] (n : Nat) => prop_ite (c := c)
    (hQ.congr hrobots (t := (s.changeRobots new).restartRing n) (by constructor <;> simp)) hrobots
  have hstyles : ∀ u, Q u → Q u.resizeStyles := fun u hu => hQ.congr hu (by constructor <;> simp)
  have hstations : ∀ u, Q u → Q u.resetStations := fun u hu => hQ.congr hu (by constructor <;> simp)
  unfold State.applyLayout
  refine foldl_keeps_prop (Q := Q) (fun t p ht => hQ.congr ht (by constructor <;> simp)) _ ?_
  refine prop_ite (hstations _ ?_) ?_
  · exact prop_ite (hstyles _ (hring _ _)) (hring _ _)
  · exact prop_ite (hstyles _ (hring _ _)) (hring _ _)

theorem startRun (hmode : ∀ u, Q u → Q { u with mode := .run }) : Q s.startRun := by
  unfold State.startRun
  refine hQ.owe (foldl_keeps_prop (Q := Q) (fun t r ht => hQ.activate ht r) _ (hmode _ ?_)) _
  exact hQ.congr hs (by constructor <;> simp)

theorem resetSelection (r : Nat) : Q (s.resetSelection r) := by
  have hkeep : ∀ u, Q u → Q (s.keepPollTimer r u) := fun u hu => hQ.robot_of_same hu r
  unfold State.resetSelection
  split
  · exact hkeep _ (hQ.enterIdle (hQ.takePending hs r .select) r)
  · exact hkeep _ (hQ.startAbort hs r _)
  · exact hkeep _ (hQ.startAbort hs r _)
  · exact hs

theorem resetStaging (r : Nat) : Q (s.resetStaging r) := by
  unfold State.resetStaging
  refine hQ.stage r (hQ.cancelLoad hs r) fun g _ tx htx => ?_
  dsimp only at htx
  split at htx
  · rw [List.mem_singleton.mp htx]
    rfl
  · cases htx

theorem freeAll : Q s.freeAll := by
  refine hQ.congr (hQ.free (fun _ => false) hs) ?_
  constructor <;> simp [State.freeAll, foldl_keeps]

theorem trackReset : Q s.trackReset := by
  have hempty : Q s.emptyRing := hQ.congr hs (by constructor <;> simp)
  have hfree := hQ.freeAll hempty
  unfold State.trackReset
  refine hQ.owe (hQ.oweAll (foldl_keeps_prop (Q := Q) (fun t r ht => hQ.resetStaging (hQ.resetSelection ht r) r) _ ?_)) _
  exact hQ.congr hfree (by constructor <;> simp)

/-! ### Requests and events -/

theorem robotDisableBlock (h : Hdr) (r : Nat) : Q (robotDisableBlock h r s).state := by
  unfold Machine.robotDisableBlock
  split
  · exact hs
  · have hflag := hQ.robot_of_same hs r (f := fun b => { b with enabled := false })
    exact prop_ite (hQ.owe (hQ.skipDisabled (hQ.stage_of_same hflag r) r) _) hs

theorem staleSlots (n : Nat) (stamp : Word) : Q (s.staleSlots n stamp) :=
  hQ.owe (hQ.robots hs (f := fun b => { b with slots := b.slots.map (Slot.staleFor n stamp) }) fun _ hb => hb) _


theorem dropRefs (l : List DispatchEntry) : Q (s.dropRefs l) :=
  foldl_keeps_prop (Q := Q) (fun _ e ht => hQ.dropRef ht e.program) l hs

theorem addRefs (l : List DispatchEntry) : Q (s.addRefs l) :=
  foldl_keeps_prop (Q := Q) (fun _ e ht => hQ.addRef ht e.program) l hs

theorem setSet (n : Nat) (e : SetEntry) : Q (s.setSet n e) := hQ.congr hs (by constructor <;> simp)

theorem setWriteBlock (h : Hdr) (n : Nat) (entries : List RawEntry) : Q (setWriteBlock h n entries s).state := by
  unfold Machine.setWriteBlock
  (repeat' split)
  · exact hs
  · exact hs
  · exact hs
  · exact hs
  · dsimp only
    split
    · exact hs
    · exact hQ.addRefs (hQ.setSet (hQ.dropRefs hs _) _ _) _

theorem setDeleteBlock (h : Hdr) (n : Nat) : Q (setDeleteBlock h n s).state := by
  unfold Machine.setDeleteBlock
  (repeat' split)
  · exact hs
  · exact hs
  · exact hs
  · exact hQ.setSet (hQ.dropRefs hs _) _ _

theorem pullBlock (h : Hdr) (tag : Word) (reason : Byte) : Q (pullBlock h tag reason s).state := by
  unfold Machine.pullBlock
  (repeat' split)
  · exact hs
  · exact hs
  · exact hs
  · exact hQ.pullBody hs _ _
  · exact hs
  · exact hQ.pullBody hs _ _

theorem reinsertBlock (h : Hdr) (tag : Word) (i : Nat) : Q (reinsertBlock h tag i s).state := by
  unfold Machine.reinsertBlock
  (repeat' split)
  · exact hs
  · exact hs
  · exact hQ.reinsertBody hs _ _

theorem scrapBlock (h : Hdr) (tag : Word) : Q (scrapBlock h tag s).state := by
  unfold Machine.scrapBlock
  (repeat' split)
  · exact hs
  · exact hs
  · exact hs
  · exact hQ.owe (hQ.oweAll (hQ.freeBody hs _)) _

theorem releaseBlock (h : Hdr) (i : Nat) : Q (releaseBlock h i s).state := by
  unfold Machine.releaseBlock
  split
  · exact hs
  · exact hQ.releaseStation hs i

theorem clearStationBlock (h : Hdr) (i : Nat) : Q (clearStationBlock h i s).state := by
  unfold Machine.clearStationBlock
  (repeat' split)
  · exact hs
  · exact hs
  · exact hQ.clearWithBody hs i _
  · dsimp only [State.done_state]
    exact hQ.modStation (hQ.enterState hs i .empty) i _

theorem arriveBlock (h : Hdr) (i : Nat) (tag : Word) : Q (arriveBlock h i tag s).state := by
  unfold Machine.arriveBlock
  split
  · exact hs
  · exact hQ.frameArrival hs i tag

theorem departBlock (h : Hdr) (i : Nat) : Q (departBlock h i s).state := by
  unfold Machine.departBlock
  split
  · exact hs
  · exact hQ.frameDeparture hs i

theorem setSenseBlock (h : Hdr) (i : Nat) (sense : Option Sense) : Q (setSenseBlock h i sense s).state := by
  unfold Machine.setSenseBlock
  (repeat' split)
  · exact hs
  · exact hs
  · exact hs
  · exact hQ.presenceReport (hQ.congr hs (t := s.writeSense i _) (by constructor <;> rfl)) i _

theorem robotEnableBlock (h : Hdr) (r : Nat) : Q (robotEnableBlock h r s).state := by
  unfold Machine.robotEnableBlock
  split
  · exact hs
  · exact prop_ite hs (hQ.owe (hQ.robot_of_same hs r) _)

theorem dressRequestBlock (h : Hdr) (r : Nat) : Q (dressRequestBlock h r s).state := by
  unfold Machine.dressRequestBlock
  split
  · exact hs
  · dsimp only [State.done_state]
    exact hQ.robot_of_same hs r

theorem trackResetBlock (h : Hdr) : Q (trackResetBlock h s).state := by
  unfold Machine.trackResetBlock
  split
  · exact hs
  · exact hQ.trackReset hs

end Closed

/-- The requests that change the layout, the mode or a program entry: the tables of `SameTables` other than by a single entry. -/
def changesTables : Instr → Bool
  | .layoutWrite _ _ => true
  | .start _ => true
  | .stop _ => true
  | .progOpen _ _ _ _ => true
  | .progData _ _ _ _ => true
  | .progClose _ _ => true
  | .progDelete _ _ => true
  | _ => false

/-- A closed property that the requests of the layout, the mode and the Program Library keep, every request keeps. -/
theorem Closed.requestBlock {Q : State → Prop} (hQ : Closed Q)
    (htables : ∀ i s, changesTables i = true → Q s → Q (requestBlock i s).state) (i : Instr) {s : State} (hs : Q s) :
    Q (requestBlock i s).state := by
  cases i
  case layoutWrite | start | stop | progOpen | progData | progClose | progDelete => exact htables _ s rfl hs
  all_goals simp only [Machine.requestBlock]
  case arrive => exact hQ.arriveBlock hs _ _ _
  case depart => exact hQ.departBlock hs _ _
  case pull => exact hQ.pullBlock hs _ _ _
  case reinsert => exact hQ.reinsertBlock hs _ _ _
  case scrap => exact hQ.scrapBlock hs _ _
  case release => exact hQ.releaseBlock hs _ _
  case clearStation => exact hQ.clearStationBlock hs _ _
  case robotEnable => exact hQ.robotEnableBlock hs _ _
  case robotDisable => exact hQ.robotDisableBlock hs _ _
  case dressRequest => exact hQ.dressRequestBlock hs _ _
  case setSense => exact hQ.setSenseBlock hs _ _ _
  case setWrite => exact hQ.setWriteBlock hs _ _ _
  case setDelete => exact hQ.setDeleteBlock hs _ _
  case trackReset => exact hQ.trackResetBlock hs _
  all_goals exact hQ.congr hs (by constructor <;> simp)

/-- A closed property that an admission and the abandonment of a program keep, every event keeps. -/
theorem Closed.eventBlock {Q : State → Prop} (hQ : Closed Q) (hadmission : ∀ s, Q s → Q s.takeAdmission)
    (habandon : ∀ s p, Q s → Q (s.abandonOf p)) (i : Instr) {s : State} (hs : Q s) : Q (eventBlock i s) := by
  cases i <;> simp only [Machine.eventBlock]
  case portReset => exact habandon _ _ (hQ.congr hs (by constructor <;> simp))
  case admissionAttempt => exact hadmission s hs
  case acceptedChange => exact hQ.presenceReport (hQ.modPresence hs _ _) _ _
  case stagingRecomputation => exact hQ.takeRecompute hs _
  case selectionAttempt => exact hQ.takeSelection hs _
  case arbiterChoice => exact hQ.arbitrate hs _
  case pollTimerExpiry => exact hQ.expirePoll hs _
  case busyWaitExpiry => exact hQ.expireBusy hs _
  case replyTimeout | invalidReply => exact hQ.noReply hs _
  case statusReply | ack | nakSlot | nakBusy | aborted | slotReport | loadAck | loadCheckReply =>
    exact takeReply_keeps (Q := Q) (fun u b hu => hQ.modBus hu _ _) (fun u r hu => hQ.restartPoll hu r) (fun u b hu => hQ.noReply hu _)
      (fun o u hu => hQ.taking hu _ o) hs
  case frameError => split <;> [exact hs; exact hQ.congr hs (by constructor <;> simp)]
  case interByteGap => split <;> [exact hQ.congr hs (by constructor <;> simp); exact hs]
  case lineSilence | frameOpening => split <;> [exact hQ.congr hs (by constructor <;> simp); exact hs]
  case goodFrameDiscarded => split <;> [exact hQ.congr hs (by constructor <;> rfl); exact hs]
  all_goals exact hQ.congr hs (by constructor <;> simp)

/-- A closed property that power-on has and that the requests of the tables, an admission and the abandonment of a program keep, a
step keeps. -/
theorem Closed.step {Q : State → Prop} (hQ : Closed Q) (hpower : ∀ straps levels, Q (.powerOn straps levels))
    (htables : ∀ i s, changesTables i = true → Q s → Q (Machine.requestBlock i s).state)
    (hadmission : ∀ s, Q s → Q s.takeAdmission) (habandon : ∀ s p, Q s → Q (s.abandonOf p)) {s t : State} (hs : Q s)
    (ht : step s = .next t) : Q t :=
  step_keeps (Q := Q) (fun _ _ hs => hQ.congr hs (by constructor <;> rfl))
    (fun _ _ _ hs ht => exec_keeps (Q := Q)
      (fun straps levels _ _ _ => hQ.congr (hpower straps levels) (by constructor <;> rfl))
      (fun _ hs => hQ.congr hs (by constructor <;> rfl)) (fun _ _ hs => hQ.congr hs (by constructor <;> rfl))
      (fun _ _ hs => hQ.congr hs (by constructor <;> rfl)) (fun _ _ _ hs => hQ.congr hs (by constructor <;> rfl))
      (fun _ _ _ _ _ hs => hQ.congr hs (by constructor <;> rfl)) (fun i _ hs => hQ.requestBlock htables i hs)
      (fun i _ hs => hQ.eventBlock hadmission habandon i hs) hs ht)
    (fun s hs => idle_keeps (Q := Q) (fun p => hQ.congr hs (by constructor <;> rfl))
      (fun d => by
        cases d with
        | admission => exact hadmission s hs
        | recompute r => exact hQ.takeRecompute hs r
        | selection r => exact hQ.takeSelection hs r)
      (fun b => hQ.arbitrate hs b) (hQ.tick hs) hs) hs ht

end Machine
end Sys2Proof
end

section
/-!
SUPPORT. The two invariants that read nothing but the robots (O57) and the pending transactions (O59).
-/
namespace Sys2Proof
namespace Machine

/-- A START changes nothing, or starts the RUN (R185). -/
theorem startBlock_cases (h : Hdr) (s : State) :
    (startBlock h s).state = s ∨ s.mode ≠ .run ∧ (startBlock h s).state = s.startRun := by
  unfold startBlock
  split
  · exact .inl rfl
  · split
    · exact .inl rfl
    · next hmode =>
      split
      · exact .inl rfl
      · exact .inr ⟨hmode, State.done_state _ _⟩

namespace Closed
variable {Q : State → Prop} (hQ : Closed Q)
include hQ

/-- A closed property that reads the robots, the pending transactions and the staging alone is kept by the requests of the layout,
the mode and the Program Library. -/
theorem tables_of_robots (hrobots : ∀ {s t : State}, t.robots = s.robots → t.pend = s.pend → t.staging = s.staging → Q s → Q t)
    (i : Instr) (s : State) (hi : changesTables i = true) (hs : Q s) : Q (Machine.requestBlock i s).state := by
  cases i <;> simp only [changesTables, Bool.false_eq_true] at hi
  all_goals simp only [Machine.requestBlock]
  case layoutWrite h records =>
    obtain heq | ⟨-, -, heq⟩ := layoutWriteBlock_cases h records s
    · rwa [heq]
    · rw [heq]
      exact hQ.applyLayout hs fun u hu => hrobots (s := u) rfl rfl rfl hu
  case start h =>
    obtain heq | ⟨-, heq⟩ := startBlock_cases h s
    · rwa [heq]
    · rw [heq]
      exact hQ.startRun hs fun u hu => hrobots (s := u) rfl rfl rfl hu
  case progDelete h n =>
    unfold progDeleteBlock
    (repeat' split)
    · exact hs
    · exact hs
    · exact hs
    · exact hrobots (by simp) (by simp) (by simp) hs
    · exact hs
    · exact hQ.staleSlots (hrobots (s := s) (t := s.emptyProg n _) (by simp) (by simp) (by simp) hs) n _
  all_goals exact hrobots (by simp) (by simp) (by simp) hs

/-- A closed property that power-on has and that reads the robots, the pending transactions and the staging alone, a step keeps. -/
theorem step_of_robots (hpower : ∀ straps levels, Q (.powerOn straps levels))
    (hrobots : ∀ {s t : State}, t.robots = s.robots → t.pend = s.pend → t.staging = s.staging → Q s → Q t) {s t : State}
    (hs : Q s) (ht : Machine.step s = .next t) : Q t :=
  hQ.step hpower (hQ.tables_of_robots hrobots) (fun _ hs => hrobots (by simp) (by simp) (by simp) hs)
    (fun _ _ hs => hrobots (by simp) (by simp) (by simp) hs) hs ht

end Closed

/-! ### The counters of the robots -/

/-- The counters of the robots are read from the robots alone. -/
theorem State.robotsInv.congr {s t : State} (hs : s.robotsInv) (h : t.robots = s.robots) : t.robotsInv := by
  unfold robotsInv robot
  rw [h]
  exact hs

theorem State.closed_robotsInv : Closed State.robotsInv where
  congr hs h := hs.congr h.robots
  robot := fun {s} r f hs hf q hq => by
    by_cases h : q = r
    · subst h
      rw [robot_modRobot_self _ _ _ hq]
      exact hf _ (hs q hq)
    · rw [robot_modRobot_ne _ _ _ _ h]
      exact hs q hq
  robots := fun {s} f hs hf q hq => by
    have hmap : State.robot { s with robots := s.robots.map f } q = f (s.robot q) := tget_map _ _ _ _ _ hq
    rw [hmap]
    exact hf _ (hs q hq)
  pend r _ hs _ := hs.congr (by simp)
  stage r _ hs _ := hs.congr (by simp)
  body hs _ := hs.congr rfl
  free _ hs := hs.congr rfl
  refs _ _ hs := hs.congr (by simp)

theorem State.robotsInv_powerOn (straps : Straps) (levels : BitVec 16) : (powerOn straps levels).robotsInv := by
  intro r hr
  have hrobot : (powerOn straps levels).robot r = .reset := tget_replicate _ _ _ hr
  rw [hrobot]
  decide

/-- Settles O57: no operation takes a robot's counters out of their ranges, and only the robots bear on them. -/
theorem stepKeepsRobotCountersInRange : Obligations.StepKeepsRobotCountersInRange := fun _ _ hs ht =>
  State.closed_robotsInv.step_of_robots State.robotsInv_powerOn (fun hrobots _ _ hs => hs.congr hrobots) hs ht

/-! ### Pending transactions -/

theorem State.pendInv_iff (s : State) : s.pendInv ↔ ∀ r, (s.pendOf r).InClass ∧ (s.stage r).InClass := by
  refine forall_congr' fun r => ?_
  simp only [Pend.InClass, Staging.InClass, and_assoc]

/-- The classes are read from the pending transactions and the load channels alone. -/
theorem State.pendInv.congr {s t : State} (hs : s.pendInv) (hpend : t.pend = s.pend) (hstaging : t.staging = s.staging) :
    t.pendInv := by
  unfold pendInv pendOf stage
  rw [hpend, hstaging]
  exact hs

theorem State.pendInv.modPend {s : State} (hs : s.pendInv) (r : Nat) {f : Pend → Pend} (hf : ∀ p, p.InClass → (f p).InClass) :
    (s.modPend r f).pendInv := by
  rw [pendInv_iff] at hs ⊢
  refine fun q => ⟨?_, (hs q).2⟩
  rw [pendOf, State.modPend, tget_tset]
  split
  · exact hf _ (hs r).1
  · exact (hs q).1

theorem State.pendInv.modStage {s : State} (hs : s.pendInv) (r : Nat) {f : Staging → Staging}
    (hf : ∀ g, g.InClass → (f g).InClass) : (s.modStage r f).pendInv := by
  rw [pendInv_iff] at hs ⊢
  refine fun q => ⟨(hs q).1, ?_⟩
  rw [stage, State.modStage, tget_tset]
  split
  · exact hf _ (hs r).2
  · exact (hs q).2

theorem State.closed_pendInv : Closed State.pendInv where
  congr hs h := hs.congr h.pend h.staging
  robot _ _ hs _ := hs.congr (by simp) (by simp)
  robots hs _ := hs.congr rfl rfl
  pend r _ hs hf := hs.modPend r hf
  stage r _ hs hf := hs.modStage r hf
  body hs _ := hs.congr rfl rfl
  free _ hs := hs.congr rfl rfl
  refs _ _ hs := hs.congr (by simp) (by simp)

theorem State.pendInv_powerOn (straps : Straps) (levels : BitVec 16) : (powerOn straps levels).pendInv := by
  rw [pendInv_iff]
  intro r
  have hpend : (powerOn straps levels).pendOf r = .reset := by
    by_cases hr : r < 32
    · exact tget_replicate _ _ _ hr
    · exact tget_of_ge _ _ _ (not_lt.mp hr)
  have hstage : (powerOn straps levels).stage r = .reset := by
    by_cases hr : r < 32
    · exact tget_replicate _ _ _ hr
    · exact tget_of_ge _ _ _ (not_lt.mp hr)
  rw [hpend, hstage]
  exact ⟨⟨nofun, nofun, nofun, nofun⟩, nofun⟩

/-- Settles O59: every transaction is placed in its own class, and only load transactions enter a channel. -/
theorem stepKeepsTransactionsInTheirClass : Obligations.StepKeepsTransactionsInTheirClass := fun _ _ hs ht =>
  State.closed_pendInv.step_of_robots State.pendInv_powerOn (fun _ hpend hstaging hs => hs.congr hpend hstaging) hs ht

end Machine
end Sys2Proof
end

section
/-!
SUPPORT. The bounds of the Body Table (O55): records leave it or stay, none becomes ADMITTED again, and only an admission, under
the conditions of R12, adds one.
-/
namespace Sys2Proof
namespace Machine
namespace State

theorem admittedCount_eq_countP (s : State) : s.admittedCount = s.bodies.countP fun b => b.state == .admitted :=
  List.countP_eq_length_filter.symm

variable {s t : State}

/-- The bounds are read from the mode, the LINE record and the Body Table alone. -/
theorem bodiesInv.congr (hs : s.bodiesInv) (hmode : t.mode = s.mode) (hline : t.layout.line = s.layout.line)
    (hbodies : t.bodies = s.bodies) : t.bodiesInv := by
  unfold bodiesInv admittedCount
  rw [hmode, hline, hbodies]
  exact hs

/-- An empty Body Table is within its bounds. -/
theorem bodiesInv_of_nil (hs : s.bodies = []) : s.bodiesInv := by
  unfold bodiesInv admittedCount
  simp [hs]

/-- A Body Table of no more records and no more ADMITTED ones, in the same mode and under the same lead. -/
theorem bodiesInv.of_le (hs : s.bodiesInv) (hmode : t.mode = s.mode) (hline : t.layout.line = s.layout.line)
    (hlength : t.bodies.length ≤ s.bodies.length) (hadmitted : t.admittedCount ≤ s.admittedCount) : t.bodiesInv := by
  obtain ⟨hcapacity, hlead, hsetup⟩ := hs
  refine ⟨hlength.trans hcapacity, ?_, fun h => ?_⟩
  · rw [hline]
    exact hadmitted.trans hlead
  · rw [hsetup (hmode ▸ h)] at hlength
    exact List.eq_nil_of_length_eq_zero (Nat.le_zero.mp hlength)

theorem admittedCount_map_le {f : Body → Body} (hf : ∀ b, (f b).state = .admitted → b.state = .admitted) :
    State.admittedCount { s with bodies := s.bodies.map f } ≤ s.admittedCount := by
  rw [admittedCount_eq_countP, admittedCount_eq_countP, List.countP_map]
  exact List.countP_mono_left fun b _ hb => beq_iff_eq.mpr (hf b (beq_iff_eq.mp hb))

theorem closed_bodiesInv : Closed State.bodiesInv where
  congr hs h := hs.congr h.mode h.line h.bodies
  robot _ _ hs _ := hs.congr (by simp) (by simp) (by simp)
  robots hs _ := hs.congr rfl rfl rfl
  pend _ _ hs _ := hs.congr (by simp) (by simp) (by simp)
  stage _ _ hs _ := hs.congr (by simp) (by simp) (by simp)
  body hs hf := hs.of_le rfl rfl (List.length_map _).le (admittedCount_map_le hf)
  free p hs := hs.of_le rfl rfl (List.length_filter_le _ _) <| by
    rw [admittedCount_eq_countP, admittedCount_eq_countP]
    exact List.filter_sublist.countP_le
  refs _ _ hs := hs.congr (by simp) (by simp) (by simp)

/-- That the Body Table is empty is kept by whatever keeps or frees records. -/
theorem closed_bodies_eq_nil : Closed fun s => s.bodies = [] where
  congr hs h := h.bodies.trans hs
  robot _ _ hs _ := hs
  robots hs _ := hs
  pend _ _ hs _ := hs
  stage _ _ hs _ := hs
  body hs _ := List.map_eq_nil_iff.mpr hs
  free _ hs := by simp [hs]
  refs _ _ hs := hs

/-! ### Admission -/

/-- The bodies an admission of the head leaves: those there were, and the new record at the end (R19). -/
theorem bodies_admitHead (s : State) (b : Binding) : (s.admitHead b).bodies = s.bodies ++ [s.newBody b] := by
  unfold admitHead
  dsimp only
  split <;> simp

/-- An admission attempt leaves the Body Table alone, or, where R12's first four conditions hold, adds one ADMITTED record. -/
theorem bodies_admitNext (s : State) :
    s.admitNext.bodies = s.bodies ∨
      s.admissionOpen = true ∧ ∃ b, b.state = .admitted ∧ s.admitNext.bodies = s.bodies ++ [b] := by
  unfold admitNext
  split
  · next hopen =>
    dsimp only
    split
    · exact .inl (by simp)
    · next b _ =>
      refine .inr ⟨hopen, (s.promote s.headStyle s.comparisonPsn).newBody b, ?_⟩
      refine ⟨rfl, (bodies_admitHead (s.promote s.headStyle s.comparisonPsn) b).trans ?_⟩
      simp
  · exact .inl rfl

theorem admissionOpen_iff (s : State) :
    s.admissionOpen = true ↔ s.mode = .run ∧ s.ringCount ≠ 0 ∧ s.bodies.length < 48 ∧ s.admittedCount < s.layout.line.lead := by
  simp only [admissionOpen, Bool.and_eq_true, beq_iff_eq, bne_iff_ne, decide_eq_true_eq, and_assoc]
  rfl

theorem bodiesInv.admitNext (hs : s.bodiesInv) : s.admitNext.bodiesInv := by
  obtain hbodies | ⟨hopen, b, hb, hbodies⟩ := s.bodies_admitNext
  · exact hs.congr (by simp) (by simp) hbodies
  · obtain ⟨hrun, -, hcapacity, hlead⟩ := s.admissionOpen_iff.mp hopen
    refine ⟨?_, ?_, fun hsetup => ?_⟩
    · rw [hbodies, List.length_append]
      exact hcapacity
    · rw [admittedCount_eq_countP] at hlead ⊢
      rw [hbodies, List.countP_append, List.countP_singleton, hb]
      simpa using hlead
    · simp [hrun] at hsetup

theorem bodiesInv.takeAdmission (hs : s.bodiesInv) : s.takeAdmission.bodiesInv :=
  bodiesInv.admitNext (hs.congr (t := s.discharge .admission) (by simp) (by simp) (by simp))

/-! ### The requests of the layout and the mode -/

theorem bodiesInv.layoutWriteBlock (hs : s.bodiesInv) (h : Hdr) (records : List RawRecord) :
    (layoutWriteBlock h records s).state.bodiesInv := by
  obtain heq | ⟨hsetup, -, heq⟩ := layoutWriteBlock_cases h records s
  · rwa [heq]
  · obtain ⟨-, -, hempty⟩ := hs
    rw [heq]
    exact bodiesInv_of_nil (closed_bodies_eq_nil.applyLayout (hempty hsetup) fun _ hu => hu)

theorem bodiesInv.startBlock (hs : s.bodiesInv) (h : Hdr) : (startBlock h s).state.bodiesInv := by
  obtain heq | ⟨-, heq⟩ := startBlock_cases h s
  · rwa [heq]
  · rw [heq]
    exact closed_bodiesInv.startRun hs fun u ⟨hcapacity, hlead, _⟩ => ⟨hcapacity, hlead, nofun⟩

/-- STOP goes to SETUP only from an empty Body Table (R186). -/
theorem bodiesInv.stopBlock (hs : s.bodiesInv) (h : Hdr) : (stopBlock h s).state.bodiesInv := by
  unfold Machine.stopBlock
  (repeat' split)
  · exact hs
  · exact hs
  · exact hs
  · next hbusy => exact bodiesInv_of_nil (not_not.mp (not_or.mp hbusy).1)

theorem requestBlock_bodiesInv (i : Instr) (s : State) (hi : changesTables i = true) (hs : s.bodiesInv) :
    (requestBlock i s).state.bodiesInv := by
  cases i <;> simp only [changesTables, Bool.false_eq_true] at hi
  case layoutWrite => exact hs.layoutWriteBlock _ _
  case start => exact hs.startBlock _
  case stop => exact hs.stopBlock _
  all_goals exact hs.congr (by simp [requestBlock]) (by simp [requestBlock]) (by simp [requestBlock])

end State

/-- Settles O55: records leave the Body Table at every turn, and enter it by an admission alone. -/
theorem stepKeepsBodyTableBounds : Obligations.StepKeepsBodyTableBounds := fun _ _ hs ht =>
  State.closed_bodiesInv.step (fun _ _ => State.bodiesInv_of_nil rfl) State.requestBlock_bodiesInv
    (fun _ hs => hs.takeAdmission) (fun _ _ hs => hs.congr (by simp) (by simp) (by simp)) hs ht

end Machine
end Sys2Proof
end

section
/-!
SUPPORT. The block store accounted for (O58): a program opened, filled, closed and emptied by its requests keeps the account, and
nothing but a reference count changes in the Program Library otherwise.
-/
namespace Sys2Proof
namespace Machine
namespace State

variable {s t : State} {n m : Nat} {d d' : ProgData} {p : Fin 4}

/-! ### What the account says of one program -/

/-- The fields and the blocks of entry `n` agree: the part of the account that a LOADING or READY program owes (R77, R79). -/
def Holds (s : State) (n : Nat) (d : ProgData) : Prop :=
  1 ≤ d.count ∧ d.count ≤ 256 ∧ d.received ≤ d.count ∧ d.blocks.Nodup ∧ d.blocks.length = blocksFor d.count ∧
    (∀ b ∈ d.blocks, b < 512 ∧ (s.block b).holder = some n) ∧
    ∀ i b, d.blocks[i]? = some b → (s.block b).points.length = min 32 (d.received - 32 * i)

theorem Holds.of_block_eq (hd : s.Holds n d) (hblock : ∀ b ∈ d.blocks, t.block b = s.block b) : t.Holds n d := by
  obtain ⟨hmin, hmax, hreceived, hnodup, hlength, hheld, hfilled⟩ := hd
  refine ⟨hmin, hmax, hreceived, hnodup, hlength, fun b hb => ?_, fun i b hi => ?_⟩
  · rw [hblock b hb]
    exact hheld b hb
  · rw [hblock b (List.mem_of_getElem? hi)]
    exact hfilled i b hi

theorem libraryInv.holds (hs : s.libraryInv) (hd : s.holdsProgram n d) : s.Holds n d := hs.1 n d hd

/-- An entry has the fields of one program. -/
theorem holdsProgram_unique (hd : s.holdsProgram n d) (hd' : s.holdsProgram n d') : d = d' := by
  obtain ⟨p, hp⟩ | ⟨w, hw⟩ := hd <;> obtain ⟨p', hp'⟩ | ⟨w', hw'⟩ := hd' <;> simp_all

theorem holdsProgram_congr (h : (t.prog n).state = (s.prog n).state) : t.holdsProgram n d ↔ s.holdsProgram n d := by
  unfold holdsProgram
  rw [h]

theorem not_holdsProgram_of_empty (h : (s.prog n).state = .empty) : ¬ s.holdsProgram n d := by
  rintro (⟨p, hp⟩ | ⟨w, hw⟩)
  · simp [h] at hp
  · simp [h] at hw

/-- A block of one program is no block of another. -/
theorem libraryInv.notMem_blocks (hs : s.libraryInv) (hd : s.holdsProgram n d) (hd' : s.holdsProgram m d') (hne : m ≠ n) {b : Nat}
    (hb : b ∈ d'.blocks) : b ∉ d.blocks := fun hb' => by
  obtain ⟨-, -, -, -, -, hheld, -⟩ := hs.holds hd
  obtain ⟨-, -, -, -, -, hheld', -⟩ := hs.holds hd'
  exact hne (Option.some.inj ((hheld' b hb).2.symm.trans (hheld b hb').2))

/-- The account is read from the states of the entries and from the block store alone. -/
theorem libraryInv.congr (hs : s.libraryInv) (hprog : ∀ n, (t.prog n).state = (s.prog n).state)
    (hblock : ∀ b, t.block b = s.block b) : t.libraryInv := by
  obtain ⟨hholds, hready, hheld, howner⟩ := hs
  refine ⟨fun n d hd => ?_, fun n w d hd => hready n w d (hprog n ▸ hd), fun b n hb => ?_, fun m n p d d' hm hn => ?_⟩
  · exact Holds.of_block_eq (hholds n d ((holdsProgram_congr (hprog n)).mp hd)) fun b _ => hblock b
  · obtain ⟨d, hd, hmem⟩ := hheld b n (hblock b ▸ hb)
    exact ⟨d, (holdsProgram_congr (hprog n)).mpr hd, hmem⟩
  · exact howner m n p d d' (hprog m ▸ hm) (hprog n ▸ hn)

theorem libraryInv.of_library (hs : s.libraryInv) (h : t.library = s.library) : t.libraryInv :=
  hs.congr (fun n => by simp only [prog, h]) fun b => by simp only [block, h]

/-! ### A program emptied -/

/-- A program emptied gives back its blocks, and the account stands (R88, R89). -/
theorem libraryInv.emptyProg (hs : s.libraryInv) (hd : s.holdsProgram n d) : (s.emptyProg n d).libraryInv := by
  have hstate : ∀ m, m ≠ n → ((s.emptyProg n d).prog m).state = (s.prog m).state := fun m hm => by
    rw [prog_emptyProg, if_neg hm]
  have hempty : ((s.emptyProg n d).prog n).state = .empty := by rw [prog_emptyProg, if_pos rfl]
  have hne : ∀ {m d'}, (s.emptyProg n d).holdsProgram m d' → m ≠ n := fun hm h =>
    not_holdsProgram_of_empty hempty (h ▸ hm)
  have hblock : ∀ b, b ∉ d.blocks → (s.emptyProg n d).block b = s.block b := fun b hb => by
    rw [block_emptyProg, if_neg hb]
  have hback := hs
  obtain ⟨hholds, hready, hheld, howner⟩ := hback
  refine ⟨fun m d' hm => ?_, fun m w d' hm => ?_, fun b m hb => ?_, fun m k q d₁ d₂ hm hk => ?_⟩
  · have hm' := (holdsProgram_congr (hstate m (hne hm))).mp hm
    exact Holds.of_block_eq (hholds m d' hm') fun b hb => hblock b (hs.notMem_blocks hd hm' (hne hm) hb)
  · exact hready m w d' (hstate m (hne (.inr ⟨w, hm⟩)) ▸ hm)
  · rw [block_emptyProg] at hb
    split at hb
    · cases hb
    · next hmem =>
      obtain ⟨d', hd', hb'⟩ := hheld b m hb
      have hmn : m ≠ n := fun h => hmem (holdsProgram_unique (h ▸ hd') hd ▸ hb')
      exact ⟨d', (holdsProgram_congr (hstate m hmn)).mpr hd', hb'⟩
  · exact howner m k q d₁ d₂ (hstate m (hne (.inl ⟨q, hm⟩)) ▸ hm) (hstate k (hne (.inl ⟨q, hk⟩)) ▸ hk)

theorem libraryInv.abandonOf (hs : s.libraryInv) (p : Fin 4) : (s.abandonOf p).libraryInv := by
  cases hopen : s.openProgram p with
  | none => rwa [abandonOf_of_none hopen]
  | some found =>
    obtain ⟨n, d⟩ := found
    rw [abandonOf_of_open hopen]
    exact hs.emptyProg (.inl ⟨p, state_of_openProgram hopen⟩)

/-- After an abandonment the port owns no LOADING program (R88). -/
theorem libraryInv.state_abandonOf_ne_loading (hs : s.libraryInv) (p : Fin 4) (m : Nat) (d : ProgData) :
    ((s.abandonOf p).prog m).state ≠ .loading p d := fun hm => by
  rw [prog_abandonOf] at hm
  split at hm
  · cases hm
  · next hopen => exact hopen ((openProgram_map_eq_some_iff hs).mpr ⟨d, hm⟩)

/-! ### A program written -/

/-- Entry `n` of the store comes to hold the program `d`, whose blocks were its own or free, and nothing else changes: the account
stands (R82, R85, R87). -/
theorem libraryInv.of_written (hs : s.libraryInv) (hother : ∀ m, m ≠ n → (t.prog m).state = (s.prog m).state)
    (hblock : ∀ b, b ∉ d.blocks → t.block b = s.block b) (hd : t.holdsProgram n d) (hholds : t.Holds n d)
    (hready : ∀ w, (t.prog n).state = .ready w d → d.received = d.count)
    (hold : ∀ b d', s.holdsProgram n d' → b ∈ d'.blocks → b ∈ d.blocks)
    (hfree : ∀ b ∈ d.blocks, (s.block b).holder = none ∨ (s.block b).holder = some n)
    (howner : ∀ p, (t.prog n).state = .loading p d → ∀ m d', m ≠ n → (s.prog m).state ≠ .loading p d') : t.libraryInv := by
  have hunique : ∀ d', t.holdsProgram n d' → d' = d := fun d' hd' => holdsProgram_unique hd' hd
  have hs' := hs
  obtain ⟨holds', hready', hheld', howner'⟩ := hs'
  refine ⟨fun m d' hm => ?_, fun m w d' hm => ?_, fun b m hb => ?_, fun m k q d₁ d₂ hm hk => ?_⟩
  · by_cases hmn : m = n
    · subst hmn
      exact hunique d' hm ▸ hholds
    · have hm' := (holdsProgram_congr (hother m hmn)).mp hm
      have hd' := holds' m d' hm'
      refine Holds.of_block_eq hd' fun b hb => hblock b fun hmem => ?_
      obtain ⟨-, -, -, -, -, hheld, -⟩ := hd'
      obtain hnone | hn := hfree b hmem
      · simp [(hheld b hb).2] at hnone
      · exact hmn (Option.some.inj ((hheld b hb).2.symm.trans hn))
  · by_cases hmn : m = n
    · subst hmn
      obtain rfl := hunique d' (.inr ⟨w, hm⟩)
      exact hready w hm
    · exact hready' m w d' (hother m hmn ▸ hm)
  · by_cases hmem : b ∈ d.blocks
    · obtain ⟨-, -, -, -, -, hheld, -⟩ := hholds
      obtain rfl : n = m := Option.some.inj ((hheld b hmem).2.symm.trans hb)
      exact ⟨d, hd, hmem⟩
    · obtain ⟨d', hd', hb'⟩ := hheld' b m (hblock b hmem ▸ hb)
      have hmn : m ≠ n := fun h => hmem (hold b d' (h ▸ hd') hb')
      exact ⟨d', (holdsProgram_congr (hother m hmn)).mpr hd', hb'⟩
  · have hloading : ∀ {k d'}, (t.prog k).state = .loading q d' → k ≠ n → ¬ ∃ d, (t.prog n).state = .loading q d := by
      rintro k d' hk hkn ⟨d₀, hd₀⟩
      obtain rfl := hunique d₀ (.inl ⟨q, hd₀⟩)
      exact howner q hd₀ k d' hkn (hother k hkn ▸ hk)
    by_cases hmn : m = n
    · by_contra hne
      exact hloading hk (fun h => hne (hmn.trans h.symm)) ⟨d₁, hmn ▸ hm⟩
    · by_cases hkn : k = n
      · exact (hloading hm hmn ⟨d₂, hkn ▸ hk⟩).elim
      · exact howner' m k q d₁ d₂ (hother m hmn ▸ hm) (hother k hkn ▸ hk)

/-- PROG OPEN past its checks keeps the account (R82). -/
theorem libraryInv.openedProg (hs : s.libraryInv) (p : Fin 4) {count : Nat} (check : Word) (hn : n < 512) (hmin : 1 ≤ count)
    (hmax : count ≤ 256) (hempty : (s.prog n).state = .empty) (hfree : blocksFor count ≤ s.freeBlocks.length) :
    (s.openedProg p n count check).libraryInv := by
  have hu := hs.abandonOf p
  have hstate := s.prog_openedProg_self p n count check hn
  have hnone : ∀ b ∈ s.blocksTaken p count, ((s.abandonOf p).block b).holder = none := fun b hb =>
    ((mem_freeBlocks _ b).mp (s.mem_freeBlocks_of_mem_blocksTaken p count hb)).2
  have hblock : ∀ b ∈ s.blocksTaken p count, (s.openedProg p n count check).block b = ⟨some n, []⟩ := fun b hb => by
    rw [block_openedProg, if_pos hb]
  have hbefore : ((s.abandonOf p).prog n).state = .empty := by
    rw [prog_abandonOf]
    split
    · rfl
    · exact hempty
  refine hu.of_written (n := n) (d := ⟨count, check, 0, [], s.blocksTaken p count⟩) (fun m hm => ?_) (fun b hb => ?_)
    (.inl ⟨p, by rw [hstate]⟩) ⟨hmin, hmax, Nat.zero_le _, ?_, s.length_blocksTaken p count hfree, fun b hb => ?_, fun i b hi => ?_⟩
    (fun w hw => ?_) (fun b d' hd' => absurd hd' (not_holdsProgram_of_empty hbefore)) (fun b hb => .inl (hnone b hb))
    (fun q hq m d' _ => ?_)
  · rw [prog_openedProg_ne _ _ _ _ _ hm, prog_abandonOf]
  · rw [block_openedProg, if_neg hb]
  · exact ((freeBlocks_pairwise_lt _).imp Nat.ne_of_lt).sublist (List.take_sublist _ _)
  · rw [hblock b hb]
    exact ⟨s.lt_of_mem_blocksTaken p count hb, rfl⟩
  · rw [hblock b (List.mem_of_getElem? hi)]
    simp
  · rw [hstate] at hw
    cases hw
  · rw [hstate] at hq
    cases hq
    exact hs.state_abandonOf_ne_loading p m d'

/-- Points stored fill the blocks in order, and leave every holder as it is (R85). -/
theorem FilledTo.storePoints_filledTo {blocks : List Nat} {i : Nat} {points : List Point} (hfill : s.FilledTo blocks i)
    (hroom : i + points.length ≤ 32 * blocks.length) :
    (s.storePoints blocks i points).FilledTo blocks (i + points.length) ∧
      ∀ b, ((s.storePoints blocks i points).block b).holder = (s.block b).holder := by
  induction points generalizing s i with
  | nil => exact ⟨hfill, fun _ => rfl⟩
  | cons x rest ih =>
    rw [List.length_cons] at hroom
    have hi : i < 32 * blocks.length := by omega
    obtain ⟨hfilled, hholder⟩ := ih (hfill.storePoint hi x) (by omega)
    refine ⟨?_, fun b => (hholder b).trans ?_⟩
    · rw [List.length_cons, ← Nat.add_assoc, Nat.add_right_comm]
      exact hfilled
    · rw [hfill.block_storePoint hi]
      split <;> rfl

/-- PROG DATA past its checks keeps the account (R85). -/
theorem libraryInv.receivedData (hs : s.libraryInv) (hstate : (s.prog n).state = .loading p d) (points : List RawPoint)
    (hcount : d.received + points.length ≤ d.count) : (s.receivedData n p d points).libraryInv := by
  have hn := lt_of_state_loading hstate
  have hd : s.holdsProgram n d := .inl ⟨p, hstate⟩
  have hfill := filledTo_of_libraryInv hs hstate
  have hs' := hs
  obtain ⟨-, -, -, howner⟩ := hs'
  obtain ⟨hmin, hmax, hreceived, hnodup, hlength, hheld, -⟩ := hs.holds hd
  have hroom : d.received + (points.map storedPoint).length ≤ 32 * d.blocks.length := by
    rw [List.length_map, hlength, blocksFor]
    omega
  obtain ⟨hfilled, hholder⟩ := hfill.storePoints_filledTo hroom
  obtain ⟨-, -, hother⟩ := hfill.storePoints hroom
  have hself : (s.receivedData n p d points).prog n = ⟨.loading p { d with
      received := d.received + points.length, schedules := schedulesAfter d.schedules points }, (s.prog n).refs⟩ :=
    prog_setProg_self _ _ _ hn
  refine hs.of_written (n := n) (d := { d with
      received := d.received + points.length, schedules := schedulesAfter d.schedules points })
    (fun m hm => ?_) hother (.inl ⟨p, by rw [hself]⟩) ⟨hmin, hmax, hcount, hnodup, hlength, fun b hb => ?_, ?_⟩ (fun w hw => ?_)
    (fun b d' hd' hb => holdsProgram_unique hd' hd ▸ hb) (fun b hb => .inr (hheld b hb).2) (fun q hq m d' hm => ?_)
  · rw [State.receivedData, prog_setProg_ne _ _ _ _ hm, prog_storePoints]
  · exact ⟨(hheld b hb).1, (hholder b).trans (hheld b hb).2⟩
  · have hpoints := hfilled.lengthPoints
    rw [List.length_map] at hpoints
    exact hpoints
  · rw [hself] at hw
    cases hw
  · rw [hself] at hq
    cases hq
    exact fun hm' => hm (howner m n p d' d hm' hstate)

/-- PROG CLOSE past its check keeps the account (R87). -/
theorem libraryInv.closedProg (hs : s.libraryInv) (hstate : (s.prog n).state = .loading p d) (hcount : d.received = d.count) :
    (s.closedProg n d).libraryInv := by
  have hn := lt_of_state_loading hstate
  have hd : s.holdsProgram n d := .inl ⟨p, hstate⟩
  have hself := s.prog_closedProg_self n d hn
  have hholds := hs.holds hd
  refine hs.of_written (fun m hm => ?_) (fun b _ => rfl) (.inr ⟨s.library.stamp, by rw [hself]⟩) (hholds.of_block_eq fun b _ => rfl)
    (fun w _ => hcount) (fun b d' hd' hb => holdsProgram_unique hd' hd ▸ hb) (fun b hb => ?_) (fun q hq => ?_)
  · rw [prog_closedProg_ne _ _ _ hm]
  · obtain ⟨-, -, -, -, -, hheld, -⟩ := hholds
    exact .inr (hheld b hb).2
  · rw [hself] at hq
    cases hq

/-! ### The requests of the Program Library -/

theorem libraryInv.progOpenBlock (hs : s.libraryInv) (h : Hdr) (n count : Nat) (check : Word) :
    (progOpenBlock h n count check s).state.libraryInv := by
  unfold Machine.progOpenBlock
  (repeat' split)
  · exact hs
  · exact hs
  · exact hs
  · exact hs
  · next hrange hcount hempty hfree =>
    have hn : n < 512 := by
      simp only [programRange, Bool.not_eq_false, Bool.and_eq_true, decide_eq_true_eq] at hrange
      exact hrange.1
    exact hs.openedProg h.port check hn (by omega) (by omega) (not_not.mp hempty) (by omega)

theorem libraryInv.progDataBlock (hs : s.libraryInv) (h : Hdr) (n first : Nat) (points : List RawPoint) :
    (progDataBlock h n first points s).state.libraryInv := by
  unfold Machine.progDataBlock
  split
  · exact hs
  · split
    · next p d hstate =>
      (repeat' split)
      · exact hs
      · exact hs
      · exact hs
      · exact hs
      · exact hs
      · next hfirst hcount _ _ _ _ =>
        obtain rfl := not_not.mp hfirst
        have hdata := hs.receivedData hstate points (not_lt.mp hcount)
        rw [State.receivedData, ← prog_storePoints s d.blocks d.received (points.map storedPoint) n] at hdata
        exact hdata
    · exact hs

theorem libraryInv.progCloseBlock (hs : s.libraryInv) (h : Hdr) (n : Nat) : (progCloseBlock h n s).state.libraryInv := by
  unfold Machine.progCloseBlock
  split
  · exact hs
  · split
    · next p d hstate =>
      (repeat' split)
      · exact hs
      · exact hs.emptyProg (.inl ⟨p, hstate⟩)
      · exact hs.emptyProg (.inl ⟨p, hstate⟩)
      · next hcount _ => exact hs.closedProg hstate (not_not.mp hcount)
    · exact hs

theorem libraryInv.progDeleteBlock (hs : s.libraryInv) (h : Hdr) (n : Nat) : (progDeleteBlock h n s).state.libraryInv := by
  unfold Machine.progDeleteBlock
  split
  · exact hs
  · split
    · exact hs
    · next p d hstate =>
      split
      · exact hs
      · exact hs.emptyProg (.inl ⟨p, hstate⟩)
    · next w d hstate =>
      split
      · exact hs
      · exact (hs.emptyProg (.inr ⟨w, hstate⟩)).of_library rfl

/-! ### The step -/

theorem closed_libraryInv : Closed State.libraryInv where
  congr hs h := hs.of_library h.library
  robot _ _ hs _ := hs.of_library rfl
  robots hs _ := hs.of_library rfl
  pend _ _ hs _ := hs.of_library rfl
  stage _ _ hs _ := hs.of_library rfl
  body hs _ := hs.of_library rfl
  free _ hs := hs.of_library rfl
  refs n k hs := hs.congr (fun m => by
    by_cases hm : m = n
    · subst hm
      rw [prog, setProg, tget_tset]
      split <;> rfl
    · rw [prog_setProg_ne _ _ _ _ hm]) fun _ => rfl

theorem requestBlock_libraryInv (i : Instr) (s : State) (hi : changesTables i = true) (hs : s.libraryInv) :
    (requestBlock i s).state.libraryInv := by
  cases i <;> simp only [changesTables, Bool.false_eq_true] at hi
  all_goals simp only [requestBlock]
  case layoutWrite h records =>
    obtain heq | ⟨-, -, heq⟩ := layoutWriteBlock_cases h records s
    · rwa [heq]
    · rw [heq]
      exact closed_libraryInv.applyLayout hs fun u hu => hu.of_library rfl
  case start h =>
    obtain heq | ⟨-, heq⟩ := startBlock_cases h s
    · rwa [heq]
    · rw [heq]
      exact closed_libraryInv.startRun hs fun u hu => hu.of_library rfl
  case stop => exact hs.of_library (by simp)
  case progOpen => exact hs.progOpenBlock _ _ _ _
  case progData => exact hs.progDataBlock _ _ _ _
  case progClose => exact hs.progCloseBlock _ _
  case progDelete => exact hs.progDeleteBlock _ _

theorem libraryInv_powerOn (straps : Straps) (levels : BitVec 16) : (powerOn straps levels).libraryInv := by
  have hprog : ∀ n, ((powerOn straps levels).prog n).state = .empty := fun n => by
    by_cases hn : n < 512
    · have : (powerOn straps levels).prog n = ⟨.empty, 0⟩ := tget_replicate _ _ _ hn
      rw [this]
    · have : (powerOn straps levels).prog n = ⟨.empty, 0⟩ := tget_of_ge _ _ _ (not_lt.mp hn)
      rw [this]
  have hblock : ∀ b, ((powerOn straps levels).block b).holder = none := fun b => by
    by_cases hb : b < 512
    · have : (powerOn straps levels).block b = ⟨none, []⟩ := tget_replicate _ _ _ hb
      rw [this]
    · have : (powerOn straps levels).block b = ⟨none, []⟩ := tget_of_ge _ _ _ (not_lt.mp hb)
      rw [this]
  refine ⟨fun n d hd => absurd hd (not_holdsProgram_of_empty (hprog n)), fun n w d hd => ?_, fun b n hb => ?_,
    fun m n p d d' hm => ?_⟩
  · simp [hprog n] at hd
  · simp [hblock b] at hb
  · simp [hprog m] at hm

end State

/-- Settles O58: only the four requests of the library and an abandonment change more than a reference count, and each leaves
every block with the program whose list it is in. -/
theorem stepKeepsBlockStoreAccounted : Obligations.StepKeepsBlockStoreAccounted := fun _ _ hs ht =>
  State.closed_libraryInv.step State.libraryInv_powerOn State.requestBlock_libraryInv
    (fun _ hs => hs.of_library (by simp)) (fun _ p hs => hs.abandonOf p) hs ht

end Machine
end Sys2Proof
end

section
/-!
SUPPORT. The ring and the layout in range (O56): the ring's indices within its length through the requests of Chapter 1 and the
admissions, and the layout's numbers through the records of a LAYOUT WRITE.
-/
namespace Sys2Proof
namespace Machine

/-- The indices and the loop of a ring of length `L` lie within it (R1, R8). -/
def Ring.Within (L : Nat) (g : Ring) : Prop :=
  g.read < L ∧ g.write < L ∧ ∀ l ∈ g.loop, l.start < L ∧ 1 ≤ l.length ∧ l.length < L

/-- The length of the ring is one of the three (R1). -/
def LineRec.RingLengthListed (l : LineRec) : Prop := l.ringLength = 64 ∨ l.ringLength = 128 ∨ l.ringLength = 256

theorem LineRec.RingLengthListed.pos {l : LineRec} (hl : l.RingLengthListed) : 0 < l.ringLength := by
  unfold RingLengthListed at hl
  omega

/-- A robot's layout fields in their ranges (12.2). -/
def RobotRec.InRange (p : RobotRec) : Prop := p.station < 16 ∧ p.drop < 8 ∧ 2 ≤ p.slots ∧ p.slots ≤ 8

/-- The numbers of a layout that the invariants read lie in their ranges (R184, 12.2). -/
def Layout.InRange (l : Layout) : Prop :=
  l.line.RingLengthListed ∧ 1 ≤ l.line.stations ∧ l.line.stations ≤ 16 ∧ ∀ r, (tget .default l.robots r).InRange

/-! ### The records of a LAYOUT WRITE -/

/-- A chain of checks answers no fault exactly where no check of it does. -/
theorem firstFault_eq_none_iff {p : Prop} [Decidable p] {n : Nat} {rest : Option Nat} :
    (if p then some n else rest) = none ↔ ¬ p ∧ rest = none := by
  split <;> simp [*]

theorem storedLine_inRange {x : RawLine} (hx : recordFault (.line x) = none) :
    (storedLine x).RingLengthListed ∧ 1 ≤ (storedLine x).stations ∧ (storedLine x).stations ≤ 16 := by
  have hfault : lineFault x = none := Option.map_eq_none_iff.mp hx
  unfold lineFault at hfault
  simp only [firstFault_eq_none_iff] at hfault
  obtain ⟨hstations, -, -, hlength, -⟩ := hfault
  simp only [LineRec.RingLengthListed, storedLine]
  omega

theorem storedRobot_inRange {i : Nat} {x : RawPlace} (hx : recordFault (.robot i x) = none) {old : RobotRec} (hold : old.InRange) :
    (storedRobot old x).InRange := by
  cases x with
  | absent => exact hold
  | unlisted => exact hold
  | present x =>
    simp only [recordFault] at hx
    split at hx
    · cases hx
    · simp only [Option.map_eq_none_iff, robotFault] at hx
      (repeat' split at hx) <;> simp only [reduceCtorEq] at hx
      simp only [RobotRec.InRange, storedRobot]
      omega

theorem Layout.InRange.write {l : Layout} (hl : l.InRange) {x : RawRecord} (hx : recordFault x = none) : (l.write x).InRange := by
  obtain ⟨hlength, hmin, hmax, hrobots⟩ := hl
  cases x with
  | line x =>
    obtain ⟨hlength', hmin', hmax'⟩ := storedLine_inRange hx
    exact ⟨hlength', hmin', hmax', hrobots⟩
  | robot i x =>
    refine ⟨hlength, hmin, hmax, fun r => ?_⟩
    simp only [Layout.write, tget_tset]
    split
    · exact storedRobot_inRange hx (hrobots i)
    · exact hrobots r
  | _ => exact ⟨hlength, hmin, hmax, hrobots⟩

namespace State

/-- The two invariants together: the layout in range, and the ring within its length. -/
def RingAndLayout (s : State) : Prop := s.layout.InRange ∧ s.ring.Within s.layout.line.ringLength

theorem ringAndLayout_iff (s : State) : s.RingAndLayout ↔ s.ringInv ∧ s.layoutInv := by
  constructor
  · rintro ⟨⟨hlength, hmin, hmax, hrobots⟩, hring⟩
    exact ⟨⟨hlength, hring⟩, hmin, hmax, hrobots⟩
  · rintro ⟨⟨hlength, hring⟩, hmin, hmax, hrobots⟩
    exact ⟨⟨hlength, hmin, hmax, hrobots⟩, hring⟩

variable {s t : State}

/-- The invariants read the ring, the LINE record and the ROBOT records alone. -/
theorem RingAndLayout.congr (hs : s.RingAndLayout) (hring : t.ring = s.ring) (hline : t.layout.line = s.layout.line)
    (hrobots : t.layout.robots = s.layout.robots) : t.RingAndLayout := by
  unfold RingAndLayout Layout.InRange
  rw [hring, hline, hrobots]
  exact hs

theorem RingAndLayout.of_layout (hs : s.RingAndLayout) (hlayout : t.layout = s.layout)
    (hring : t.ring.Within s.layout.line.ringLength) : t.RingAndLayout := by
  unfold RingAndLayout
  rw [hlayout]
  exact ⟨hs.1, hring⟩

theorem RingAndLayout.length_pos (hs : s.RingAndLayout) : 0 < s.layout.line.ringLength := hs.1.1.pos

/-! ### The ring -/

theorem ring_judgeLow (was now : Nat) : (s.judgeLow was now).ring = s.ring := by
  unfold judgeLow
  split <;> rfl

theorem RingAndLayout.appendEntry (hs : s.RingAndLayout) (e : SeqEntry) : (s.appendEntry e).RingAndLayout := by
  obtain ⟨hread, hwrite, hloop⟩ := hs.2
  exact hs.of_layout rfl ⟨hread, Nat.mod_lt _ hs.length_pos, hloop⟩

theorem RingAndLayout.appendEntries (hs : s.RingAndLayout) (es : List SeqEntry) (k : Nat) :
    (s.appendEntries es k).1.RingAndLayout := by
  induction es generalizing s k with
  | nil => exact hs
  | cons e rest ih =>
    unfold State.appendEntries
    split
    · exact hs
    · exact ih (hs.appendEntry e) _

theorem RingAndLayout.emptyRing (hs : s.RingAndLayout) : s.emptyRing.RingAndLayout := by
  obtain ⟨-, hwrite, -⟩ := hs.2
  refine hs.of_layout (by simp) ?_
  rw [State.emptyRing, ring_judgeLow]
  exact ⟨hwrite, hwrite, nofun⟩

theorem RingAndLayout.passHead (hs : s.RingAndLayout) : s.passHead.RingAndLayout := by
  obtain ⟨hread, hwrite, hloop⟩ := hs.2
  refine hs.of_layout (by simp) ?_
  unfold State.passHead
  split
  · rw [ring_judgeLow]
    exact ⟨Nat.mod_lt _ hs.length_pos, hwrite, hloop⟩
  · next l hl =>
    refine ⟨?_, hwrite, hloop⟩
    dsimp only [setRing]
    split
    · exact (hloop l hl).1
    · exact Nat.mod_lt _ hs.length_pos

theorem RingAndLayout.admitNext (hs : s.RingAndLayout) : s.admitNext.RingAndLayout := by
  have hpromote : ∀ i w, (s.promote i w).RingAndLayout := fun i w =>
    hs.congr (by simp) (by simp) (by simp)
  unfold State.admitNext
  split
  · dsimp only
    split
    · have hstall : ∀ u : State, u.RingAndLayout → u.stallHead.RingAndLayout := fun u hu => by
        unfold stallHead
        split
        · exact hu
        · exact hu.of_layout rfl hu.2
      exact hstall _ (hpromote _ _)
    · have hpass : ∀ v : State, v.RingAndLayout → v.passHead.oweAll.RingAndLayout := fun v hv =>
        hv.passHead.congr (by simp) (by simp) (by simp)
      have hadmit : ∀ (u : State) b, u.RingAndLayout → (u.admitHead b).RingAndLayout := fun u b hu => by
        unfold admitHead
        dsimp only
        refine hpass _ ?_
        split <;> exact hu.congr (by simp) (by simp) (by simp)
      exact (hadmit _ _ (hpromote _ _)).congr rfl rfl rfl
  · exact hs

theorem RingAndLayout.takeAdmission (hs : s.RingAndLayout) : s.takeAdmission.RingAndLayout :=
  RingAndLayout.admitNext (hs.congr (t := s.discharge .admission) (by simp) (by simp) (by simp))

/-! ### The requests of the ring -/

theorem RingAndLayout.seqAppendBlock (hs : s.RingAndLayout) (h : Hdr) (es : List SeqEntry) :
    (seqAppendBlock h es s).state.RingAndLayout := by
  unfold Machine.seqAppendBlock
  (repeat' split)
  · exact hs
  · exact hs
  · exact hs
  · exact prop_ite (Q := RingAndLayout) ((hs.appendEntries es 0).congr rfl rfl rfl) (hs.appendEntries es 0)

theorem RingAndLayout.seqSkipBlock (hs : s.RingAndLayout) (h : Hdr) : (seqSkipBlock h s).state.RingAndLayout := by
  unfold Machine.seqSkipBlock
  (repeat' split)
  · exact hs
  · exact hs
  · exact hs
  · exact hs
  · obtain ⟨hread, hwrite, hloop⟩ := hs.2
    refine hs.of_layout (by simp) ?_
    simp only [done_state, ring_owe, ring_judgeLow]
    exact ⟨Nat.mod_lt _ hs.length_pos, hwrite, hloop⟩

theorem RingAndLayout.seqLoopOnBlock (hs : s.RingAndLayout) (h : Hdr) (listed : Bool) :
    (seqLoopOnBlock h listed s).state.RingAndLayout := by
  unfold Machine.seqLoopOnBlock
  (repeat' split)
  · exact hs
  · exact hs
  · exact hs
  · next hstate =>
    obtain ⟨hread, hwrite, -⟩ := hs.2
    obtain ⟨hoff, hsome⟩ := not_or.mp hstate
    have hcount : s.ringCount < s.layout.line.ringLength := by
      rw [Option.not_isSome_iff_eq_none] at hoff
      rw [ringCount, hoff]
      exact Nat.mod_lt _ hs.length_pos
    refine hs.of_layout rfl ⟨hread, hwrite, fun l hl => ?_⟩
    obtain rfl := Option.mem_some.mp hl
    exact ⟨hread, Nat.one_le_iff_ne_zero.mpr (not_or.mp hsome).1, hcount⟩

theorem RingAndLayout.seqLoopOffBlock (hs : s.RingAndLayout) (h : Hdr) (listed : Bool) :
    (seqLoopOffBlock h listed s).state.RingAndLayout := by
  unfold Machine.seqLoopOffBlock
  (repeat' split)
  · exact hs
  · exact hs
  · exact hs
  · exact hs.emptyRing

theorem ring_trackReset (s : State) : s.trackReset.ring = s.emptyRing.ring := by
  unfold trackReset
  simp only [oweAll_frame, ring_owe]
  exact (foldl_keeps State.ring _ (fun t r => by simp) _ _).trans (by simp)

theorem RingAndLayout.trackResetBlock (hs : s.RingAndLayout) (h : Hdr) : (trackResetBlock h s).state.RingAndLayout := by
  unfold Machine.trackResetBlock
  split
  · exact hs
  · exact hs.emptyRing.congr (ring_trackReset s) (by simp) (by simp)

theorem ring_ite {p : Prop} [Decidable p] : (if p then s else t).ring = if p then s.ring else t.ring :=
  apply_ite State.ring p s t

/-- A layout with another ring length empties the ring, both indices 0, and any other leaves it (R20). -/
theorem ring_applyLayout (s : State) (new : Layout) :
    (s.applyLayout new).ring =
      if new.line.ringLength ≠ s.layout.line.ringLength then
        { s.ring with read := 0, write := 0, loop := none, stalled := false }
      else s.ring := by
  unfold applyLayout
  dsimp only
  refine (foldl_keeps State.ring _ (fun t p => by simp) _ _).trans ?_
  have hrestart : ((s.changeRobots new).restartRing s.ringCount).ring =
      { s.ring with read := 0, write := 0, loop := none, stalled := false } := by
    rw [restartRing, ring_judgeLow]
    simp
  simp only [ring_ite, resetStations_frame, resizeStyles_frame, changeRobots_frame, ite_self, hrestart]
  rfl

theorem RingAndLayout.layoutWriteBlock (hs : s.RingAndLayout) (h : Hdr) (records : List RawRecord) :
    (layoutWriteBlock h records s).state.RingAndLayout := by
  obtain heq | ⟨-, hrecords, heq⟩ := layoutWriteBlock_cases h records s
  · rwa [heq]
  · have hnew : (records.foldl Layout.write s.layout).InRange :=
      foldl_write_keeps (fun _ _ hx hl => hl.write hx) hrecords hs.1
    rw [heq, RingAndLayout, layout_applyLayout, ring_applyLayout]
    refine ⟨hnew, ?_⟩
    split
    · exact ⟨hnew.1.pos, hnew.1.pos, nofun⟩
    · next hsame =>
      rw [not_not.mp hsame]
      exact hs.2

end State

open State in
theorem requestBlock_ringAndLayout (i : Instr) {s : State} (hs : s.RingAndLayout) : (requestBlock i s).state.RingAndLayout := by
  cases i
  case seqAppend => exact hs.seqAppendBlock _ _
  case seqSkip => exact hs.seqSkipBlock _
  case seqLoopOn => exact hs.seqLoopOnBlock _ _
  case seqLoopOff => exact hs.seqLoopOffBlock _ _
  case layoutWrite => exact hs.layoutWriteBlock _ _
  case trackReset => exact hs.trackResetBlock _
  case setSense h i sense =>
    obtain ⟨v, hlayout⟩ := layout_setSenseBlock h i sense s
    exact hs.congr (by simp [requestBlock]) (by rw [requestBlock, hlayout]) (by rw [requestBlock, hlayout])
  all_goals exact hs.congr (by simp [requestBlock]) (by simp [requestBlock]) (by simp [requestBlock])

theorem ring_taking (i : Instr) (o : OnBus) (u : State) : (taking i o u).ring = u.ring := by
  cases i <;> simp only [taking]
  case statusReply | aborted | slotReport | loadAck | loadCheckReply => simp
  case ack | nakSlot | nakBusy => cases State.selectOf o <;> simp

/-- No event but an admission moves the ring, and none writes the layout. -/
theorem eventBlock_ringAndLayout (i : Instr) {s : State} (hs : s.RingAndLayout) : (eventBlock i s).RingAndLayout := by
  cases i <;> simp only [eventBlock]
  case admissionAttempt => exact hs.takeAdmission
  case statusReply | ack | nakSlot | nakBusy | aborted | slotReport | loadAck | loadCheckReply =>
    exact hs.congr (takeReply_leaves State.ring (by simp) (by simp) (by simp) (ring_taking _) s)
      (congrArg _ (takeReply_leaves State.layout (by simp) (by simp) (by simp) (layout_taking _) s))
      (congrArg _ (takeReply_leaves State.layout (by simp) (by simp) (by simp) (layout_taking _) s))
  case frameError | interByteGap | lineSilence | goodFrameDiscarded | frameOpening =>
    split <;> exact hs.congr (by simp [State.goodFrameOn]) (by simp [State.goodFrameOn]) (by simp [State.goodFrameOn])
  all_goals exact hs.congr (by simp) (by simp) (by simp)

theorem idle_ringAndLayout {s : State} (hs : s.RingAndLayout) : s.idle.RingAndLayout :=
  idle_keeps (Q := State.RingAndLayout) (fun _ => hs.congr rfl rfl rfl)
    (fun d => by
      cases d with
      | admission => exact hs.takeAdmission
      | recompute r => exact hs.congr (by simp [State.takeDue]) (by simp) (by simp)
      | selection r => exact hs.congr (by simp [State.takeDue]) (by simp) (by simp))
    (fun b => hs.congr (by simp) (by simp) (by simp)) (hs.congr (by simp) (by simp) (by simp)) hs

theorem State.ringAndLayout_powerOn (straps : Straps) (levels : BitVec 16) : (powerOn straps levels).RingAndLayout := by
  refine ⟨⟨.inr (.inl rfl), le_rfl, Nat.le_add_right 1 15, fun r => ?_⟩, Nat.zero_lt_succ 127, Nat.zero_lt_succ 127, nofun⟩
  have hrobot : tget RobotRec.default (powerOn straps levels).layout.robots r = .default := by
    by_cases hr : r < 32
    · exact tget_replicate _ _ _ hr
    · exact tget_of_ge _ _ _ (not_lt.mp hr)
  rw [hrobot]
  exact ⟨Nat.zero_lt_succ 15, Nat.zero_lt_succ 7, le_rfl, Nat.le_add_right 2 6⟩

/-- Settles O56: every index is taken modulo the ring's length, and every record is checked before it is written. -/
theorem stepKeepsRingAndLayoutInRange : Obligations.StepKeepsRingAndLayoutInRange := fun s t hring hlayout ht =>
  t.ringAndLayout_iff.mp <|
    step_keeps (Q := State.RingAndLayout) (fun _ _ hs => hs)
      (fun _ _ _ hs ht => exec_keeps (Q := State.RingAndLayout)
        (fun straps levels _ _ _ => (State.ringAndLayout_powerOn straps levels).congr rfl rfl rfl) (fun _ hs => hs)
        (fun _ _ hs => hs) (fun _ _ hs => hs) (fun _ _ _ hs => hs) (fun _ _ _ _ _ hs => hs)
        (fun i _ hs => requestBlock_ringAndLayout i hs) (fun i _ hs => eventBlock_ringAndLayout i hs) hs ht)
      (fun _ hs => idle_ringAndLayout hs) (s.ringAndLayout_iff.mpr ⟨hring, hlayout⟩) ht

/-- Settles O60: the power-on state meets each invariant, whatever the straps and the levels. -/
theorem resetMeetsTheInvariants : Obligations.ResetMeetsTheInvariants :=
  ⟨State.portsInv_powerOn _ _, State.bodiesInv_of_nil rfl, State.robotsInv_powerOn _ _, State.libraryInv_powerOn _ _,
    State.pendInv_powerOn _ _, (State.ringAndLayout_iff _).mp (State.ringAndLayout_powerOn _ _)⟩

end Machine
end Sys2Proof
end

section
/-!
SUPPORT. The line ports and their latches (O4 to O9): what receiving does in each state of the port, what its checks refuse, and
each event of a port as one change of that port.
-/
namespace Sys2Proof
namespace Machine
namespace State

variable (s : State)

theorem whileWorking_of_working {s : State} (hreset : s.resetInput = false) (f : State → State) : s.whileWorking f = f s := by
  simp [whileWorking, hreset]

theorem receiverClosed_eq_true_iff (p : Nat) :
    s.receiverClosed p = true ↔ (s.port p).reply ≠ none ∧ (s.port p).sending = true := by
  simp [receiverClosed, Option.isSome_iff_ne_none]

theorem receiverClosed_eq_false_iff (p : Nat) :
    s.receiverClosed p = false ↔ (s.port p).reply = none ∨ (s.port p).sending = false := by
  rw [← Bool.not_eq_true, receiverClosed_eq_true_iff, not_and_or, not_not, Bool.not_eq_true]

/-! ### Requests -/

/-- A request that completes behind a reply whose sending has not begun is held (R171). -/
theorem receive_of_waiting {h : Hdr} (i : Instr) (take : State → State) (hreset : s.resetInput = false)
    (hrx : (s.port h.port.val).rx ≠ .skipping) (hreply : (s.port h.port.val).reply ≠ none)
    (hsending : (s.port h.port.val).sending = false) (hheld : (s.port h.port.val).held = none) :
    s.receive h i take = (s.goodFrameOn h.port.val).modPort h.port.val fun x => { x with held := some i } := by
  have hopen := (s.receiverClosed_eq_false_iff h.port.val).mpr (.inr hsending)
  simp [receive, hreset, hrx, hopen, hreply, hheld]

/-- A request that completes while the port sends its reply is lost (R171). -/
theorem receive_of_sending {h : Hdr} (i : Instr) (take : State → State) (hreply : (s.port h.port.val).reply ≠ none)
    (hsending : (s.port h.port.val).sending = true) : s.receive h i take = s :=
  if_pos (.inr (.inr ((s.receiverClosed_eq_true_iff h.port.val).mpr ⟨hreply, hsending⟩)))

/-- The end of the sending takes the frame held (R171). -/
theorem exec_replySent_of_held {p : Fin 4} {i : Instr} (hreset : s.resetInput = false) (hreply : (s.port p.val).reply ≠ none)
    (hheld : (s.port p.val).held = some i) :
    exec (.replySent p) s =
      .next (serveHeld i (s.modPort p.val fun x => { x with reply := none, sending := false, held := none })) := by
  have hsome := Option.isSome_iff_ne_none.mpr hreply
  simp [exec, execReplySent, whileWorking_of_working hreset, takeHeld, hsome, hheld, p.isLt, modPort_modPort]

/-! ### The port's refusals -/

/-- What the reply to a request refused by its port carries, by the kind of the request (R6). -/
theorem portContents_of_request {i : Instr} {h : Hdr} {kind : Byte} {g : Group} (hr : requestOf i = some (h, kind, g)) :
    portContents i s = if kind = 0x10#8 then .appended 0 s.ring.nextPsn else .nothing := by
  cases i <;> simp only [requestOf, reduceCtorEq, Option.some.injEq, Prod.mk.injEq] at hr
  case unknownRequestKind k =>
    split at hr
    · cases hr
    · next hk =>
      obtain ⟨-, rfl, -⟩ := by simpa using hr
      refine (if_neg fun h10 => hk ?_).symm
      rw [h10]
      decide
  all_goals
    obtain ⟨-, rfl, -⟩ := hr
    rfl

/-- A request that its port refuses is answered with the port's code, and the ports alone change (R177). -/
theorem exec_request_of_portRefusal {i : Instr} {h : Hdr} {kind : Byte} {g : Group} (hr : requestOf i = some (h, kind, g))
    (hl : s.listens h.port) {c : Code} (hc : (s.goodFrameOn h.port.val).portRefusal h.port g = some c) :
    ∃ t, exec i s = .next t ∧
      answered h kind c (if kind = 0x10#8 then .appended 0 s.ring.nextPsn else .nothing) s t ∧
      t = { s with ports := t.ports } := by
  refine ⟨_, ?_, s.answered_sendReply rfl kind c _, rfl⟩
  rw [exec_of_request hr, s.receive_of_listens hl, serveHeld_of_request hr]
  simp only [serve, hc, portContents_of_request _ hr]
  rfl

theorem portRefusal_of_no_role {p : Fin 4} {g : Group}
    (hrole : g = .zone ∧ (s.port p.val).roles.zone = false ∨ g = .sequence ∧ (s.port p.val).roles.sequence = false ∨
      g = .library ∧ (s.port p.val).roles.library = false) :
    (s.goodFrameOn p.val).portRefusal p g = some .role := by
  obtain ⟨rfl, hrole⟩ | ⟨rfl, hrole⟩ | ⟨rfl, hrole⟩ := hrole <;>
    simp [portRefusal, port_goodFrameOn, Port.goodFrame, hrole]

theorem portRefusal_of_degraded {p : Fin 4} {g : Group}
    (hrole : g = .sequence ∧ (s.port p.val).roles.sequence = true ∨ g = .library ∧ (s.port p.val).roles.library = true)
    (hdegraded : (s.port p.val).degraded = true) (herrors : 2 ≤ (s.port p.val).errors) :
    (s.goodFrameOn p.val).portRefusal p g = some .link := by
  have hstays : (s.port p.val).errors - 1 ≠ 0 := by omega
  obtain ⟨rfl, hrole⟩ | ⟨rfl, hrole⟩ := hrole <;>
    simp [portRefusal, port_goodFrameOn, Port.goodFrame, hrole, hdegraded, hstays]

/-! ### Beginning to send -/

theorem replyWaits_eq_false_iff (p : Fin 4) :
    s.replyWaits p = false ↔ (s.port p.val).reply = none ∨ (s.port p.val).sending = true := by
  simp [replyWaits, or_iff_not_imp_left, Option.isSome_iff_ne_none]

/-! ### One change of one port -/

/-- A command that makes one change of its port's state leaves the other ports and the rest of the state. -/
theorem next_of_modPort {o : Outcome} {p : Fin 4} {f : Port → Port} (ho : o = .next (s.modPort p.val f)) :
    ∃ t, o = .next t ∧ t = { s with ports := t.ports } ∧ t.port p.val = f (s.port p.val) ∧ ∀ q, q ≠ p.val → t.port q = s.port q :=
  ⟨_, ho, rfl, port_modPort_self _ _ f p.isLt, fun q hq => port_modPort_ne _ _ q f hq⟩

/-! ### Frame errors (R173) -/

theorem port_frameErrorOn (p : Fin 4) (rx : RxState) :
    (s.frameErrorOn p.val rx).port p.val =
      { s.port p.val with
        rx := rx
        errors := if (s.port p.val).errors < s.threshold p.val then (s.port p.val).errors + 1 else (s.port p.val).errors
        degraded := (s.port p.val).degraded || decide ((s.port p.val).errors + 1 = s.threshold p.val) } := by
  have hport : (s.frameErrorOn p.val rx).port p.val = { Port.frameError (s.threshold p.val) (s.port p.val) with rx := rx } := by
    unfold frameErrorOn
    dsimp only
    split <;> simp [port, p.isLt]
  rw [hport]
  unfold Port.frameError
  by_cases hbelow : (s.port p.val).errors < s.threshold p.val
  · by_cases hlast : (s.port p.val).errors + 1 = s.threshold p.val <;> simp [hbelow, hlast]
  · have hlast : (s.port p.val).errors + 1 ≠ s.threshold p.val := by omega
    simp [hbelow, hlast]

theorem port_frameErrorOn_ne (p q : Nat) (rx : RxState) (hq : q ≠ p) : (s.frameErrorOn p rx).port q = s.port q := by
  unfold frameErrorOn
  dsimp only
  split <;> simp [port, hq]

theorem degrades_iff (t : Nat) (x : Port) : x.degrades t = true ↔ x.errors + 1 = t ∧ x.degraded = false := by
  simp only [Port.degrades, Bool.and_eq_true, decide_eq_true_eq, beq_iff_eq, Bool.not_eq_true']
  refine and_congr_left fun _ => and_iff_right_of_imp ?_
  omega

theorem attention_frameErrorOn (p : Nat) (rx : RxState) :
    (s.frameErrorOn p rx).attention =
      (if (s.port p).errors + 1 = s.threshold p ∧ (s.port p).degraded = false then s.raise .linkDegraded p else s).attention := by
  unfold frameErrorOn
  simp only [degrades_iff]
  split <;> rfl

end State

/-- The search of the four ports, or buses, in ascending order finds the lowest that meets its condition. -/
theorem find?_four_eq_some {f : Fin 4 → Bool} {p : Fin 4} (hp : f p = true) (hbefore : ∀ q, q < p → f q = false) :
    ([0, 1, 2, 3] : List (Fin 4)).find? f = some p := by
  match p with
  | 0 => simp [hp]
  | 1 => simp [hp, hbefore 0 (by decide)]
  | 2 => simp [hp, hbefore 0 (by decide), hbefore 1 (by decide)]
  | 3 => simp [hp, hbefore 0 (by decide), hbefore 1 (by decide), hbefore 2 (by decide)]

/-- Settles O4: the three branches of receiving, and the held frame taken by REPLY SENT. -/
theorem requestIsServedAtOnceOrHeld : Obligations.RequestIsServedAtOnceOrHeld := by
  refine fun s i h kind g hr => ⟨fun hlistens => ?_, fun hreset hrx hreply hsending hheld => ?_, fun hreply hsending => ?_,
    s.exec_replySent_of_held⟩
  · rw [exec_of_request hr, s.receive_of_listens hlistens]
  · rw [exec_of_request hr, s.receive_of_waiting i _ hreset hrx hreply hsending hheld]
  · rw [exec_of_request hr, s.receive_of_sending i _ hreply hsending]

/-- Settles O5: an unknown kind has a block that only refuses, and the other two refusals are the port's own. -/
theorem portRefusesByKindRoleThenLink : Obligations.PortRefusesByKindRoleThenLink := by
  refine ⟨fun s h kind hkind hlistens => ?_, fun s i h kind g hr hlistens hrole => ?_,
    fun s i h kind g hr hlistens hrole hdegraded herrors => ?_⟩
  · have hr : requestOf (.unknownRequestKind h kind) = some (h, kind, .query) := by simp [requestOf, hkind]
    exact s.exec_request_of_block_unchanged hr hlistens trivial rfl
  · exact s.exec_request_of_portRefusal hr hlistens (s.portRefusal_of_no_role hrole)
  · exact s.exec_request_of_portRefusal hr hlistens (s.portRefusal_of_degraded hrole hdegraded herrors)

/-- Settles O6: each of the two commands is one frame error on its port. -/
theorem frameErrorCountsTowardDegraded : Obligations.FrameErrorCountsTowardDegraded := by
  intro s p i rx hreset hcase
  have hexec : exec i s = .next (s.frameErrorOn p.val rx) := by
    obtain ⟨c, rfl, rfl, hseen⟩ | ⟨rfl, rfl, hrx⟩ := hcase
    · rw [exec_of_event rfl rfl, State.whileWorking_of_working hreset]
      refine congrArg _ (if_neg ?_)
      rintro ⟨hlost, hbreak⟩
      obtain rfl | ⟨hrx, hopen⟩ := hseen
      · exact hbreak rfl
      · rw [← State.receiverClosed_eq_false_iff] at hopen
        simp [hrx, hopen] at hlost
    · rw [exec_of_event rfl rfl, State.whileWorking_of_working hreset]
      exact congrArg _ (if_pos hrx)
  refine ⟨_, hexec, ?_, s.port_frameErrorOn p rx, fun q hq => s.port_frameErrorOn_ne p.val q rx hq,
    s.attention_frameErrorOn p.val rx⟩
  unfold State.frameErrorOn
  dsimp only
  split <;> rfl

/-- Settles O7: each command is one change of its port, or is lost on a closed receiver; on an empty queue the first port whose
reply waits begins to send it. -/
theorem receiveStateFollowsTheLine : Obligations.ReceiveStateFollowsTheLine := by
  refine ⟨fun s p i x hreset hcase => ?_, fun s p i hreply hsending hcase => ?_,
    fun s p hqueue hreset hreply hsending hfirst => ?_⟩
  · obtain ⟨rfl, hrx, rfl⟩ | ⟨rfl, hrx, hopen, rfl⟩ | ⟨rfl, hrx, hopen, hheld, rfl⟩ | ⟨rfl, hreply, hheld, rfl⟩ := hcase
    · refine s.next_of_modPort (f := fun x => { x with rx := .hunting }) ?_
      rw [exec_of_event rfl rfl, State.whileWorking_of_working hreset]
      exact congrArg _ (if_pos hrx)
    · refine s.next_of_modPort (f := fun x => { x with rx := .receiving }) ?_
      rw [exec_of_event rfl rfl, State.whileWorking_of_working hreset]
      exact congrArg _ (if_pos ⟨hrx, (s.receiverClosed_eq_false_iff _).mpr hopen⟩)
    · refine s.next_of_modPort (f := fun x => { x.goodFrame with rx := .hunting }) ?_
      rw [exec_of_event rfl rfl, State.whileWorking_of_working hreset]
      exact congrArg _ (if_pos ⟨by simp [hrx], (s.receiverClosed_eq_false_iff _).mpr hopen,
        Option.isSome_iff_ne_none.mpr hheld⟩)
    · refine s.next_of_modPort (f := fun x => { x with reply := none, sending := false }) ?_
      simp [exec, execReplySent, State.whileWorking_of_working hreset, State.takeHeld, Option.isSome_iff_ne_none, hreply, hheld,
        p.isLt]
  · have hclosed := (s.receiverClosed_eq_true_iff p.val).mpr ⟨hreply, hsending⟩
    obtain rfl | rfl | ⟨c, hc, rfl⟩ := hcase
    · simp [exec, execFrameOpening, State.whileWorking, hclosed]
    · simp [exec, execGoodFrameDiscarded, State.whileWorking, hclosed]
    · simp [exec, execFrameError, State.whileWorking, hclosed, hc]
  · refine s.next_of_modPort (f := fun x => { x with sending := true }) ?_
    have hfind : ([0, 1, 2, 3] : List (Fin 4)).find? (fun q => s.replyWaits q) = some p :=
      find?_four_eq_some (by simp [State.replyWaits, Option.isSome_iff_ne_none, hreply, hsending])
        fun q hq => (s.replyWaits_eq_false_iff q).mpr (hfirst q.val hq)
    unfold step
    rw [hqueue]
    simp only [State.idle, hreset, hfind]
    rfl

/-! ### PORT RESET (R175) -/

namespace State

variable {s : State} {p : Fin 4} {m : Nat} {d : ProgData}

theorem openProgram_eq_none_iff : s.openProgram p = none ↔ ∀ n d, (s.prog n).state ≠ .loading p d := by
  refine ⟨fun hopen n d hstate => ?_, fun hnone => ?_⟩
  · have hn := List.findSome?_eq_none_iff.mp hopen n (List.mem_range.mpr (lt_of_state_loading hstate))
    simp [hstate] at hn
  · cases hopen : s.openProgram p with
    | none => rfl
    | some found => exact absurd (state_of_openProgram hopen) (hnone found.1 found.2)

/-- The only LOADING program of a port is the one it has open (R77). -/
theorem openProgram_of_unique (hstate : (s.prog m).state = .loading p d)
    (hunique : ∀ n d', (s.prog n).state = .loading p d' → n = m) : s.openProgram p = some (m, d) := by
  cases hopen : s.openProgram p with
  | none => exact absurd hstate (openProgram_eq_none_iff.mp hopen m d)
  | some found =>
    obtain ⟨n, d'⟩ := found
    have hfound := state_of_openProgram hopen
    obtain rfl := hunique n d' hfound
    obtain ⟨-, rfl⟩ := ProgState.loading.inj (hstate.symm.trans hfound)
    rfl

/-- What PORT RESET leaves but for the abandonment: the port's own state and its attention state at rest. -/
def portCleared (p : Fin 4) (s : State) : State := (s.modPort p.val Port.afterBreak).modAttn p.val fun _ => Attention.reset

theorem exec_portReset (hreset : s.resetInput = false) : exec (.portReset p) s = .next ((s.portCleared p).abandonOf p) := by
  rw [exec_of_event rfl rfl, whileWorking_of_working hreset]
  rfl

/-- PORT RESET abandons the port's program (R175). -/
theorem abandonOf_portCleared_eq :
    (s.portCleared p).abandonOf p =
      { s with
        ports := (s.portCleared p).ports
        attention := (s.portCleared p).attention
        library := ((s.portCleared p).abandonOf p).library } := by
  rw [abandonOf_eq]
  rfl

end State

/-- Settles O8: the abandonment changes the library alone, and of it the port's only LOADING program. -/
theorem portResetActsOnItsPortAlone : Obligations.PortResetActsOnItsPortAlone := by
  intro s p hreset
  have hframe := s.abandonOf_portCleared_eq (p := p)
  have hports : ((s.portCleared p).abandonOf p).ports = (s.portCleared p).ports := by rw [hframe]
  have hattention : ((s.portCleared p).abandonOf p).attention = (s.portCleared p).attention := by rw [hframe]
  refine ⟨_, State.exec_portReset hreset, ?_, ?_, ?_, fun q hq => ⟨?_, ?_⟩, fun hnone => ?_, fun n d hstate hunique => ?_⟩
  · rw [hports, hattention]
    exact hframe
  · rw [State.port, hports]
    exact State.port_modPort_self s _ _ p.isLt
  · rw [State.attn, hattention]
    exact State.attn_modAttn_self _ _ _ p.isLt
  · rw [State.port, hports]
    exact State.port_modPort_ne s _ _ _ hq
  · rw [State.attn, hattention]
    exact State.attn_modAttn_ne _ _ _ _ hq
  · rw [State.abandonOf_of_none (s := s.portCleared p) (State.openProgram_eq_none_iff.mpr hnone)]
    rfl
  · have hopen : (s.portCleared p).openProgram p = some (n, d) := State.openProgram_of_unique hstate hunique
    rw [State.abandonOf_of_open hopen]
    refine ⟨?_, fun m hm => ?_, rfl, fun b => State.block_emptyProg _ _ _ _⟩
    · rw [State.prog_emptyProg, if_pos rfl]
      rfl
    · rw [State.prog_emptyProg, if_neg hm]
      rfl

/-! ### Latches (R180) -/

/-- The table of 11.6 has each kind at its own place. -/
theorem Kind.getElem?_all_index (k : Kind) : Kind.all[k.index]? = some k := by
  cases k <;> rfl

theorem Kind.index_inj {k k' : Kind} : k.index = k'.index ↔ k = k' := by
  refine ⟨fun hk => ?_, congrArg _⟩
  have hall := k.getElem?_all_index
  rw [hk, Kind.getElem?_all_index] at hall
  exact (Option.some.inj hall).symm

theorem Kind.index_lt (k : Kind) : k.index < 16 := by
  cases k <;> decide

theorem Kind.latchedUnder_iff (k : Kind) (mask : BitVec 7) :
    k.latchedUnder mask = true ↔ ∀ i, k.maskBit = some i → mask.getLsbD i = true := by
  unfold Kind.latchedUnder
  cases k.maskBit <;> simp

namespace Attention

variable (a : Attention) (k k' : Kind) (subject : Nat)

theorem mask_offer : (a.offer k subject).mask = a.mask := by
  unfold offer
  split <;> rfl

theorem latch_offer :
    (a.offer k subject).latch k' =
      if k' = k ∧ k.latchedUnder a.mask = true then some (Latch.after (a.latch k) subject) else a.latch k' := by
  unfold offer
  by_cases hunder : k.latchedUnder a.mask = true
  · by_cases hk : k' = k
    · subst hk
      simp [latch, hunder, k'.index_lt]
    · have hindex : k.index ≠ k'.index := fun h => hk (Kind.index_inj.mp h).symm
      simp [latch, hunder, hk, hindex]
  · simp [hunder]

end Attention

/-- Settles O9: an event is offered to every port, which latches it where it has it enabled. -/
theorem raisedEventLatchesAtEnabledPorts : Obligations.RaisedEventLatchesAtEnabledPorts := by
  intro s k k' subject p hp
  rw [State.attn_raise _ _ _ _ hp, Attention.latch_offer]
  refine ⟨Attention.mask_offer _ _ _, if_congr (and_congr_right fun _ => k.latchedUnder_iff _) ?_ rfl⟩
  cases (s.attn p).latch k with
  | none => rfl
  | some l => simp [Latch.after, satAdd, Nat.min_comm]

end Machine
end Sys2Proof
end

section
/-!
SUPPORT. Refusals (O3): a block that refuses hands its state back as it was, and no block but LAYOUT WRITE's touches the ports.
-/
namespace Sys2Proof
namespace Machine

/-- A block that answers another code than DONE hands back the state `s` (R177). -/
def Served.Spares (s : State) (o : Served) : Prop := o.code ≠ .done → o.state = s

@[simp] theorem State.spares_refuse (s : State) (c : Code) (k : Contents) : Served.Spares s (s.refuse c k) := fun _ => rfl

@[simp] theorem State.spares_done (s t : State) (k : Contents) : Served.Spares s (t.done k) := fun h => absurd rfl h

/-- No block leaves a change behind a refusal, but for SEQ APPEND's entries taken before the refused one (R5), the program that
PROG CLOSE abandons (R87) and the window that ARRIVE closes (R70). -/
theorem requestBlock_spares (i : Instr) (s : State) (happend : ∀ h es, i ≠ .seqAppend h es) (hclose : ∀ h n, i ≠ .progClose h n)
    (harrive : ∀ h j tag, i ≠ .arrive h j tag) : (requestBlock i s).Spares s := by
  cases i
  case seqAppend h es => exact absurd rfl (happend h es)
  case progClose h n => exact absurd rfl (hclose h n)
  case arrive h j tag => exact absurd rfl (harrive h j tag)
  all_goals
    simp only [requestBlock, statusBlock, queryBodyBlock, queryStationBlock, queryRobotBlock, queryProgramBlock, queryStyleBlock,
      querySetBlock, readAttentionBlock, setAttentionMaskBlock, seqSkipBlock, seqLoopOnBlock, seqLoopOffBlock, departBlock,
      pullBlock, reinsertBlock, scrapBlock, holdBlock, releaseBlock, clearStationBlock, robotEnableBlock, robotDisableBlock,
      dressRequestBlock, setSenseBlock, progOpenBlock, progDataBlock, progDeleteBlock, schedWriteDefineBlock, schedWriteClearBlock,
      stepperWriteBlock, setWriteBlock, setDeleteBlock, styleWriteBlock, styleWriteEffectivePsnBlock, styleCancelBlock,
      layoutWriteBlock, startBlock, stopBlock, trackResetBlock]
    (repeat' split) <;> simp only [State.spares_refuse, State.spares_done]

theorem requestBlock_ports (i : Instr) (s : State) (hlayout : ∀ h records, i ≠ .layoutWrite h records) :
    (requestBlock i s).state.ports = s.ports := by
  cases i
  case layoutWrite h records => exact absurd rfl (hlayout h records)
  all_goals simp [requestBlock]

/-- The reply an answered request leaves on its port (R178). -/
theorem State.reply_of_answered {s t : State} {h : Hdr} {kind : Byte} {c : Code} {k : Contents}
    (ha : State.answered h kind c k s t) :
    (t.port h.port.val).reply = some ⟨kind, h.id, c, (t.attn h.port.val).waiting, k⟩ := by
  obtain ⟨hport, -⟩ := ha
  rw [hport]

/-- A request that its port hands to its block is answered with the block's code and contents, on the state the block left. -/
theorem exec_request_of_grants {i : Instr} {h : Hdr} {kind : Byte} {g : Group} (hr : requestOf i = some (h, kind, g)) {s : State}
    (hl : s.listens h.port) (hg : (s.goodFrameOn h.port.val).portRefusal h.port g = none) {o : Served}
    (ho : requestBlock i (s.goodFrameOn h.port.val) = o) : exec i s = .next (o.state.sendReply h kind o.code o.contents) := by
  rw [exec_of_request hr, s.receive_of_listens hl, serveHeld_of_request hr, ← ho]
  simp only [State.serve, hg]

/-- Settles O3: the port refuses by itself, or the block answers; a refusal of the block spares the state, and the ports are
its reply's alone. -/
theorem refusedRequestChangesOnlyItsPort : Obligations.RefusedRequestChangesOnlyItsPort := by
  intro s i h kind g hr hlistens
  cases hg : (s.goodFrameOn h.port.val).portRefusal h.port g with
  | some c =>
    obtain ⟨t, hexec, hanswered, hframe⟩ := s.exec_request_of_portRefusal hr hlistens hg
    exact ⟨t, hexec, c, _, State.reply_of_answered hanswered, fun _ => hanswered, fun _ _ _ _ => hframe⟩
  | none =>
    generalize ho : requestBlock i (s.goodFrameOn h.port.val) = o
    have hspares : kind ≠ 0x10#8 → kind ≠ 0x32#8 → kind ≠ 0x20#8 → o.Spares (s.goodFrameOn h.port.val) := by
      intro happend hclose harrive
      rw [← ho]
      refine requestBlock_spares i _ (fun _ _ hi => ?_) (fun _ _ hi => ?_) (fun _ _ _ hi => ?_) <;> subst hi <;> cases hr
      · exact happend rfl
      · exact hclose rfl
      · exact harrive rfl
    have hports : o.code ≠ .done ∨ kind ≠ 0x3A#8 → o.state.ports = (s.goodFrameOn h.port.val).ports := by
      intro hc
      by_cases hlayout : ∃ h' records, i = .layoutWrite h' records
      · obtain ⟨h', records, rfl⟩ := hlayout
        cases hr
        have hrefused : o.code ≠ .done := hc.resolve_right fun h => h rfl
        rw [hspares (by decide) (by decide) (by decide) hrefused]
      · rw [← ho]
        exact requestBlock_ports i _ fun h' records hi => hlayout ⟨h', records, hi⟩
    refine ⟨_, exec_request_of_grants hr hlistens hg ho, o.code, o.contents, ?_, fun hc => ?_, fun hc h10 h32 h20 => ?_⟩
    · exact congrArg Port.reply (State.port_modPort_self _ _ _ h.port.isLt)
    · exact s.answered_sendReply (hports hc) kind o.code o.contents
    · rw [hspares h10 h32 h20 hc]
      rfl

end Machine
end Sys2Proof
end

section
/-!
SUPPORT. The Sequence Ring and the Admission Unit (O13 to O17): the entries of the ring as its indices move, and one equation for
each of the three things an admission attempt does to the tables.
-/
namespace Sys2Proof
namespace Machine
namespace State

/-- Two states are equal exactly where each field is. -/
theorem eq_iff_fields (s t : State) :
    s = t ↔ s.pending = t.pending ∧ s.due = t.due ∧ s.resetInput = t.resetInput ∧ s.mode = t.mode ∧ s.layout = t.layout ∧
      s.ring = t.ring ∧ s.styles = t.styles ∧ s.sets = t.sets ∧ s.bodies = t.bodies ∧ s.nextKey = t.nextKey ∧
      s.lineList = t.lineList ∧ s.stations = t.stations ∧ s.lines = t.lines ∧ s.library = t.library ∧
      s.schedules = t.schedules ∧ s.curves = t.curves ∧ s.robots = t.robots ∧ s.staging = t.staging ∧ s.pend = t.pend ∧
      s.buses = t.buses ∧ s.ports = t.ports ∧ s.attention = t.attention := by
  cases s
  cases t
  simp only [State.mk.injEq]

/-! ### Positions of a ring of length `L` -/

section
variable {r w L : Nat} (hr : r < L) (hw : w < L)
include hr hw

theorem span_eq : (w + L - r) % L = if r ≤ w then w - r else w + L - r := by
  split
  · next h =>
    rw [show w + L - r = (w - r) + L by omega, Nat.add_mod_right]
    exact Nat.mod_eq_of_lt (by omega)
  · exact Nat.mod_eq_of_lt (by omega)

omit hw in
theorem position_eq {i : Nat} (hi : i ≤ L) : (r + i) % L = if r + i < L then r + i else r + i - L := by
  split
  · next h => exact Nat.mod_eq_of_lt h
  · rw [Nat.mod_eq_sub_mod (by omega)]
    exact Nat.mod_eq_of_lt (by omega)

/-- The write index moving on raises the count. -/
theorem span_write_succ (hroom : (w + L - r) % L + 1 < L) : ((w + 1) % L + L - r) % L = (w + L - r) % L + 1 := by
  have hw' : (w + 1) % L < L := Nat.mod_lt _ (by omega)
  rw [span_eq hr hw] at hroom
  rw [span_eq hr hw', span_eq hr hw, position_eq hw (by omega)]
  split at hroom <;> split <;> split <;> omega

/-- The read index moving on lowers the count. -/
theorem span_read_succ {n : Nat} (hcount : (w + L - r) % L = n + 1) : (w + L - (r + 1) % L) % L = n := by
  have hr' : (r + 1) % L < L := Nat.mod_lt _ (by omega)
  rw [span_eq hr hw] at hcount
  rw [span_eq hr' hw, position_eq hr (by omega)]
  split at hcount <;> split <;> split <;> omega

/-- The write index is the position after the entries. -/
theorem position_span : (r + (w + L - r) % L) % L = w := by
  have hlt : (w + L - r) % L < L := Nat.mod_lt _ (by omega)
  rw [position_eq hr hlt.le, span_eq hr hw]
  split <;> split <;> omega

/-- No entry stands at the write index. -/
theorem position_ne_of_lt_span {i : Nat} (hi : i < (w + L - r) % L) : (r + i) % L ≠ w := by
  have hlt : (w + L - r) % L < L := Nat.mod_lt _ (by omega)
  rw [position_eq hr (by omega)]
  rw [span_eq hr hw] at hi
  split at hi <;> split <;> omega

end

/-! ### The entries -/

section
variable {s : State}

theorem ringCount_of_noLoop (hloop : s.ring.loop = none) :
    s.ringCount = (s.ring.write + s.line.ringLength - s.ring.read) % s.line.ringLength := by
  rw [ringCount, hloop]

theorem ringFirst_of_noLoop (hloop : s.ring.loop = none) : s.ringFirst = s.ring.read := by
  rw [ringFirst, hloop]

theorem ringEntries_of_noLoop (hloop : s.ring.loop = none) :
    s.ringEntries = (List.range s.ringCount).map fun i => s.ringCell ((s.ring.read + i) % s.line.ringLength) := by
  rw [ringEntries, ringFirst_of_noLoop hloop]

theorem ringEntries_congr {t : State} (hring : t.ring = s.ring) (hline : t.line = s.line) : t.ringEntries = s.ringEntries := by
  simp only [ringEntries, ringCount, ringFirst, ringCell, hring, hline]

/-- An entry appended to a ring with room for it is the last of its entries (R1, R5). -/
theorem ringCount_appendEntry (hloop : s.ring.loop = none) (hinv : s.ringInv) (hroom : s.ringCount + 1 < s.line.ringLength)
    (e : SeqEntry) : (s.appendEntry e).ringCount = s.ringCount + 1 := by
  obtain ⟨-, hread, hwrite, -⟩ := hinv
  rw [ringCount_of_noLoop hloop] at hroom ⊢
  exact (ringCount_of_noLoop (s := s.appendEntry e) hloop).trans (span_write_succ hread hwrite hroom)

theorem ringCell_appendEntry (e : SeqEntry) {i : Nat} (hi : i < 256) :
    (s.appendEntry e).ringCell i =
      if i = s.ring.write then ⟨s.ring.nextPsn, e.tag, e.model, e.trim, e.option⟩ else s.ringCell i := by
  change tget _ (tset s.ring.cells _ _) i = _
  rw [tget_tset]
  split
  · next h => rw [if_pos h.1]
  · next h => rw [if_neg fun hw => h ⟨hw, hw ▸ hi⟩]; rfl

theorem ringEntries_appendEntry (hloop : s.ring.loop = none) (hinv : s.ringInv) (hroom : s.ringCount + 1 < s.line.ringLength)
    (e : SeqEntry) :
    (s.appendEntry e).ringEntries = s.ringEntries ++ [⟨s.ring.nextPsn, e.tag, e.model, e.trim, e.option⟩] := by
  obtain ⟨hlength, hread, hwrite, -⟩ := id hinv
  rw [ringEntries_of_noLoop (s := s.appendEntry e) hloop, ringEntries_of_noLoop hloop, ringCount_appendEntry hloop hinv hroom e,
    List.range_succ, List.map_append]
  have hposition : ∀ i, (s.ring.read + i) % s.line.ringLength < 256 := fun i => by
    have := Nat.mod_lt (s.ring.read + i) (y := s.layout.line.ringLength) (by omega)
    change _ % s.layout.line.ringLength < 256
    omega
  congr 1
  · refine List.map_congr_left fun i hi => ?_
    rw [List.mem_range, ringCount_of_noLoop hloop] at hi
    exact (ringCell_appendEntry e (hposition i)).trans (if_neg (position_ne_of_lt_span hread hwrite hi))
  · rw [List.map_singleton]
    refine congrArg (· :: []) ((ringCell_appendEntry e (hposition _)).trans (if_pos ?_))
    rw [ringCount_of_noLoop hloop]
    exact position_span hread hwrite

/-- The entries behind the head stand at the read index that has moved past it (R1). -/
theorem ringEntries_of_read_succ {t : State} (hloop : s.ring.loop = none) (hinv : s.ringInv) {e : RingEntry}
    {rest : List RingEntry} (hentries : s.ringEntries = e :: rest) (hline : t.line = s.line)
    (hring : t.ring = { s.ring with read := (s.ring.read + 1) % s.line.ringLength, stalled := false }) :
    s.ringHead = e ∧ s.ringCount = rest.length + 1 ∧ t.ringEntries = rest := by
  obtain ⟨-, hread, hwrite, -⟩ := hinv
  have hcount : s.ringCount = rest.length + 1 := by rw [← length_ringEntries, hentries]; rfl
  have hloop' : t.ring.loop = none := by rw [hring, hloop]
  have hcount' : t.ringCount = rest.length := by
    rw [ringCount_of_noLoop hloop] at hcount
    rw [ringCount_of_noLoop hloop', hring, hline]
    exact span_read_succ hread hwrite hcount
  rw [ringEntries_of_noLoop hloop, hcount, List.range_succ_eq_map, List.map_cons, List.cons.injEq] at hentries
  obtain ⟨hhead, hrest⟩ := hentries
  refine ⟨?_, hcount, ?_⟩
  · rw [← hhead, Nat.add_zero, Nat.mod_eq_of_lt (show _ < s.line.ringLength from hread)]
    rfl
  · rw [List.map_map] at hrest
    rw [ringEntries_of_noLoop hloop', hcount']
    refine Eq.trans ?_ hrest
    refine List.map_congr_left fun i _ => ?_
    simp only [Function.comp_apply, ringCell, hring, hline, Nat.mod_add_mod]
    rw [Nat.add_assoc, Nat.add_comm 1 i]

theorem attention_ite {p : Prop} [Decidable p] (s t : State) :
    (if p then s else t).attention = if p then s.attention else t.attention :=
  apply_ite State.attention p s t

/-- A fall to the low mark raises RING LOW (R11). -/
theorem judgeLow_fall (n : Nat) (s : State) :
    s.judgeLow (n + 1) n =
      { s with attention := if s.line.lowMark = n then (s.raise .ringLow n).attention else s.attention } := by
  unfold judgeLow
  by_cases hlow : s.line.lowMark = n
  · rw [if_pos hlow, if_pos (by omega)]
    rfl
  · rw [if_neg hlow, if_neg (by omega)]

end

/-! ### A ring emptied (R10) -/

/-- The ring with the read index at the write index and loop mode off. -/
def emptied (s : State) : State := s.setRing { s.ring with read := s.ring.write, loop := none, stalled := false }

theorem ringEntries_of_read_eq_write (s : State) : s.emptied.ringEntries = [] := by
  rw [ringEntries_eq_nil_iff, ringCount_of_noLoop rfl]
  exact (congrArg (· % s.line.ringLength) (Nat.add_sub_cancel_left ..)).trans (Nat.mod_self _)

theorem emptyRing_of_loop {s : State} {l : LoopState} (hloop : s.ring.loop = some l) :
    s.emptyRing =
      { s.emptied with
        attention := if s.line.lowMark < l.length then (s.raise .ringLow 0).attention else s.attention } := by
  have hcount : s.ringCount = l.length := by rw [ringCount, hloop]
  rw [emptyRing, hcount]
  unfold judgeLow
  by_cases hlow : s.line.lowMark < l.length
  · rw [if_pos hlow]
    exact if_pos ⟨hlow, Nat.zero_le _⟩
  · rw [if_neg hlow]
    exact if_neg fun h => hlow h.1

/-! ### SEQ APPEND -/

section
variable {s : State}

theorem ringInv.appendEntry (hinv : s.ringInv) (e : SeqEntry) : (s.appendEntry e).ringInv := by
  obtain ⟨hlength, hread, hwrite, hloop⟩ := hinv
  exact ⟨hlength, hread, Nat.mod_lt _ (show 0 < s.layout.line.ringLength by omega), hloop⟩

theorem appendRefusal_eq_none (e : SeqEntry) (hroom : s.ringCount + 1 < s.line.ringLength)
    (htag : (∀ x ∈ s.ringEntries, x.tag ≠ e.tag) ∧ ∀ b ∈ s.bodies, b.tag ≠ e.tag) : s.appendRefusal e = none := by
  have hfull : ¬ s.line.ringLength - 1 ≤ s.ringCount := by omega
  have hfresh : ((s.ringEntries.any fun x => x.tag == e.tag) || (s.bodies.any fun b => b.tag == e.tag)) = false := by
    simpa [List.any_eq_false] using htag
  rw [appendRefusal, if_neg hfull, hfresh]
  rfl

/-- The ring entry an entry of a SEQ APPEND becomes at place `i` of the frame (R2). -/
def appendedEntry (next : Word) (i : Nat) (e : SeqEntry) : RingEntry :=
  ⟨next + BitVec.ofNat 16 i, e.tag, e.model, e.trim, e.option⟩

theorem appendedEntry_succ (next : Word) (i : Nat) : appendedEntry next (i + 1) = appendedEntry (next + 1#16) i := by
  funext e
  simp only [appendedEntry, BitVec.ofNat_add, BitVec.add_assoc, BitVec.add_comm (BitVec.ofNat 16 i)]

/-- Entries that fit and whose tags are new are all taken, in order, with consecutive PSNs (R2, R5). -/
theorem appendEntries_of_fit {es : List SeqEntry} (hloop : s.ring.loop = none) (hinv : s.ringInv)
    (hroom : s.ringCount + es.length < s.line.ringLength) (hnodup : (es.map (·.tag)).Nodup)
    (htags : ∀ e ∈ es, (∀ x ∈ s.ringEntries, x.tag ≠ e.tag) ∧ ∀ b ∈ s.bodies, b.tag ≠ e.tag) (k : Nat) :
    ∃ g, s.appendEntries es k = (s.setRing g, k + es.length, none) ∧
      (s.setRing g).ringEntries = s.ringEntries ++ es.mapIdx (appendedEntry s.ring.nextPsn) ∧
      g = { s.ring with
        cells := g.cells, write := g.write, nextPsn := s.ring.nextPsn + BitVec.ofNat 16 es.length } := by
  induction es generalizing s k with
  | nil => exact ⟨s.ring, rfl, by simp; rfl, by simp⟩
  | cons e rest ih =>
    rw [List.length_cons] at hroom
    obtain ⟨hfresh, hlater⟩ := List.pairwise_cons.mp hnodup
    have hroom' : s.ringCount + 1 < s.line.ringLength := by omega
    have hentries := ringEntries_appendEntry hloop hinv hroom' e
    obtain ⟨g, hg, hgentries, hgring⟩ := ih (s := s.appendEntry e) hloop (hinv.appendEntry e)
      (by rw [ringCount_appendEntry hloop hinv hroom' e]; change _ < s.line.ringLength; omega) hlater
      (fun x hx => by
        obtain ⟨hring, hbodies⟩ := htags x (List.mem_cons_of_mem _ hx)
        refine ⟨fun y hy => ?_, hbodies⟩
        rw [hentries, List.mem_append, List.mem_singleton] at hy
        obtain hy | rfl := hy
        · exact hring y hy
        · exact hfresh x.tag (List.mem_map_of_mem hx))
      (k + 1)
    refine ⟨g, ?_, ?_, ?_⟩
    · rw [appendEntries, appendRefusal_eq_none e hroom' (htags e List.mem_cons_self)]
      refine hg.trans ?_
      rw [List.length_cons, Nat.add_right_comm, Nat.add_assoc]
      rfl
    · refine hgentries.trans ?_
      rw [hentries, List.append_assoc, List.mapIdx_cons, List.singleton_append]
      simp only [appendedEntry_succ]
      simp [appendedEntry, State.appendEntry]
    · rw [hgring, List.length_cons, Nat.add_comm, BitVec.ofNat_add, ← BitVec.add_assoc]
      rfl

end

end State

section
variable {h : Hdr} {s : State} (hlen : h.lengthOk = true) (hrun : s.mode = .run)
include hlen hrun

/-- SEQ APPEND past the checks of its frame: the entries are examined in order (R5, R6). -/
theorem seqAppendBlock_of_checks {es : List SeqEntry} {k : Nat} {c : Option Code} {u : State} (hloop : s.ring.loop = none)
    (hmin : 1 ≤ es.length) (hmax : es.length ≤ 8) (happend : s.appendEntries es 0 = (u, k, c)) :
    seqAppendBlock h es s =
      ⟨if 0 < k then u.owe [.admission] else u, c.getD .done, .appended k u.ring.nextPsn⟩ := by
  have hsetup : s.mode ≠ .setup := by simp [hrun]
  have hrange : ¬ (h.lengthOk = false ∨ es.length = 0 ∨ 8 < es.length) := by
    simp only [hlen, Bool.true_eq_false, false_or]
    omega
  have hloop' : ¬ s.ring.loop.isSome = true := by simp [hloop]
  simp only [seqAppendBlock, if_neg hsetup, if_neg hrange, if_neg hloop', happend]
  split <;> rfl

end

/-- Settles O13: the entries that fit are taken one by one, and a first entry refused leaves the ring as it was. -/
theorem seqAppendTakesOrRefusesItsEntries : Obligations.SeqAppendTakesOrRefusesItsEntries := by
  refine ⟨fun s h es ⟨hlistens, hgrants, hlen⟩ hrun hloop hinv hmin hmax hroom hnodup htags => ?_,
    fun s h e es ⟨hlistens, hgrants, hlen⟩ hrun hloop hmax c hc => ?_⟩
  · have hroom' : s.ringCount + es.length < s.line.ringLength := by omega
    obtain ⟨g, hg, hentries, hring⟩ := State.appendEntries_of_fit (s := s.goodFrameOn h.port.val) hloop hinv hroom' hnodup htags 0
    have hblock := seqAppendBlock_of_checks (s := s.goodFrameOn h.port.val) hlen hrun hloop hmin hmax hg
    rw [Nat.zero_add, if_pos (Nat.lt_of_succ_le hmin)] at hblock
    have hnext : g.nextPsn = s.ring.nextPsn + BitVec.ofNat 16 es.length := by rw [hring]; rfl
    obtain ⟨hexec, hanswered⟩ := s.exec_request_of_block (i := .seqAppend h es) rfl hlistens hgrants hblock rfl
    refine ⟨_, hexec, ?_, hentries, hring, rfl⟩
    rw [← hnext]
    exact hanswered
  · have hrefusal : s.appendRefusal e = some c := by
      obtain ⟨rfl, hfull⟩ | ⟨rfl, hroom, htag⟩ := hc
      · exact if_pos hfull
      · have hused : ((s.ringEntries.any fun x => x.tag == e.tag) || (s.bodies.any fun b => b.tag == e.tag)) = true := by
          simpa using htag
        rw [State.appendRefusal, if_neg (not_le.mpr hroom), if_pos hused]
    have happend : (s.goodFrameOn h.port.val).appendEntries (e :: es) 0 = (s.goodFrameOn h.port.val, 0, some c) := by
      have hrefusal' : (s.goodFrameOn h.port.val).appendRefusal e = some c := hrefusal
      rw [State.appendEntries, hrefusal']
    exact s.exec_request_of_block_unchanged (i := .seqAppend h (e :: es)) rfl hlistens hgrants
      (seqAppendBlock_of_checks (s := s.goodFrameOn h.port.val) hlen hrun hloop (Nat.le_add_left 1 _) (by simpa using hmax) happend)

/-! ### SEQ SKIP and SEQ LOOP -/

section
variable {h : Hdr} {s : State} (hlen : h.lengthOk = true) (hrun : s.mode = .run)
include hlen hrun

/-- SEQ SKIP of a ring with a head entry (R7). -/
theorem seqSkipBlock_of_checks {n : Nat} (hloop : s.ring.loop = none) (hcount : s.ringCount = n + 1) :
    seqSkipBlock h s =
      (((s.setRing { s.ring with read := (s.ring.read + 1) % s.line.ringLength, stalled := false }).judgeLow (n + 1) n).owe
        [.admission]).done (.bodyName ⟨s.ringHead.tag, s.ringHead.psn⟩) := by
  simp [seqSkipBlock, hrun, hlen, hloop, hcount, State.advanceRead, State.setRing]

theorem seqSkipBlock_of_empty (hloop : s.ring.loop = none) (hcount : s.ringCount = 0) : seqSkipBlock h s = s.refuse .state := by
  simp [seqSkipBlock, hrun, hlen, hloop, hcount]

theorem seqSkipBlock_of_loop (hloop : s.ring.loop ≠ none) : seqSkipBlock h s = s.refuse .mode := by
  simp [seqSkipBlock, hrun, hlen, Option.isSome_iff_ne_none, hloop]

theorem seqLoopOnBlock_of_checks (hloop : s.ring.loop = none) (hcount : s.ringCount ≠ 0) (hbodies : s.bodies = []) :
    seqLoopOnBlock h true s =
      ((s.setRing { s.ring with loop := some ⟨s.ring.read, s.ringCount⟩ }).owe [.admission]).done := by
  simp [seqLoopOnBlock, hrun, hlen, hloop, hcount, hbodies]

theorem seqLoopOnBlock_of_refused (hstate : s.ring.loop ≠ none ∨ s.ringCount = 0 ∨ s.bodies ≠ []) :
    seqLoopOnBlock h true s = s.refuse .state := by
  rw [← Option.isSome_iff_ne_none] at hstate
  simp [seqLoopOnBlock, hrun, hlen, hstate]

theorem seqLoopOffBlock_of_loop {l : LoopState} (hloop : s.ring.loop = some l) : seqLoopOffBlock h true s = s.emptyRing.done := by
  simp [seqLoopOffBlock, hrun, hlen, hloop]

theorem seqLoopOffBlock_of_noLoop (hloop : s.ring.loop = none) : seqLoopOffBlock h true s = s.refuse .state := by
  simp [seqLoopOffBlock, hrun, hlen, hloop]

omit hlen in
theorem seqLoopBlock_of_unlisted {i : Instr} (hi : i = .seqLoopOn h false ∨ i = .seqLoopOff h false) :
    requestBlock i s = s.refuse .range := by
  obtain rfl | rfl := hi
  · simp [requestBlock, seqLoopOnBlock, hrun]
  · simp [requestBlock, seqLoopOffBlock, hrun]

end

/-- Settles O14: the read index moves past the head, and the count falls by one. -/
theorem seqSkipRemovesTheHead : Obligations.SeqSkipRemovesTheHead := by
  refine fun s h ⟨hlistens, hgrants, hlen⟩ hrun => ⟨fun e rest hloop hinv hentries => ?_, fun hloop hempty => ?_, fun hloop => ?_⟩
  · obtain ⟨hhead, hcount, hrest⟩ := State.ringEntries_of_read_succ
      (t := s.setRing { s.ring with read := (s.ring.read + 1) % s.line.ringLength, stalled := false }) hloop hinv hentries rfl rfl
    have hblock := seqSkipBlock_of_checks (s := s.goodFrameOn h.port.val) hlen hrun hloop hcount
    rw [State.judgeLow_fall] at hblock
    obtain ⟨hexec, hanswered⟩ := s.exec_request_of_block (i := .seqSkip h) rfl hlistens hgrants hblock rfl
    subst hhead
    exact ⟨_, hexec, hanswered, hrest, rfl, by rw [State.attention_ite]; rfl, rfl⟩
  · exact s.exec_request_of_block_unchanged (i := .seqSkip h) rfl hlistens hgrants
      (seqSkipBlock_of_empty (s := s.goodFrameOn h.port.val) hlen hrun hloop (s.ringEntries_eq_nil_iff.mp hempty))
  · exact s.exec_request_of_block_unchanged (i := .seqSkip h) rfl hlistens hgrants
      (seqSkipBlock_of_loop (s := s.goodFrameOn h.port.val) hlen hrun hloop)

/-- Settles O15: ON records the loop, OFF empties the ring, and each refusal changes the ports alone. -/
theorem seqLoopStartsAndEndsReplay : Obligations.SeqLoopStartsAndEndsReplay := by
  refine ⟨fun s h ⟨hlistens, hgrants, hlen⟩ hrun => ⟨fun hloop hcount hbodies => ?_, fun hstate => ?_⟩,
    fun s h ⟨hlistens, hgrants, hlen⟩ hrun => ⟨fun l hloop => ?_, fun hloop => ?_⟩,
    fun s h i ⟨hlistens, hgrants, hlen⟩ hrun hi => ?_⟩
  · have hblock := seqLoopOnBlock_of_checks (s := s.goodFrameOn h.port.val) hlen hrun hloop hcount hbodies
    obtain ⟨hexec, hanswered⟩ := s.exec_request_of_block (i := .seqLoopOn h true) rfl hlistens hgrants hblock rfl
    exact ⟨_, hexec, hanswered, rfl⟩
  · exact s.exec_request_of_block_unchanged (i := .seqLoopOn h true) rfl hlistens hgrants
      (seqLoopOnBlock_of_refused (s := s.goodFrameOn h.port.val) hlen hrun hstate)
  · have hblock := seqLoopOffBlock_of_loop (s := s.goodFrameOn h.port.val) hlen hrun hloop
    rw [State.emptyRing_of_loop (s := s.goodFrameOn h.port.val) hloop] at hblock
    obtain ⟨hexec, hanswered⟩ := s.exec_request_of_block (i := .seqLoopOff h true) rfl hlistens hgrants hblock rfl
    exact ⟨_, hexec, hanswered, s.ringEntries_of_read_eq_write, rfl, by rw [State.attention_ite]; rfl, rfl⟩
  · exact s.exec_request_of_block_unchanged (i := .seqLoopOff h true) rfl hlistens hgrants
      (seqLoopOffBlock_of_noLoop (s := s.goodFrameOn h.port.val) hlen hrun hloop)
  · have hr : requestOf i = some (h, 0x12, .sequence) := by obtain rfl | rfl := hi <;> rfl
    exact s.exec_request_of_block_unchanged hr hlistens hgrants
      (seqLoopBlock_of_unlisted (s := s.goodFrameOn h.port.val) hrun hi)

end Machine
end Sys2Proof
end

section
/-!
SUPPORT. The admission attempt (O16, O17): the promotion ahead of it, and what each of its two ends does to the tables.
-/
namespace Sys2Proof
namespace Machine
namespace State

/-! ### Promotion (R17) -/

/-- Whether style `i` has a pending part that a comparison PSN promotes is what `promoted` says (R17). -/
def Promotes (s : State) (i : Nat) (psn : Word) (promoted : Bool) : Prop :=
  (s.style i).pending = none ∧ promoted = false ∨
    ∃ p, (s.style i).pending = some p ∧ promoted = decide ((psn - p.effective).toNat < 32768)

/-- The part that is current once a promotion has, or has not, been made. -/
def partAfter (s : State) (i : Nat) (promoted : Bool) : StylePart :=
  if promoted then (s.style i).pending.elim .unknown (·.part) else (s.style i).current

section
variable {s : State} {i : Nat} {psn : Word} {promoted : Bool}

theorem promote_eq (h : s.Promotes i psn promoted) :
    s.promote i psn =
      if promoted then
        ((s.setStyle i ⟨s.partAfter i true, none⟩).dropNaming (s.style i).current.setNo).raise .changeoverTaken i
      else s := by
  unfold promote
  obtain ⟨hnone, rfl⟩ | ⟨p, hp, rfl⟩ := h
  · simp [hnone]
  · simp [hp, psnAtOrAfter, partAfter]

theorem attention_promote (h : s.Promotes i psn promoted) :
    (s.promote i psn).attention = (if promoted then s.raise .changeoverTaken i else s).attention := by
  rw [promote_eq h, attention_ite, attention_ite, attention_raise]
  simp

theorem style_promote (h : s.Promotes i psn promoted) (j : Nat) :
    (s.promote i psn).style j = if j = i ∧ promoted then ⟨s.partAfter i promoted, none⟩ else s.style j := by
  rw [promote_eq h]
  cases promoted with
  | false => simp
  | true =>
    have hi : i < 256 := by
      obtain ⟨-, hfalse⟩ | ⟨p, hp, -⟩ := h
      · cases hfalse
      · by_contra hi
        rw [style, tget_of_ge _ _ _ (not_lt.mp hi)] at hp
        cases hp
    simp only [style]
    by_cases hj : j = i <;> simp [hj, hi]

theorem setNo_eq_some_iff (p : StylePart) (k : Nat) : p.setNo = some k ↔ p = .weld k := by
  cases p <;> simp [StylePart.setNo]

theorem dispatchSet_promote (h : s.Promotes i psn promoted) (k : Nat) :
    (s.promote i psn).dispatchSet k =
      { s.dispatchSet k with
        inUse := (s.dispatchSet k).inUse - if promoted ∧ (s.style i).current = .weld k then 1 else 0 } := by
  rw [promote_eq h]
  cases promoted with
  | false => simp
  | true =>
    change ((s.setStyle i _).dropNaming _).dispatchSet k = _
    simp only [dispatchSet_dropNaming, setNo_eq_some_iff, true_and]
    rfl

theorem current_promote (h : s.Promotes i psn promoted) : ((s.promote i psn).style i).current = s.partAfter i promoted := by
  rw [style_promote h]
  cases promoted <;> simp [partAfter]

end

/-- The state after an attempt that promotes differs from the one before in the styles, the sets and the latches. -/
theorem promote_frame_eq (s : State) (i : Nat) (psn : Word) :
    s.promote i psn =
      { s with
        styles := (s.promote i psn).styles, sets := (s.promote i psn).sets, attention := (s.promote i psn).attention } := by
  rw [eq_iff_fields]
  simp

/-! ### The record joins the tables (R19) -/

/-- The head entry's record with binding `b` in the Body Table and at the tail of the Line List, its set named. -/
def joined (b : Binding) (s : State) : State :=
  let t : State := { s with
    bodies := s.bodies ++ [s.newBody b], nextKey := s.nextKey + 1, lineList := s.lineList ++ [(s.newBody b).key] }
  if b = .reject then (t.addNaming b.setNo).raise .bodyIncomplete (s.newBody b).tag.toNat else t.addNaming b.setNo

theorem admitHead_eq (b : Binding) (s : State) : s.admitHead b = (s.joined b).passHead.oweAll := rfl

theorem joined_frame_eq (b : Binding) (s : State) :
    s.joined b =
      { s with
        bodies := s.bodies ++ [s.newBody b], nextKey := s.nextKey + 1, lineList := s.lineList ++ [s.nextKey],
        sets := (s.addNaming b.setNo).sets,
        attention := (if b = .reject then s.raise .bodyIncomplete s.ringHead.tag.toNat else s).attention } := by
  cases b <;> rfl

/-! ### The head passes (R2, R9) -/

/-- Outside loop mode the head leaves the ring, which is judged by the low mark (R11). -/
theorem passHead_of_noLoop {s : State} {n : Nat} (hloop : s.ring.loop = none) (hcount : s.ringCount = n + 1) :
    s.passHead =
      { s with
        ring := { s.ring with read := (s.ring.read + 1) % s.line.ringLength, stalled := false }
        attention := if s.line.lowMark = n then (s.raise .ringLow n).attention else s.attention } := by
  unfold passHead
  rw [hloop, hcount]
  exact judgeLow_fall n _

/-- In loop mode the read index goes on, and Next PSN with it (R9). -/
theorem passHead_of_loop {s : State} {l : LoopState} (hloop : s.ring.loop = some l) :
    s.passHead =
      { s with
        ring := { s.ring with
          read := if (s.ring.read + 1) % s.line.ringLength = s.ring.write then l.start
            else (s.ring.read + 1) % s.line.ringLength
          nextPsn := s.ring.nextPsn + 1
          stalled := false } } := by
  unfold passHead
  rw [hloop]
  rfl

/-- The latches once the record of the head has joined with binding `b` (R19). -/
def joinedAttention (b : Binding) (s : State) : State :=
  if b = .reject then s.raise .bodyIncomplete s.ringHead.tag.toNat else s

theorem admitHead_of_noLoop {s : State} {n : Nat} (b : Binding) (hloop : s.ring.loop = none) (hcount : s.ringCount = n + 1) :
    s.admitHead b =
      { s with
        bodies := s.bodies ++ [s.newBody b], nextKey := s.nextKey + 1, lineList := s.lineList ++ [s.nextKey],
        sets := (s.addNaming b.setNo).sets,
        ring := { s.ring with read := (s.ring.read + 1) % s.line.ringLength, stalled := false }
        attention := (if s.line.lowMark = n then (s.joinedAttention b).raise .ringLow n else s.joinedAttention b).attention
        due := s.due ++ s.presentRobots.map .recompute } := by
  rw [admitHead_eq, passHead_of_noLoop (s := s.joined b) (n := n) (by rwa [joined_frame_eq]) (by rwa [joined_frame_eq]),
    attention_ite, joined_frame_eq]
  rfl

theorem admitHead_of_loop {s : State} {l : LoopState} (b : Binding) (hloop : s.ring.loop = some l) :
    s.admitHead b =
      { s with
        bodies := s.bodies ++ [s.newBody b], nextKey := s.nextKey + 1, lineList := s.lineList ++ [s.nextKey],
        sets := (s.addNaming b.setNo).sets,
        ring := { s.ring with
          read := if (s.ring.read + 1) % s.line.ringLength = s.ring.write then l.start
            else (s.ring.read + 1) % s.line.ringLength
          nextPsn := s.ring.nextPsn + 1
          stalled := false }
        attention := (s.joinedAttention b).attention
        due := s.due ++ s.presentRobots.map .recompute } := by
  rw [admitHead_eq, passHead_of_loop (s := s.joined b) (by rwa [joined_frame_eq]), joined_frame_eq]
  rfl

/-- A promotion bears on none of the fields of the head's record but its binding. -/
theorem newBody_promote (s : State) (i : Nat) (psn : Word) (b : Binding) : (s.promote i psn).newBody b = s.newBody b := by
  rw [promote_frame_eq]
  rfl

theorem binding_setNo_eq_some_iff (b : Binding) (k : Nat) : b.setNo = some k ↔ b = .weld k := by
  cases b <;> simp [Binding.setNo]

/-! ### The attempt -/

section
variable {s : State} (hreset : s.resetInput = false)
include hreset

theorem exec_admissionAttempt : exec .admissionAttempt s = .next (s.discharge .admission).admitNext := by
  rw [exec_of_event rfl rfl, whileWorking_of_working hreset]
  rfl

/-- An attempt that fails one of the first four conditions of R12 is discharged. -/
theorem exec_admissionAttempt_of_closed
    (hclosed : s.mode = .setup ∨ s.ringCount = 0 ∨ 48 ≤ s.bodies.length ∨ s.line.lead ≤ s.admittedCount) :
    exec .admissionAttempt s = .next (s.discharge .admission) := by
  have hopen : (s.discharge .admission).admissionOpen = false := by
    rw [← Bool.not_eq_true, admissionOpen_iff]
    change ¬ (s.mode = .run ∧ s.ringCount ≠ 0 ∧ s.bodies.length < 48 ∧ s.admittedCount < s.line.lead)
    rintro ⟨hrun, hcount, hcapacity, hlead⟩
    obtain hsetup | hzero | hfull | hlead' := hclosed
    · simp [hrun] at hsetup
    · exact hcount hzero
    · omega
    · omega
  rw [exec_admissionAttempt hreset, admitNext, hopen]
  rfl

variable (hrun : s.mode = .run) (hcount : s.ringCount ≠ 0) (hcapacity : s.bodies.length < 48)
  (hlead : s.admittedCount < s.line.lead)
include hrun hcount hcapacity hlead

/-- An attempt that meets the conditions promotes, and then holds the head or admits it (R12, R17 to R19). -/
theorem exec_admissionAttempt_of_open {i : Nat} {psn : Word} (hi : i = s.headStyle) (hpsn : psn = s.comparisonPsn) {t : State}
    (ht : t = (s.discharge .admission).promote i psn) :
    exec .admissionAttempt s = .next (match t.bindingFor i with
      | none => t.stallHead
      | some b => (t.admitHead b).attemptAgain) := by
  have hopen : (s.discharge .admission).admissionOpen = true :=
    (admissionOpen_iff _).mpr ⟨hrun, hcount, hcapacity, hlead⟩
  rw [exec_admissionAttempt hreset, admitNext, if_pos hopen]
  subst hi hpsn ht
  rfl

end

/-- The onset of a hold sets the stall indication, and raises ADMISSION STALLED where it was clear (R14). -/
theorem stallHead_eq (s : State) :
    s.stallHead =
      { s with
        ring := { s.ring with stalled := true }
        attention := (if s.ring.stalled then s else s.raise .admissionStalled s.ringHead.tag.toNat).attention } := by
  unfold stallHead
  split
  · next hstalled => rw [← hstalled]
  · rfl

theorem bindingFor_eq_none {s : State} {i : Nat} (hpart : (s.style i).current = .unknown) (hpolicy : s.line.policy = .hold) :
    s.bindingFor i = none := by
  rw [bindingFor, hpart]
  exact if_pos hpolicy

theorem bindingFor_eq_some {s : State} {i : Nat} {part : StylePart} {b : Binding} (hpart : (s.style i).current = part)
    (hb : (∃ k, part = .weld k ∧ b = .weld k) ∨ part = .pass ∧ b = .pass ∨ part = .reject ∧ b = .reject ∨
      part = .unknown ∧ s.line.policy = .pass ∧ b = .pass) : s.bindingFor i = some b := by
  rw [bindingFor, hpart]
  obtain ⟨k, rfl, rfl⟩ | ⟨rfl, rfl⟩ | ⟨rfl, rfl⟩ | ⟨rfl, hpolicy, rfl⟩ := hb
  · rfl
  · rfl
  · rfl
  · exact if_neg (by simp [hpolicy])

theorem ringHead_eq_of_getElem? {s : State} {e : RingEntry} (he : s.ring.cells[s.ring.read]? = some e) : s.ringHead = e := by
  rw [ringHead, ringCell, tget, he]
  rfl

theorem comparisonPsn_of_noLoop {s : State} (hloop : s.ring.loop = none) : s.comparisonPsn = s.ringHead.psn := by
  simp [comparisonPsn, hloop]

theorem comparisonPsn_of_loop {s : State} (hloop : s.ring.loop ≠ none) : s.comparisonPsn = s.ring.nextPsn := by
  simp [comparisonPsn, Option.isSome_iff_ne_none, hloop]

end State

/-- Settles O17: a part that stays UNKNOWN under HOLD binds nothing, so the head is stalled, after the promotion where there is
one. -/
theorem admissionAttemptHoldsPromotesOrStaysClosed : Obligations.AdmissionAttemptHoldsPromotesOrStaysClosed := by
  refine ⟨fun s i psn promoted hreset hrun hcount hcapacity hlead hpolicy hi hpsn hpart => ?_,
    fun s hreset hclosed => State.exec_admissionAttempt_of_closed hreset hclosed⟩
  have hcomparison : psn = s.comparisonPsn := by
    obtain ⟨hloop, rfl⟩ | ⟨hloop, rfl⟩ := hpsn
    · exact (State.comparisonPsn_of_noLoop hloop).symm
    · exact (State.comparisonPsn_of_loop hloop).symm
  have hpromotes : (s.discharge .admission).Promotes i psn promoted := by
    obtain ⟨rfl, -, hbefore⟩ | ⟨rfl, p, hp, -, hreached⟩ := hpart
    · cases hp : (s.style i).pending with
      | none => exact .inl ⟨hp, rfl⟩
      | some p => exact .inr ⟨p, hp, by simpa using hbefore p hp⟩
    · exact .inr ⟨p, hp, by simpa using hreached⟩
  have hunknown : (s.discharge .admission).partAfter i promoted = .unknown := by
    obtain ⟨rfl, hcurrent, -⟩ | ⟨rfl, p, hp, hunknown, -⟩ := hpart
    · exact hcurrent
    · change (s.style i).pending.elim _ _ = _
      rw [hp]
      exact hunknown
  have hbinding : ((s.discharge .admission).promote i psn).bindingFor i = none :=
    State.bindingFor_eq_none ((State.current_promote hpromotes).trans hunknown) (by simpa [State.line] using hpolicy)
  have hexec := State.exec_admissionAttempt_of_open hreset hrun hcount hcapacity hlead hi hcomparison rfl
  rw [hbinding, State.stallHead_eq, State.promote_frame_eq] at hexec
  refine ⟨_, hexec, fun j => ?_, fun k hk => State.dispatchSet_promote hpromotes k, ⟨_, rfl, ?_⟩, rfl⟩
  · exact (State.style_promote hpromotes j).trans (by rw [hunknown]; rfl)
  · simp only [State.attention_ite, State.attention_raise, State.attention_promote hpromotes]
    rfl

namespace State

section
variable {s u : State} {e : RingEntry} {i : Nat} {psn : Word} {part : StylePart} {b : Binding} {promoted : Bool}

/-- The head's record, field by field (R19). -/
theorem newBody_of_head (hhead : s.ringHead = e) (hi : i = s.headStyle) (hpsn : psn = s.comparisonPsn) :
    s.newBody b = ⟨s.nextKey, psn, e.tag, e.model, e.trim, e.option, i, b, s.ring.loop.isSome, .admitted,
      .replicate 16 .pending, .replicate 32 none, none, 0, b == .reject, 0⟩ := by
  subst hhead hi hpsn
  rfl

/-- The namings once the head has been admitted: the promoted part's set has lost one, the binding's has gained one (R33). -/
theorem dispatchSet_addNaming_promote (h : s.Promotes i psn promoted) {k : Nat} (hk : k < 128) :
    ((s.promote i psn).addNaming b.setNo).dispatchSet k =
      { s.dispatchSet k with
        inUse := (s.dispatchSet k).inUse - (if promoted ∧ (s.style i).current = .weld k then 1 else 0) +
          if b = .weld k then 1 else 0 } := by
  rw [dispatchSet_addNaming _ _ _ hk, dispatchSet_promote h]
  simp only [binding_setNo_eq_some_iff]

/-- What an attempt that admits the head raises, RING LOW apart (R17, R19). -/
theorem attention_joined_promote (h : s.Promotes i psn promoted) (hhead : s.ringHead = e) {v : State}
    (hv : v.attention = s.attention)
    (hu : u = (if b = .reject then (if promoted then v.raise .changeoverTaken i else v).raise .bodyIncomplete e.tag.toNat
      else if promoted then v.raise .changeoverTaken i else v)) :
    ((s.promote i psn).joinedAttention b).attention = u.attention := by
  have hhead' : (s.promote i psn).ringHead = e := by
    rw [promote_frame_eq]
    exact hhead
  rw [hu]
  simp only [joinedAttention, hhead', attention_ite, attention_raise, attention_promote h, hv]

end

end State

/-- Settles O16: the head's part is bound, its record joins the tables, and the ring goes on. -/
theorem admissionAttemptAdmitsTheHead : Obligations.AdmissionAttemptAdmitsTheHead := by
  intro s u e i part b promoted hreset hrun hinv hcapacity hlead hi hpromoted hpart hb hu
  have hpart' : (s.discharge .admission).partAfter i promoted = part := hpart.symm
  have hbinding : ∀ psn, (s.discharge .admission).Promotes i psn promoted →
      ((s.discharge .admission).promote i psn).bindingFor i = some b := fun psn h =>
    State.bindingFor_eq_some ((State.current_promote h).trans hpart') (by simpa [State.line] using hb)
  refine ⟨fun rest hloop hentries => ?_, fun l hloop hcell => ?_⟩
  · obtain ⟨hhead, hcount, hrest⟩ := State.ringEntries_of_read_succ
      (t := s.setRing { s.ring with read := (s.ring.read + 1) % s.line.ringLength, stalled := false }) hloop hinv hentries rfl rfl
    have hpsn : e.psn = s.comparisonPsn := by rw [State.comparisonPsn_of_noLoop hloop, hhead]
    have hstyle : i = s.headStyle := by rw [hi, State.headStyle, hhead]
    rw [if_pos hloop] at hpromoted
    have hpromotes : (s.discharge .admission).Promotes i e.psn promoted := hpromoted
    have hexec := State.exec_admissionAttempt_of_open hreset hrun (by omega) hcapacity hlead hstyle hpsn rfl
    rw [hbinding _ hpromotes] at hexec
    dsimp only at hexec
    rw [State.admitHead_of_noLoop b (by simpa using hloop) (by rw [State.promote_frame_eq]; exact hcount), State.newBody_promote,
      State.newBody_of_head (s := s.discharge .admission) hhead hstyle hpsn] at hexec
    refine ⟨_, hexec, ?_, ?_, ?_, ?_, fun j => ?_, fun k hk => State.dispatchSet_addNaming_promote hpromotes hk, ?_, ?_, ?_⟩
    · simp [State.attemptAgain, hloop, State.discharge]
    · simp [State.attemptAgain, State.discharge]
    · refine Eq.trans (State.ringEntries_congr ?_ ?_) hrest
      · simp [State.attemptAgain, State.discharge, State.line]
      · simp [State.attemptAgain, State.discharge, State.line]
    · simp [State.attemptAgain, State.discharge]
    · rw [← hpart']
      exact State.style_promote hpromotes j
    · change (if _ then _ else _ : State).attention = _
      simp only [State.attention_ite, State.attention_raise]
      have hline : ((s.discharge .admission).promote i e.psn).line = s.line := by
        rw [State.promote_frame_eq]
        rfl
      rw [State.attention_joined_promote (v := s) hpromotes hhead rfl hu, hline]
    · simp [State.attemptAgain, State.discharge, State.presentRobots, State.place]
    · rw [State.eq_iff_fields]
      simp [State.attemptAgain, State.discharge]
  · have hhead : s.ringHead = e := State.ringHead_eq_of_getElem? hcell
    have hsome : s.ring.loop ≠ none := by simp [hloop]
    have hpsn : s.ring.nextPsn = s.comparisonPsn := (State.comparisonPsn_of_loop hsome).symm
    have hstyle : i = s.headStyle := by rw [hi, State.headStyle, hhead]
    have hcount : s.ringCount ≠ 0 := by
      obtain ⟨-, -, -, hlength⟩ := hinv
      have hmin := (hlength l hloop).2.1
      rw [State.ringCount, hloop]
      exact Nat.ne_of_gt hmin
    rw [if_neg hsome] at hpromoted
    have hpromotes : (s.discharge .admission).Promotes i s.ring.nextPsn promoted := hpromoted
    have hexec := State.exec_admissionAttempt_of_open hreset hrun hcount hcapacity hlead hstyle hpsn rfl
    rw [hbinding _ hpromotes] at hexec
    dsimp only at hexec
    rw [State.admitHead_of_loop (l := l) b (by simpa using hloop), State.newBody_promote,
      State.newBody_of_head (s := s.discharge .admission) hhead hstyle hpsn] at hexec
    refine ⟨_, hexec, ?_, ?_, ?_, ?_, fun j => ?_, fun k hk => State.dispatchSet_addNaming_promote hpromotes hk, ?_⟩
    · simp [State.attemptAgain, hloop, State.discharge]
    · simp [State.attemptAgain, State.discharge]
    · simp [State.ringEntries, State.ringCount, State.ringFirst, State.ringCell, State.line, State.attemptAgain,
        State.discharge, hloop]
    · rw [State.promote_frame_eq]
      rfl
    · rw [← hpart']
      exact State.style_promote hpromotes j
    · rw [State.attention_joined_promote (v := s) hpromotes hhead rfl hu, State.eq_iff_fields]
      simp [State.attemptAgain, State.discharge, State.presentRobots, State.place]

end Machine
end Sys2Proof
end

section
/-!
SUPPORT. The Style Table (O18) and the Schedule Table (O34): one lemma for the installing of a style entry with its namings, which
the three style requests share, and the checks of SCHED WRITE and STEPPER WRITE.
-/
namespace Sys2Proof
namespace Machine
namespace State

/-- Style `i` becomes `e`; one set gains a naming and one loses it (R23 to R25, R33). -/
def installStyle (i : Nat) (e : StyleEntry) (gained lost : Option Nat) (s : State) : State :=
  ((s.setStyle i e).addNaming gained).dropNaming lost

section
variable (s : State) (i : Nat) (e : StyleEntry) (gained lost : Option Nat)

theorem styles_installStyle : (s.installStyle i e gained lost).styles = tset s.styles i e := by
  simp [installStyle]

theorem dispatchSet_installStyle {k : Nat} (hk : k < 128) :
    (s.installStyle i e gained lost).dispatchSet k =
      { s.dispatchSet k with
        inUse := (s.dispatchSet k).inUse + (if gained = some k then 1 else 0) - if lost = some k then 1 else 0 } := by
  rw [installStyle, dispatchSet_dropNaming, dispatchSet_addNaming _ _ _ hk]
  rfl

theorem installStyle_eq :
    s.installStyle i e gained lost =
      { s with
        styles := (s.installStyle i e gained lost).styles, sets := (s.installStyle i e gained lost).sets } := by
  rw [eq_iff_fields]
  simp [installStyle]

theorem styleContents_installStyle (p : StylePart) (q : Option PendingPart) (hi : i < 256) :
    ((s.installStyle i ⟨p, q⟩ gained lost).owe [.admission]).styleContents i = .style p q := by
  have hstyle : ((s.installStyle i ⟨p, q⟩ gained lost).owe [.admission]).style i = ⟨p, q⟩ := by
    rw [style, styles_owe, styles_installStyle, tget_tset_self _ _ _ _ hi]
  rw [styleContents, hstyle]

/-- What a request does that installs a style entry and owes an admission attempt (R13). -/
theorem exec_request_of_installStyle {x : Instr} {h : Hdr} {kind : Byte} {g : Group} (hr : requestOf x = some (h, kind, g))
    (hl : s.listens h.port) (hg : s.grants h.port g) (hi : i < 256) {u : State} {k : Contents}
    (hu : u = (s.goodFrameOn h.port.val).installStyle i e gained lost)
    (hb : requestBlock x (s.goodFrameOn h.port.val) = (u.owe [.admission]).done k) :
    ∃ t, exec x s = .next t ∧ answered h kind .done k s t ∧ t.style i = e ∧ (∀ j, j ≠ i → t.style j = s.style j) ∧
      (∀ m, m < 128 → t.dispatchSet m = { s.dispatchSet m with
        inUse := (s.dispatchSet m).inUse + (if gained = some m then 1 else 0) - if lost = some m then 1 else 0 }) ∧
      t = { s with ports := t.ports, styles := t.styles, sets := t.sets, due := s.due ++ [.admission] } := by
  subst hu
  obtain ⟨hexec, hanswered⟩ := s.exec_request_of_block hr hl hg hb (by rw [installStyle_eq]; rfl)
  refine ⟨_, hexec, hanswered, ?_, fun j hj => ?_, fun m hm => dispatchSet_installStyle _ _ _ _ _ hm, ?_⟩
  · change tget _ (State.styles (installStyle ..)) i = e
    rw [styles_installStyle, tget_tset_self _ _ _ _ hi]
  · change tget _ (State.styles (installStyle ..)) j = _
    rw [styles_installStyle, tget_tset_ne _ _ _ _ _ hj]
    rfl
  · rw [installStyle_eq]
    rfl

end

/-- What a disposition and a set number that pass the checks of R22 write. -/
def Writes (s : State) (setNo : Nat) (d : Disposition) (p : StylePart) : Prop :=
  d = .weld ∧ setNo < 128 ∧ (s.dispatchSet setNo).entries ≠ none ∧ p = .weld setNo ∨ d = .unknown ∧ p = .unknown ∨
    d = .pass ∧ p = .pass ∨ d = .reject ∧ p = .reject

section
variable {s : State} {i setNo : Nat}

theorem styleActive_iff : s.styleActive i = true ↔ i < activeStyles s.line.m s.line.n := by
  simp [styleActive]

theorem lt_of_active (hi : i < activeStyles s.line.m s.line.n) : i < 256 :=
  hi.trans_le (min_le_left _ _)

theorem styleRefusal_of_writes {d : Disposition} {p : StylePart} (hi : i < activeStyles s.line.m s.line.n)
    (hd : s.Writes setNo d p) : s.styleRefusal i (some d) setNo = none ∧ partOf d setNo = p := by
  have hactive := styleActive_iff.mpr hi
  obtain ⟨rfl, hset, hdefined, rfl⟩ | ⟨rfl, rfl⟩ | ⟨rfl, rfl⟩ | ⟨rfl, rfl⟩ := hd
  · exact ⟨by simp [styleRefusal, hactive, Config.setCount, hset, hdefined], rfl⟩
  · exact ⟨by simp [styleRefusal, hactive], rfl⟩
  · exact ⟨by simp [styleRefusal, hactive], rfl⟩
  · exact ⟨by simp [styleRefusal, hactive], rfl⟩

theorem styleRefusal_of_refused {d : Option Disposition} {c : Code}
    (hc : activeStyles s.line.m s.line.n ≤ i ∧ c = .range ∨
      i < activeStyles s.line.m s.line.n ∧
        (d = none ∧ c = .range ∨ d = some .weld ∧ 128 ≤ setNo ∧ c = .range ∨
          d = some .weld ∧ setNo < 128 ∧ (s.dispatchSet setNo).entries = none ∧ c = .unknown)) :
    s.styleRefusal i d setNo = some c := by
  obtain ⟨hi, rfl⟩ | ⟨hi, hc⟩ := hc
  · have hinactive : s.styleActive i = false := by simp [styleActive, hi]
    simp [styleRefusal, hinactive]
  · have hactive := styleActive_iff.mpr hi
    obtain ⟨rfl, rfl⟩ | ⟨rfl, hset, rfl⟩ | ⟨rfl, hset, hundefined, rfl⟩ := hc
    · simp [styleRefusal, hactive]
    · simp [styleRefusal, hactive, Config.setCount, hset]
    · simp [styleRefusal, hactive, Config.setCount, hset, hundefined]

theorem pendingSet_eq_some_iff (e : StyleEntry) (k : Nat) :
    e.pendingSet = some k ↔ e.pending.map (·.part) = some (.weld k) := by
  unfold StyleEntry.pendingSet
  cases e.pending <;> simp [setNo_eq_some_iff]

end

end State

section
variable {h : Hdr} {s : State} {i setNo : Nat} (hlen : h.lengthOk = true)
include hlen

/-- STYLE WRITE without an effective PSN that passes its checks (R22, R23). -/
theorem styleWriteBlock_of_writes {d : Disposition} {p : StylePart} (hi : i < activeStyles s.line.m s.line.n)
    (hd : s.Writes setNo d p) :
    styleWriteBlock h i (some d) setNo s =
      ((s.installStyle i ⟨p, (s.style i).pending⟩ p.setNo (s.style i).current.setNo).owe [.admission]).done
        (.style p (s.style i).pending) := by
  obtain ⟨hrefusal, rfl⟩ := State.styleRefusal_of_writes hi hd
  rw [← State.styleContents_installStyle _ _ _ _ _ _ (State.lt_of_active hi)]
  simp only [styleWriteBlock, hlen, hrefusal]
  rfl

/-- STYLE WRITE with an effective PSN that passes its checks (R22, R24). -/
theorem styleWriteEffectivePsnBlock_of_writes {d : Disposition} {p : StylePart} {w : Word}
    (hi : i < activeStyles s.line.m s.line.n) (hd : s.Writes setNo d p) :
    styleWriteEffectivePsnBlock h i (some d) setNo w s =
      ((s.installStyle i ⟨(s.style i).current, some ⟨p, w⟩⟩ p.setNo (s.style i).pendingSet).owe [.admission]).done
        (.style (s.style i).current (some ⟨p, w⟩)) := by
  obtain ⟨hrefusal, rfl⟩ := State.styleRefusal_of_writes hi hd
  rw [← State.styleContents_installStyle _ _ _ _ _ _ (State.lt_of_active hi)]
  simp only [styleWriteEffectivePsnBlock, hlen, hrefusal]
  rfl

theorem styleCancelBlock_of_pending {q : PendingPart} (hi : i < activeStyles s.line.m s.line.n)
    (hq : (s.style i).pending = some q) :
    styleCancelBlock h i s =
      ((s.installStyle i ⟨(s.style i).current, none⟩ none (s.style i).pendingSet).owe [.admission]).done
        (.styleCurrent (s.style i).current) := by
  simp only [styleCancelBlock, hlen, State.styleActive_iff.mpr hi, hq]
  rfl

theorem styleCancelBlock_of_none (hi : i < activeStyles s.line.m s.line.n) (hq : (s.style i).pending = none) :
    styleCancelBlock h i s = s.refuse .state := by
  simp [styleCancelBlock, hlen, State.styleActive_iff.mpr hi, hq]

omit hlen in
theorem styleCancelBlock_of_inactive (hi : activeStyles s.line.m s.line.n ≤ i) : styleCancelBlock h i s = s.refuse .range := by
  simp [styleCancelBlock, State.styleActive, hi]

/-- Either STYLE WRITE refused by a check of R22. -/
theorem styleWriteBlock_of_refused {d : Option Disposition} {w : Word} {c : Code} {x : Instr}
    (hc : s.styleRefusal i d setNo = some c)
    (hx : x = .styleWrite h i d setNo ∨ x = .styleWriteEffectivePsn h i d setNo w) : requestBlock x s = s.refuse c := by
  obtain rfl | rfl := hx
  · simp [requestBlock, styleWriteBlock, hlen, hc]
  · simp [requestBlock, styleWriteEffectivePsnBlock, hlen, hc]

end

/-- Settles O18: each request that passes its checks installs one entry and moves the namings with it. -/
theorem styleWritesMoveTheNamings : Obligations.StyleWritesMoveTheNamings := by
  refine ⟨fun s h i setNo d p ⟨hlistens, hgrants, hlen⟩ hi hd => ?_,
    fun s h i ⟨hlistens, hgrants, hlen⟩ hi => ⟨fun setNo d w p hd => ?_, fun q hq => ?_, fun hq => ?_⟩,
    fun s h i setNo d c w x ⟨hlistens, hgrants, hlen⟩ hc hx => ?_, fun s h i ⟨hlistens, hgrants, hlen⟩ hi => ?_⟩
  · obtain ⟨t, hexec, hanswered, hself, hne, hsets, hframe⟩ :=
      s.exec_request_of_installStyle (x := .styleWrite h i (some d) setNo) i _ _ _ rfl hlistens hgrants (State.lt_of_active hi) rfl
        (styleWriteBlock_of_writes (s := s.goodFrameOn h.port.val) hlen hi hd)
    simp only [State.setNo_eq_some_iff] at hsets
    exact ⟨t, hexec, hanswered, hself, hne, hsets, hframe⟩
  · obtain ⟨t, hexec, hanswered, hself, hne, hsets, hframe⟩ :=
      s.exec_request_of_installStyle (x := .styleWriteEffectivePsn h i (some d) setNo w) i _ _ _ rfl hlistens hgrants
        (State.lt_of_active hi) rfl (styleWriteEffectivePsnBlock_of_writes (s := s.goodFrameOn h.port.val) hlen hi hd)
    simp only [State.setNo_eq_some_iff, State.pendingSet_eq_some_iff] at hsets
    exact ⟨t, hexec, hanswered, hself, hne, hsets, hframe⟩
  · obtain ⟨t, hexec, hanswered, hself, hne, hsets, hframe⟩ :=
      s.exec_request_of_installStyle (x := .styleCancel h i) i _ _ _ rfl hlistens hgrants (State.lt_of_active hi) rfl
        (styleCancelBlock_of_pending (s := s.goodFrameOn h.port.val) hlen hi hq)
    have hq' : ((s.goodFrameOn h.port.val).style i).pending = some q := hq
    simp only [State.pendingSet_eq_some_iff, hq', Option.map_some, Option.some.injEq, reduceCtorEq, if_false, Nat.add_zero]
      at hsets
    exact ⟨t, hexec, hanswered, hself, hne, hsets, hframe⟩
  · exact s.exec_request_of_block_unchanged (i := .styleCancel h i) rfl hlistens hgrants
      (styleCancelBlock_of_none (s := s.goodFrameOn h.port.val) hlen hi hq)
  · have hr : requestOf x = some (h, 0x38, .library) := by obtain rfl | rfl := hx <;> rfl
    exact s.exec_request_of_block_unchanged hr hlistens hgrants
      (styleWriteBlock_of_refused (s := s.goodFrameOn h.port.val) hlen (State.styleRefusal_of_refused hc) hx)
  · exact s.exec_request_of_block_unchanged (i := .styleCancel h i) rfl hlistens hgrants
      (styleCancelBlock_of_inactive (s := s.goodFrameOn h.port.val) hi)

/-! ### Schedules and curves (R96, R99) -/

/-- The fields of a schedule lie in the ranges of R95, and its limits are in order. -/
structure ScheduleInRange (f : SchedFields) : Prop where
  base_min : 1000 ≤ f.base
  base_max : f.base ≤ 24000
  imin_min : 300 ≤ f.imin
  imin_le : f.imin ≤ f.imax
  imax_max : f.imax ≤ 2400
  squeeze_max : f.squeeze ≤ 2000
  weld_min : 1 ≤ f.weldTime
  weld_max : f.weldTime ≤ 2000
  hold_max : f.hold ≤ 2000
  group_lt : ∀ g, f.group = some g → g < 8

theorem scheduleFault_eq_none {f : SchedFields} (hf : ScheduleInRange f) : scheduleFault f = none := by
  obtain ⟨h0, h1, h2, h3, h4, h5, h6, h7, h8, hgroup⟩ := hf
  have hgroup' : f.group.getD 0 ≤ 7 := by
    cases hg : f.group with
    | none => exact Nat.zero_le 7
    | some g => exact Nat.le_of_lt_succ (hgroup g hg)
  unfold scheduleFault
  simp only [firstFault_eq_none_iff, and_true]
  omega

theorem stepFault_eq_none {steps : List CurveStep}
    (hsteps : ∀ x ∈ steps, 1 ≤ x.threshold ∧ x.threshold ≤ 65535 ∧ x.increment ≤ 500) : stepFault steps = none := by
  simp only [stepFault, Option.map_eq_none_iff, List.find?_eq_none]
  rintro ⟨x, i⟩ hx
  have hrange := hsteps x (List.fst_mem_of_mem_zipIdx hx)
  simp only [Bool.or_eq_true, decide_eq_true_eq]
  omega

theorem orderFault_eq_none {steps : List CurveStep} (hrise : (steps.map (·.threshold)).Pairwise (· < ·)) (k : Nat) :
    orderFault k steps = none := by
  induction steps generalizing k with
  | nil => rfl
  | cons a rest ih =>
    obtain ⟨hfirst, hrest⟩ := List.pairwise_cons.mp hrise
    cases rest with
    | nil => rfl
    | cons b rest =>
      have hab : ¬ b.threshold ≤ a.threshold := not_le.mpr (hfirst _ List.mem_cons_self)
      rw [orderFault, if_neg hab]
      exact ih hrest (k + 1)

theorem State.schedulesNaming_eq (s : State) (g : Nat) :
    s.schedulesNaming g = ((List.range 64).filter fun m => (s.schedule m).any fun x => x.group == some g).length := by
  refine congrArg List.length (List.filter_congr fun n _ => ?_)
  cases s.schedule n <;> rfl

section
variable {h : Hdr} {s : State} {n : Nat} (hlen : h.lengthOk = true)
include hlen

theorem schedWriteDefineBlock_of_checks {f : SchedFields} (hn : n < 64) (hf : ScheduleInRange f)
    (hcurve : ∀ g, f.group = some g → s.curve g ≠ none) :
    schedWriteDefineBlock h n f s = (s.setSchedule n (some f)).done (.schedule (some f)) := by
  have hrange : ¬ (63 < n ∨ h.lengthOk = false) := by simp [hlen, Nat.le_of_lt_succ hn]
  simp only [schedWriteDefineBlock, if_neg hrange, scheduleFault_eq_none hf]
  cases hg : f.group with
  | none => rfl
  | some g => simp [hcurve g hg]

theorem schedWriteDefineBlock_of_noCurve {f : SchedFields} (hn : n < 64) (hf : ScheduleInRange f) {g : Nat} (hg : f.group = some g)
    (hcurve : s.curve g = none) : schedWriteDefineBlock h n f s = s.refuse .unknown (.curveNumber g) := by
  have hrange : ¬ (63 < n ∨ h.lengthOk = false) := by simp [hlen, Nat.le_of_lt_succ hn]
  simp [schedWriteDefineBlock, if_neg hrange, scheduleFault_eq_none hf, hg, hcurve]

theorem schedWriteClearBlock_of_checks (hn : n < 64) :
    schedWriteClearBlock h n true s = (s.setSchedule n none).done (.schedule none) := by
  simp [schedWriteClearBlock, hlen, Nat.le_of_lt_succ hn]

theorem stepperWriteBlock_of_checks {steps : List CurveStep} (hn : n < 8) (hmin : 1 ≤ steps.length) (hmax : steps.length ≤ 8)
    (hsteps : ∀ x ∈ steps, 1 ≤ x.threshold ∧ x.threshold ≤ 65535 ∧ x.increment ≤ 500)
    (hrise : (steps.map (·.threshold)).Pairwise (· < ·)) :
    stepperWriteBlock h n steps s = (s.setCurve n steps).done (.curve steps (s.schedulesNaming n)) := by
  have hcount : ¬ (h.lengthOk = false ∨ steps.length = 0 ∨ 8 < steps.length) := by
    simp only [hlen, Bool.true_eq_false, false_or]
    omega
  simp only [stepperWriteBlock, if_neg (show ¬ 7 < n by omega), if_neg hcount, stepFault_eq_none hsteps, orderFault_eq_none hrise]

end

/-- Settles O34: each write past its checks replaces one entry, and the checks are those of R95 and R98. -/
theorem scheduleAndCurveWritesAreStored : Obligations.ScheduleAndCurveWritesAreStored := by
  refine fun s h n ⟨hlistens, hgrants, hlen⟩ hn => ⟨fun f h0 h1 h2 h3 h4 h5 h6 h7 h8 hgroup => ?_, ?_,
    fun steps hcurve hmin hmax hsteps hrise => ?_⟩
  · have hf : ScheduleInRange f := ⟨h0, h1, h2, h3, h4, h5, h6, h7, h8, hgroup⟩
    refine ⟨fun hcurve => ?_, fun g hg hcurve => ?_⟩
    · obtain ⟨hexec, hanswered⟩ := s.exec_request_of_block (i := .schedWriteDefine h n f) rfl hlistens hgrants
        (schedWriteDefineBlock_of_checks (s := s.goodFrameOn h.port.val) hlen hn hf hcurve) rfl
      exact ⟨_, hexec, hanswered, State.schedule_setSchedule_self _ _ _ hn,
        fun m hm => State.schedule_setSchedule_ne (s.goodFrameOn h.port.val) _ _ _ hm, rfl⟩
    · exact s.exec_request_of_block_unchanged (i := .schedWriteDefine h n f) rfl hlistens hgrants
        (schedWriteDefineBlock_of_noCurve (s := s.goodFrameOn h.port.val) hlen hn hf hg hcurve)
  · obtain ⟨hexec, hanswered⟩ := s.exec_request_of_block (i := .schedWriteClear h n true) rfl hlistens hgrants
      (schedWriteClearBlock_of_checks (s := s.goodFrameOn h.port.val) hlen hn) rfl
    exact ⟨_, hexec, hanswered, State.schedule_setSchedule_self _ _ _ hn,
      fun m hm => State.schedule_setSchedule_ne (s.goodFrameOn h.port.val) _ _ _ hm, rfl⟩
  · obtain ⟨hexec, hanswered⟩ := s.exec_request_of_block (i := .stepperWrite h n steps) rfl hlistens hgrants
      (stepperWriteBlock_of_checks (s := s.goodFrameOn h.port.val) hlen hcurve hmin hmax hsteps hrise) rfl
    rw [State.schedulesNaming_eq] at hexec hanswered
    exact ⟨_, hexec, hanswered, State.curve_setCurve_self _ _ _ hcurve,
      fun m hm => State.curve_setCurve_ne (s.goodFrameOn h.port.val) _ _ _ hm, rfl⟩

end Machine
end Sys2Proof
end

section
/-!
SUPPORT. The stages of the computation after the wear increment (O36), and slot choice (O38): each rounding by its inequalities, and
the lowest slot that meets a condition.
-/
namespace Sys2Proof
namespace Machine

/-! ### Rounding and limits (R103, R104) -/

theorem convert_down (x : Int) : 10000 * convert .down x ≤ x ∧ x < 10000 * (convert .down x + 1) := by
  simp only [convert]
  omega

theorem convert_up (x : Int) : 10000 * (convert .up x - 1) < x ∧ x ≤ 10000 * convert .up x := by
  simp only [convert]
  split <;> omega

theorem convert_halfUp (x : Int) : 10000 * convert .halfUp x - 5000 ≤ x ∧ x < 10000 * convert .halfUp x + 5000 := by
  simp only [convert]
  split <;> omega

theorem convert_nearestEven (x : Int) :
    10000 * convert .nearestEven x - 5000 ≤ x ∧ x ≤ 10000 * convert .nearestEven x + 5000 ∧
      (x = 10000 * convert .nearestEven x - 5000 ∨ x = 10000 * convert .nearestEven x + 5000 →
        convert .nearestEven x % 2 = 0) := by
  simp only [convert]
  (repeat' split) <;> omega

/-- The limits keep a current within them, and change it exactly where it is outside. -/
theorem clampCurrent_eq {imin imax : Nat} (h : imin ≤ imax) (c : Int) :
    clampCurrent imin imax c = min (max c imin) imax ∧ imin ≤ clampCurrent imin imax c ∧ clampCurrent imin imax c ≤ imax ∧
      (clampCurrent imin imax c ≠ c ↔ c < imin ∨ (imax : Int) < c) := by
  unfold clampCurrent
  (repeat' split) <;> omega

/-- Settles O36: the converted current is the raw product rounded by the mode, and the row's is that clamped. -/
theorem rowCurrentIsRoundedAndClamped : Obligations.RowCurrentIsRoundedAndClamped := by
  intro mode n sc p trim hlimits _
  obtain ⟨hclamp, hmin, hmax, hchanged⟩ :=
    clampCurrent_eq hlimits (convert mode (sc.base * (1000 + p + trim)))
  refine ⟨convert mode (sc.base * (1000 + p + trim)), ?_, ?_, ?_, ?_, ?_⟩
  · rintro rfl
    exact convert_down _
  · rintro rfl
    exact convert_up _
  · rintro rfl
    exact convert_halfUp _
  · rintro rfl
    exact convert_nearestEven _
  · simp only [scheduleRow, factor, decide_eq_true_eq, hchanged, iff_self, and_true]
    omega

/-- The search of the places below `n` in ascending order finds the lowest that meets its condition. -/
theorem find?_range_eq_some_of_iff {p : Nat → Bool} {P : Nat → Prop} (hp : ∀ i, p i = true ↔ P i) (n j : Nat) :
    (List.range n).find? p = some j ↔ j < n ∧ P j ∧ ∀ k, k < j → ¬ P k := by
  simp only [List.find?_range_eq_some, List.mem_range, Bool.not_eq_true', ← Bool.not_eq_true, hp]
  exact and_left_comm

theorem find?_range_eq_none_of_iff {p : Nat → Bool} {P : Nat → Prop} (hp : ∀ i, p i = true ↔ P i) (n : Nat) :
    (List.range n).find? p = none ↔ ∀ k, ¬ (k < n ∧ P k) := by
  simp only [List.find?_eq_none, List.mem_range, hp, not_and]

/-- The lowest place below `n` that meets a condition is its least. -/
theorem find?_range_eq_some_iff_least {p : Nat → Bool} {P : Nat → Prop} (hp : ∀ i, p i = true ↔ P i) (n j : Nat) :
    (List.range n).find? p = some j ↔ (j < n ∧ P j) ∧ ∀ k, k < n ∧ P k → j ≤ k := by
  rw [find?_range_eq_some_of_iff hp]
  refine ⟨fun ⟨hj, hP, hleast⟩ => ⟨⟨hj, hP⟩, fun k ⟨_, hk⟩ => not_lt.mp fun hkj => hleast k hkj hk⟩,
    fun ⟨⟨hj, hP⟩, hleast⟩ => ⟨hj, hP, fun k hkj hk => ?_⟩⟩
  exact absurd (hleast k ⟨hkj.trans hj, hk⟩) (not_le.mpr hkj)

namespace State

variable {s : State} {r : Nat}

/-! ### Staged and pinned slots (R127) -/

theorem stagedSlot_eq_some_iff (n j : Nat) :
    s.stagedSlot r n = some j ↔
      j < s.slotCount r ∧ (∃ stamp, ((s.robot r).slot j).content = .valid n stamp) ∧
        ∀ k stamp, k < j → ((s.robot r).slot k).content ≠ .valid n stamp := by
  refine (find?_range_eq_some_of_iff (P := fun i => ∃ stamp, ((s.robot r).slot i).content = .valid n stamp)
    (fun i => ?_) _ _).trans ?_
  · cases ((s.robot r).slot i).content <;> simp
  · simp only [not_exists]
    exact and_congr_right fun _ => and_congr_right fun _ => forall_congr' fun _ => forall_comm

theorem pinned_iff (j : Nat) :
    s.pinned r j = true ↔
      (∃ n pos, (n, pos) ∈ s.windowPrograms r ∧ s.stagedSlot r n = some j) ∨
        (∃ sel, sel.slot = j ∧ ((s.robot r).motion = .selecting sel ∨ (s.robot r).motion = .selected sel ∨
          (s.robot r).motion = .welding sel ∨ (s.robot r).motion = .aborting sel)) ∨
        ∃ n stamp, ((s.robot r).slot j).content = .loading n stamp := by
  rw [pinned, Bool.or_eq_true, Bool.or_eq_true, or_assoc]
  refine or_congr (by simp) (or_congr ?_ ?_)
  · cases (s.robot r).motion <;> simp [Motion.selection?]
  · cases ((s.robot r).slot j).content <;> simp

/-! ### Slot choice (R132) -/

/-- Slot `i` is used before slot `j`: less, or as much with a lower number. -/
def UsedBefore (s : State) (r i j : Nat) : Prop :=
  ((s.robot r).slot i).lastUse < ((s.robot r).slot j).lastUse ∨
    ((s.robot r).slot i).lastUse = ((s.robot r).slot j).lastUse ∧ i ≤ j

theorem leastUsed_eq_none_iff (l : List Nat) : s.leastUsed r l = none ↔ l = [] := by
  cases l with
  | nil => exact iff_of_true rfl rfl
  | cons i rest =>
    refine iff_of_false ?_ (List.cons_ne_nil _ _)
    rw [leastUsed]
    split
    · exact Option.some_ne_none _
    · split <;> exact Option.some_ne_none _

/-- Of slots in ascending order the one found is used before each of them. -/
theorem leastUsed_spec {l : List Nat} (hl : l.Pairwise (· < ·)) {i : Nat} (hi : s.leastUsed r l = some i) :
    i ∈ l ∧ ∀ j ∈ l, s.UsedBefore r i j := by
  induction l generalizing i with
  | nil => cases hi
  | cons a rest ih =>
    obtain ⟨hfirst, hrest⟩ := List.pairwise_cons.mp hl
    rw [leastUsed] at hi
    split at hi
    · next hnone =>
      obtain rfl := (s.leastUsed_eq_none_iff rest).mp hnone
      obtain rfl := Option.some.inj hi
      simp [UsedBefore]
    · next k hk =>
      obtain ⟨hmem, hbefore⟩ := ih hrest hk
      split at hi
      · next hless =>
        obtain rfl := Option.some.inj hi
        exact ⟨List.mem_cons_of_mem _ hmem, List.forall_mem_cons.mpr ⟨.inl hless, hbefore⟩⟩
      · next hnot =>
        obtain rfl := Option.some.inj hi
        refine ⟨List.mem_cons_self, List.forall_mem_cons.mpr ⟨.inr ⟨rfl, le_rfl⟩, fun j hj => ?_⟩⟩
        have hlt := hfirst j hj
        have hkj := hbefore j hj
        unfold UsedBefore at hkj ⊢
        omega

theorem UsedBefore.antisymm {i j : Nat} (hij : s.UsedBefore r i j) (hji : s.UsedBefore r j i) : i = j := by
  unfold UsedBefore at hij hji
  omega

section
variable {empty free idle : Nat → Prop}
  (hempty : ∀ i, empty i ↔ i < s.slotCount r ∧ ((s.robot r).slot i).content = .empty)
  (hfree : ∀ i, free i ↔ i < s.slotCount r ∧ (((s.robot r).slot i).content = .unknown ∨
    ∃ n stamp, ((s.robot r).slot i).content = .stale n stamp ∨ ((s.robot r).slot i).content = .invalid n stamp))
  (hidle : ∀ i, idle i ↔ i < s.slotCount r ∧ s.pinned r i = false ∧
    ∃ n stamp, ((s.robot r).slot i).content = .valid n stamp)
include hempty hfree hidle

/-- The choice takes the lowest EMPTY slot, else the lowest that may be overwritten, else the least used that may be, and none
only where there is none of these. -/
theorem chooseSlot_cases :
    (∃ i, s.chooseSlot r = some i ∧ empty i ∧ ∀ j, empty j → i ≤ j) ∨
    (∃ i, s.chooseSlot r = some i ∧ (∀ j, ¬ empty j) ∧ free i ∧ ∀ j, free j → i ≤ j) ∨
    (∃ i, s.chooseSlot r = some i ∧ (∀ j, ¬ empty j ∧ ¬ free j) ∧ idle i ∧ ∀ j, idle j → s.UsedBefore r i j) ∨
    s.chooseSlot r = none ∧ ∀ j, ¬ empty j ∧ ¬ free j ∧ ¬ idle j := by
  unfold chooseSlot slotNumbers
  dsimp only
  have hempty' : ∀ i, (((s.robot r).slot i).content == .empty) = true ↔ ((s.robot r).slot i).content = .empty := fun _ => beq_iff_eq
  split
  · next i hi =>
    rw [find?_range_eq_some_iff_least hempty'] at hi
    simp only [← hempty] at hi
    exact .inl ⟨i, rfl, hi⟩
  · next hnone =>
    rw [find?_range_eq_none_of_iff hempty'] at hnone
    simp only [← hempty] at hnone
    split
    · next i hi =>
      rw [find?_range_eq_some_iff_least (P := fun i => ((s.robot r).slot i).content = .unknown ∨ ∃ n stamp,
        ((s.robot r).slot i).content = .stale n stamp ∨ ((s.robot r).slot i).content = .invalid n stamp)
        (fun i => by cases ((s.robot r).slot i).content <;> simp)] at hi
      simp only [← hfree] at hi
      exact .inr (.inl ⟨i, rfl, hnone, hi⟩)
    · next hnone' =>
      rw [find?_range_eq_none_of_iff (P := fun i => ((s.robot r).slot i).content = .unknown ∨ ∃ n stamp,
        ((s.robot r).slot i).content = .stale n stamp ∨ ((s.robot r).slot i).content = .invalid n stamp)
        (fun i => by cases ((s.robot r).slot i).content <;> simp)] at hnone'
      simp only [← hfree] at hnone'
      have hsorted := (List.pairwise_lt_range (n := s.slotCount r)).filter fun i =>
        match ((s.robot r).slot i).content with
        | .valid _ _ => !s.pinned r i
        | _ => false
      have hmem : ∀ i, i ∈ ((List.range (s.slotCount r)).filter fun i =>
          match ((s.robot r).slot i).content with
          | .valid _ _ => !s.pinned r i
          | _ => false) ↔ idle i := by
        intro i
        rw [hidle, List.mem_filter, List.mem_range]
        cases ((s.robot r).slot i).content <;> simp
      cases hfound : s.leastUsed r ((List.range (s.slotCount r)).filter fun i =>
          match ((s.robot r).slot i).content with
          | .valid _ _ => !s.pinned r i
          | _ => false) with
      | none =>
        have hnil := (s.leastUsed_eq_none_iff _).mp hfound
        refine .inr (.inr (.inr ⟨rfl, fun j => ⟨hnone j, hnone' j, ?_⟩⟩))
        rw [← hmem, hnil]
        exact List.not_mem_nil
      | some i =>
        obtain ⟨hi, hbefore⟩ := leastUsed_spec hsorted hfound
        exact .inr (.inr (.inl ⟨i, rfl, fun j => ⟨hnone j, hnone' j⟩, (hmem i).mp hi, fun j hj => hbefore j ((hmem j).mpr hj)⟩))

end

end State

/-- Settles O38: each search takes the lowest place that meets its condition, and the last one the least used. -/
theorem slotChoiceTakesTheCheapestSlot : Obligations.SlotChoiceTakesTheCheapestSlot := by
  refine ⟨fun s r n j => State.stagedSlot_eq_some_iff n j, fun s r j => State.pinned_iff j,
    fun s r empty free idle hempty hfree hidle => ?_⟩
  obtain ⟨i, hi, hin, hleast⟩ | ⟨i, hi, hno, hin, hleast⟩ | ⟨i, hi, hno, hin, hleast⟩ | ⟨hi, hno⟩ :=
    State.chooseSlot_cases hempty hfree hidle
  · rw [hi]
    refine ⟨fun k => ⟨?_, ?_⟩, ?_⟩
    · rintro ⟨⟩
      exact .inl ⟨hin, hleast⟩
    · rintro (⟨hk, hkleast⟩ | ⟨hempty', -⟩ | ⟨hneither, -⟩)
      · rw [le_antisymm (hleast k hk) (hkleast i hin)]
      · exact absurd hin (hempty' i)
      · exact absurd hin (hneither i).1
    · exact iff_of_false (Option.some_ne_none i) fun h => (h i).1 hin
  · rw [hi]
    refine ⟨fun k => ⟨?_, ?_⟩, ?_⟩
    · rintro ⟨⟩
      exact .inr (.inl ⟨hno, hin, hleast⟩)
    · rintro (⟨hk, -⟩ | ⟨-, hk, hkleast⟩ | ⟨hneither, -⟩)
      · exact absurd hk (hno k)
      · rw [le_antisymm (hleast k hk) (hkleast i hin)]
      · exact absurd hin (hneither i).2
    · exact iff_of_false (Option.some_ne_none i) fun h => (h i).2.1 hin
  · rw [hi]
    refine ⟨fun k => ⟨?_, ?_⟩, ?_⟩
    · rintro ⟨⟩
      exact .inr (.inr ⟨hno, hin, hleast⟩)
    · rintro (⟨hk, -⟩ | ⟨-, hk, -⟩ | ⟨-, hk, hkleast⟩)
      · exact absurd hk (hno k).1
      · exact absurd hk (hno k).2
      · rw [State.UsedBefore.antisymm (hleast k hk) (hkleast i hin)]
    · exact iff_of_false (Option.some_ne_none i) fun h => (h i).2.2 hin
  · rw [hi]
    refine ⟨fun k => iff_of_false (Option.some_ne_none k).symm ?_, iff_of_true rfl hno⟩
    rintro (⟨hk, -⟩ | ⟨-, hk, -⟩ | ⟨-, hk, -⟩)
    · exact (hno k).1 hk
    · exact (hno k).2.1 hk
    · exact (hno k).2.2 hk

end Machine
end Sys2Proof
end

section
/-!
SUPPORT. The queries (O12): the views of a station, a robot and a set in the statement's own words, and one equation for each answer
of a query's block.
-/
namespace Sys2Proof
namespace Machine
namespace State

variable (s : State)

theorem present_eq_decide (n : Nat) :
    s.present n = decide ((s.presence n).accepted = .high ↔ (s.stationRec n).sense = .highPresent) := by
  unfold present
  cases (s.stationRec n).sense <;> cases (s.presence n).accepted <;> rfl

theorem map_bodyOf_eq_nameOf (k : Option Nat) :
    ((k.bind s.bodyOf).map fun b => (⟨b.tag, b.psn⟩ : BodyName)) = k.bind s.nameOf := by
  cases k <;> rfl

/-- The motion state and the selection a reply names (R111, R123). -/
theorem name_selection_of_motion {m : Motion} {motion : MotionName × Option (Nat × Word)}
    (hm : m = .idle ∧ motion = (.idle, none) ∨
      ∃ sel, m = .selecting sel ∧ motion = (.selecting, some (sel.slot, sel.psn)) ∨
        m = .selected sel ∧ motion = (.selected, some (sel.slot, sel.psn)) ∨
        m = .welding sel ∧ motion = (.welding, some (sel.slot, sel.psn)) ∨
        m = .aborting sel ∧ motion = (.aborting, some (sel.slot, sel.psn))) :
    m.name = motion.1 ∧ (m.selection?.map fun sel => (sel.slot, sel.psn)) = motion.2 := by
  obtain ⟨rfl, rfl⟩ | ⟨sel, ⟨rfl, rfl⟩ | ⟨rfl, rfl⟩ | ⟨rfl, rfl⟩ | ⟨rfl, rfl⟩⟩ := hm
  all_goals exact ⟨rfl, rfl⟩

end State

/-- The entries of a set as sent: each at its place, the Last flag on the final one alone (R29). -/
theorem sentEntries_eq (es : List DispatchEntry) :
    sentEntries es = es.mapIdx fun j e =>
      (⟨e.robot, e.enabled, decide (j + 1 = es.length), e.program, e.value, e.mask, e.trim⟩ : RawEntry) := by
  induction es with
  | nil => rfl
  | cons e rest ih =>
    rw [sentEntries, List.mapIdx_cons, ih]
    cases rest <;> simp

section
variable {h : Hdr} (s : State) (hlen : h.lengthOk = true)
include hlen

theorem queryBodyBlock_of_found {tag : Word} {b : Body} {rest : List Body}
    (hfound : s.bodies.filter (fun b => b.tag == tag) = b :: rest) :
    queryBodyBlock h tag s = s.done (.body (rest.length + 1) b) := by
  have htagged : s.tagged tag = b :: rest := hfound
  simp [queryBodyBlock, hlen, htagged]

theorem queryBodyBlock_of_unknown {tag : Word} (hnone : ∀ b ∈ s.bodies, b.tag ≠ tag) :
    queryBodyBlock h tag s = s.refuse .unknown := by
  have htagged : s.tagged tag = [] := List.filter_eq_nil_iff.mpr fun b hb => by simpa using hnone b hb
  simp [queryBodyBlock, hlen, htagged]

theorem queryStationBlock_of_lt {n : Nat} (hn : n < s.stationCount) :
    queryStationBlock h n s = s.done (.station (s.stationView n)) := by
  simp [queryStationBlock, hlen, hn]

theorem queryRobotBlock_of_lt {r : Nat} (hr : r < 32) : queryRobotBlock h r s = s.done (.robot (s.robotView r)) := by
  simp [queryRobotBlock, hlen, Nat.le_of_lt_succ hr]

theorem queryProgramBlock_of_none {n : Nat} (hn : n < 512) :
    queryProgramBlock h n none s = s.done (.program (s.prog n) s.freeBlocks.length s.library.stamp []) := by
  simp [queryProgramBlock, programRange_eq_true hlen hn]

theorem queryProgramBlock_of_ready {n first m : Nat} (hn : n < 512) (hmin : 1 ≤ m) (hmax : m ≤ 16) {stamp : Word} {d : ProgData}
    (hstate : (s.prog n).state = .ready stamp d) (hreceived : first + m ≤ d.received) :
    queryProgramBlock h n (some (first, m)) s =
      s.done (.program (s.prog n) s.freeBlocks.length s.library.stamp
        ((List.range m).map fun j => s.pointAt d.blocks (first + j))) := by
  have hcount : ¬ (m < 1 ∨ Config.framePoints < m) := by
    simp only [Config.framePoints]
    omega
  simp only [queryProgramBlock, programRange_eq_true hlen hn, if_neg hcount, hstate, if_neg (not_lt.mpr hreceived)]
  rfl

theorem queryProgramBlock_of_empty {n first m : Nat} (hn : n < 512) (hmin : 1 ≤ m) (hmax : m ≤ 16)
    (hstate : (s.prog n).state = .empty) : queryProgramBlock h n (some (first, m)) s = s.refuse .state := by
  have hcount : ¬ (m < 1 ∨ Config.framePoints < m) := by
    simp only [Config.framePoints]
    omega
  simp only [queryProgramBlock, programRange_eq_true hlen hn, if_neg hcount, hstate]
  rfl

theorem queryStyleBlock_of_active {n : Nat} (hn : n < activeStyles s.line.m s.line.n) :
    queryStyleBlock h n s = s.done (.style (s.style n).current (s.style n).pending) := by
  simp [queryStyleBlock, hlen, State.styleActive_iff.mpr hn, State.styleContents]

theorem querySetBlock_of_lt {n : Nat} (hn : n < 128) :
    querySetBlock h n s =
      s.done (.dispatchSet (s.dispatchSet n).inUse s.poolFree ((s.dispatchSet n).entries.map sentEntries)) := by
  simp [querySetBlock, hlen, Config.setCount, hn]

end

/-- Settles O12: a query's block only reads, so the answer is its view of the state as it stands. -/
theorem queriesAnswerAndChangeNothing : Obligations.QueriesAnswerAndChangeNothing := by
  refine ⟨fun s h ⟨hlistens, hgrants, hlen⟩ i kind c k hcase => ?_, fun s h ⟨hlistens, hgrants, hlen⟩ i kind c k hcase => ?_⟩
  · obtain ⟨tag, b, rest, rfl, rfl, hfound, rfl, rfl⟩ | ⟨tag, rfl, rfl, hnone, rfl, rfl⟩ | ⟨n, rfl, rfl, hn, rfl, rfl⟩ |
      ⟨n, rfl, rfl, hn, rfl, rfl⟩ | ⟨r, motion, rfl, rfl, hr, rfl, hmotion, rfl⟩ | ⟨r, rfl, rfl, hr, rfl, rfl⟩ := hcase
    · exact s.exec_request_of_block_unchanged (g := .query) rfl hlistens hgrants
        (queryBodyBlock_of_found (s.goodFrameOn h.port.val) hlen hfound)
    · exact s.exec_request_of_block_unchanged (g := .query) rfl hlistens hgrants
        (queryBodyBlock_of_unknown (s.goodFrameOn h.port.val) hlen hnone)
    · rw [← s.present_eq_decide, State.map_bodyOf_eq_nameOf]
      exact s.exec_request_of_block_unchanged (g := .query) rfl hlistens hgrants
        (queryStationBlock_of_lt (s.goodFrameOn h.port.val) hlen hn)
    · exact s.exec_request_of_block_unchanged (g := .query) rfl hlistens hgrants (if_pos (.inr hn))
    · obtain ⟨hname, hselection⟩ := State.name_selection_of_motion hmotion
      rw [← hname, ← hselection]
      exact s.exec_request_of_block_unchanged (g := .query) rfl hlistens hgrants
        (queryRobotBlock_of_lt (s.goodFrameOn h.port.val) hlen hr)
    · exact s.exec_request_of_block_unchanged (g := .query) rfl hlistens hgrants (if_pos (.inl hr))
  · obtain ⟨n, rfl, rfl, hn, rfl, rfl⟩ | ⟨n, first, m, stamp, d, rfl, rfl, hn, hmin, hmax, hstate, hreceived, rfl, rfl⟩ |
      ⟨n, first, m, rfl, rfl, hn, hmin, hmax, hstate, rfl, rfl⟩ | ⟨n, rfl, rfl, hn, rfl, rfl⟩ | ⟨n, rfl, rfl, hn, rfl, rfl⟩ := hcase
    · exact s.exec_request_of_block_unchanged (g := .query) rfl hlistens hgrants
        (queryProgramBlock_of_none (s.goodFrameOn h.port.val) hlen hn)
    · exact s.exec_request_of_block_unchanged (g := .query) rfl hlistens hgrants
        (queryProgramBlock_of_ready (s.goodFrameOn h.port.val) hlen hn hmin hmax hstate hreceived)
    · exact s.exec_request_of_block_unchanged (g := .query) rfl hlistens hgrants
        (queryProgramBlock_of_empty (s.goodFrameOn h.port.val) hlen hn hmin hmax hstate)
    · exact s.exec_request_of_block_unchanged (g := .query) rfl hlistens hgrants
        (queryStyleBlock_of_active (s.goodFrameOn h.port.val) hlen hn)
    · rw [show (fun es : List DispatchEntry => es.mapIdx fun j e =>
        (⟨e.robot, e.enabled, decide (j + 1 = es.length), e.program, e.value, e.mask, e.trim⟩ : RawEntry)) = sentEntries from
        funext fun es => (sentEntries_eq es).symm]
      exact s.exec_request_of_block_unchanged (g := .query) rfl hlistens hgrants
        (querySetBlock_of_lt (s.goodFrameOn h.port.val) hlen hn)

end Machine
end Sys2Proof
end

section
/-!
SUPPORT. The operations on stations, records and robots that the line tracker shares (Chapter 3), each as one equation: the state
after it field by field, where the fields it reads are known.
-/
namespace Sys2Proof
namespace Machine
namespace State

variable {s : State} {i k : Nat}

/-! ### Owed recomputations (R128) -/

theorem mem_presentRobots (r : Nat) : r ∈ s.presentRobots ↔ r < 32 ∧ s.place r ≠ none := by
  simp [presentRobots, Option.isSome_iff_ne_none]

theorem mem_robotsAt (r : Nat) : r ∈ s.robotsAt i ↔ r < 32 ∧ s.stationOf r = some i := by
  rw [robotsAt, List.mem_filter, List.mem_range, stationOf]
  cases s.place r <;> simp

theorem mem_presentRobots_of_mem_robotsAt {r : Nat} (hr : r ∈ s.robotsAt i) : r ∈ s.presentRobots := by
  obtain ⟨hlt, hstation⟩ := (mem_robotsAt r).mp hr
  refine (mem_presentRobots r).mpr ⟨hlt, fun hplace => ?_⟩
  rw [stationOf, hplace] at hstation
  cases hstation

/-- The recomputations owed as station `i` enters a state: those of its robots where it enters or leaves ARRIVED (R128). -/
def enterDue (s : State) (i : Nat) (st : StationState) : List Due :=
  if ((s.station i).state = .arrived) ↔ (st = .arrived) then [] else (s.robotsAt i).map .recompute

theorem mem_enterDue (st : StationState) (d : Due) :
    d ∈ s.enterDue i st ↔
      ¬ ((s.station i).state = .arrived ↔ st = .arrived) ∧ ∃ r ∈ s.robotsAt i, d = .recompute r := by
  unfold enterDue
  split
  · next h => simp [h]
  · next h =>
    simp only [h, not_false_eq_true, true_and, List.mem_map]
    exact exists_congr fun r => and_congr_right fun _ => eq_comm

theorem mem_enterDue_imp {st : StationState} {d : Due} (hd : d ∈ s.enterDue i st) : ∃ r ∈ s.presentRobots, d = .recompute r := by
  obtain ⟨-, r, hr, rfl⟩ := (mem_enterDue st d).mp hd
  exact ⟨r, mem_presentRobots_of_mem_robotsAt hr, rfl⟩

theorem mem_recomputeAll (d : Due) : d ∈ s.presentRobots.map .recompute ↔ ∃ r ∈ s.presentRobots, d = .recompute r := by
  simp [eq_comm]

/-! ### Stations (R44, R45, R53, R54) -/

theorem enterState_eq (st : StationState) :
    s.enterState i st =
      { s with
        stations := tset s.stations i { s.station i with state := st }
        due := s.due ++ s.enterDue i st } := by
  unfold enterState enterDue
  split
  · rw [List.append_nil]
    rfl
  · rfl

/-- A state entered, with other fields of the station set at once. -/
theorem modStation_enterState (hi : i < 16) (st : StationState) (f : Station → Station) :
    (s.enterState i st).modStation i f =
      { s with
        stations := tset s.stations i (f { s.station i with state := st })
        due := s.due ++ s.enterDue i st } := by
  rw [enterState_eq]
  simp [modStation, station, hi]

theorem faultStation_eq (hi : i < 16) (hne : (s.station i).state ≠ .fault) (c : Cause) :
    s.faultStation i c =
      { s with
        stations := tset s.stations i { s.station i with state := .fault, cause := some c }
        due := s.due ++ s.enterDue i .fault
        attention := (s.raise .stationFault i).attention } := by
  rw [faultStation, if_neg hne, modStation_enterState hi]
  rfl

theorem faultStation_of_fault (hfault : (s.station i).state = .fault) (c : Cause) : s.faultStation i c = s :=
  if_pos hfault

theorem completeStation_eq (hi : i < 16) :
    s.completeStation i =
      { s with
        stations := tset s.stations i
          { s.station i with state := .complete, running := false, lastCycle := (s.station i).watch, cause := none }
        due := s.due ++ s.enterDue i .complete
        attention := (s.raise .stationComplete i).attention } := by
  rw [completeStation, modStation_enterState hi]
  rfl

theorem vacate_eq (hi : i < 16) (st : StationState) (wait : List Nat) :
    s.vacate i st wait =
      { s with
        stations := tset s.stations i
          { s.station i with state := st, body := none, work := none, cause := none, running := false, abortWait := wait }
        due := s.due ++ s.enterDue i st } := by
  rw [vacate, modStation_enterState hi]

/-! ### Records (R38, R57) -/

variable {b : Body}

theorem bodyOf_modBody_eq {f : Body → Body} (hf : ∀ b, (f b).key = b.key) (hb : s.bodyOf k = some b) :
    (s.modBody k f).bodyOf k = some (f b) :=
  bodyOf_modBody_self _ _ _ hf hb

theorem setResultAt_of_body (hk : (s.station i).body = some k) (r : Result) :
    s.setResultAt i r = s.modBody k (Body.setResult i r) := by
  rw [setResultAt, hk]

theorem freeBody_of_some (hb : s.bodyOf k = some b) :
    s.freeBody k =
      { s with
        bodies := s.bodies.filter fun c => c.key != k
        lineList := s.lineList.filter fun j => j != k
        sets := (s.dropNaming b.binding.setNo).sets } := by
  rw [freeBody, hb]
  dsimp only
  cases b.binding.setNo <;> rfl

theorem exitBody_of_some (hb : s.bodyOf k = some b) :
    s.exitBody k =
      { s with
        bodies := s.bodies.filter fun c => c.key != k
        lineList := s.lineList.filter fun j => j != k
        sets := (s.dropNaming b.binding.setNo).sets
        attention := (if b.incomplete then (s.raise .bodyExit b.psn.toNat).raise .bodyIncomplete b.tag.toNat
          else s.raise .bodyExit b.psn.toNat).attention
        due := s.due ++ (s.presentRobots.map .recompute ++ [.admission]) } := by
  rw [exitBody, hb]
  dsimp only
  rw [freeBody_of_some hb, ← List.append_assoc]
  split <;> rfl

/-! ### Aborts (R155) -/

theorem abortable_eq_some_iff (r : Nat) (sel : Selection) :
    s.abortable k r = some sel ↔ sel.key = k ∧
      ((s.robot r).motion = .selecting sel ∨ (s.robot r).motion = .selected sel ∨ (s.robot r).motion = .welding sel) := by
  unfold abortable
  cases (s.robot r).motion with
  | idle => simp
  | aborting sel' => simp
  | selecting sel' | selected sel' | welding sel' =>
    simp only [Option.ite_none_right_eq_some, Option.some.injEq, reduceCtorEq, Motion.selecting.injEq, Motion.selected.injEq,
      Motion.welding.injEq, or_false, false_or]
    constructor
    · rintro ⟨hkey, rfl⟩
      exact ⟨hkey, rfl⟩
    · rintro ⟨hkey, rfl⟩
      exact ⟨hkey, rfl⟩

theorem mem_abortSet (r : Nat) : r ∈ s.abortSet i k ↔ r ∈ s.robotsAt i ∧ s.abortable k r ≠ none := by
  simp [abortSet, Option.isSome_iff_ne_none]

/-- The robot whose selection is aborted (R155). -/
def abortingRobot (sel : Selection) (b : Robot) : Robot := { b with motion := .aborting sel, busy := none, pollTimer := 0 }

/-- Its pending transactions: the unsent SELECT gone, and the ABORT in the place of one still pending (R155). -/
def abortingPend (s : State) (r : Nat) (sel : Selection) (p : Pend) : Pend :=
  { p with
    select := none
    abort := some ⟨.abort, .abort sel.slot (s.robot r).dispatch false, s.line.replyTimeout, s.line.retryLimit⟩ }

theorem startAbort_eq (r : Nat) (sel : Selection) :
    s.startAbort r sel =
      { s with
        robots := tset s.robots r (abortingRobot sel (s.robot r))
        pend := tset s.pend r (s.abortingPend r sel (s.pendOf r))
        due := s.due ++ [.recompute r] } := rfl

/-- The abort of one robot of a list, where it works for record `k`. -/
def abortOne (k r : Nat) (s : State) : State :=
  match s.abortable k r with
  | some sel => s.startAbort r sel
  | none => s

theorem abortAll_cons (r : Nat) (rs : List Nat) : s.abortAll k (r :: rs) = (s.abortOne k r).abortAll k rs := rfl

theorem abortAll_frame_eq (rs : List Nat) :
    s.abortAll k rs =
      { s with
        robots := (s.abortAll k rs).robots, pend := (s.abortAll k rs).pend, due := (s.abortAll k rs).due } := by
  induction rs generalizing s with
  | nil => rfl
  | cons r rs ih =>
    rw [abortAll_cons, ih]
    unfold abortOne
    split <;> rfl

theorem abortAll_nil : s.abortAll k [] = s := rfl

theorem abortOne_of_none {r : Nat} (hr : s.abortable k r = none) : s.abortOne k r = s := by
  rw [abortOne, hr]

theorem abortOne_of_some {r : Nat} {sel : Selection} (hr : s.abortable k r = some sel) : s.abortOne k r = s.startAbort r sel := by
  rw [abortOne, hr]

theorem abortable_congr {t : State} {r : Nat} (hr : t.robot r = s.robot r) : t.abortable k r = s.abortable k r := by
  rw [abortable, abortable, hr]

/-- A robot that is not in the list, or works for no selection of record `k`, stays as it is. -/
theorem robot_abortAll_of_not {r : Nat} (rs : List Nat) (hr : r ∉ rs ∨ s.abortable k r = none) :
    (s.abortAll k rs).robot r = s.robot r ∧ (s.abortAll k rs).pendOf r = s.pendOf r := by
  induction rs generalizing s with
  | nil => exact ⟨rfl, rfl⟩
  | cons q rs ih =>
    rw [abortAll_cons]
    have hone : (s.abortOne k q).robot r = s.robot r ∧ (s.abortOne k q).pendOf r = s.pendOf r := by
      cases hq : s.abortable k q with
      | none => rw [abortOne_of_none hq]; exact ⟨rfl, rfl⟩
      | some sel =>
        have hne : r ≠ q := by
          rintro rfl
          obtain hmem | hnone := hr
          · exact hmem List.mem_cons_self
          · simp [hnone] at hq
        rw [abortOne_of_some hq, startAbort_eq]
        exact ⟨tget_tset_ne _ _ _ _ _ hne, tget_tset_ne _ _ _ _ _ hne⟩
    have hrest := ih (s := s.abortOne k q)
      (hr.imp (fun hmem h => hmem (List.mem_cons_of_mem _ h)) fun hnone => (abortable_congr hone.1).trans hnone)
    exact ⟨hrest.1.trans hone.1, hrest.2.trans hone.2⟩

/-- A robot of the list that works for record `k` is ABORTING, with its ABORT pending (R155). -/
theorem robot_abortAll_of_mem {r : Nat} {sel : Selection} {rs : List Nat} (hmem : r ∈ rs) (hlt : r < 32)
    (hr : s.abortable k r = some sel) :
    (s.abortAll k rs).robot r = abortingRobot sel (s.robot r) ∧
      (s.abortAll k rs).pendOf r = s.abortingPend r sel (s.pendOf r) := by
  induction rs generalizing s with
  | nil => cases hmem
  | cons q rs ih =>
    rw [abortAll_cons]
    by_cases hq : r = q
    · subst hq
      have hself : (s.startAbort r sel).robot r = abortingRobot sel (s.robot r) ∧
          (s.startAbort r sel).pendOf r = s.abortingPend r sel (s.pendOf r) := by
        rw [startAbort_eq]
        exact ⟨tget_tset_self _ _ _ _ hlt, tget_tset_self _ _ _ _ hlt⟩
      have hdone : (s.startAbort r sel).abortable k r = none := by
        rw [abortable, hself.1]
        rfl
      rw [abortOne_of_some hr]
      obtain ⟨hrobot, hpend⟩ := robot_abortAll_of_not (s := s.startAbort r sel) (k := k) rs (.inr hdone)
      exact ⟨hrobot.trans hself.1, hpend.trans hself.2⟩
    · have hrs : r ∈ rs := (List.mem_cons.mp hmem).resolve_left hq
      obtain ⟨hrobot, hpend⟩ := robot_abortAll_of_not (s := s) (k := k) [q] (r := r) (.inl (by simpa using hq))
      have hrobot' : (s.abortOne k q).robot r = s.robot r := hrobot
      have hpend' : (s.abortOne k q).pendOf r = s.pendOf r := hpend
      obtain ⟨hrobot2, hpend2⟩ := ih (s := s.abortOne k q) hrs ((abortable_congr hrobot').trans hr)
      have hline : (s.abortOne k q).line = s.line := by
        unfold abortOne
        split <;> rfl
      refine ⟨by rw [hrobot2, hrobot'], hpend2.trans ?_⟩
      rw [hpend', abortingPend, abortingPend, hrobot', hline]

/-- The recomputations owed as robots are aborted are theirs. -/
theorem mem_due_abortAll {rs : List Nat} {d : Due} (hd : d ∈ (s.abortAll k rs).due) : d ∈ s.due ∨ ∃ r ∈ rs, d = .recompute r := by
  induction rs generalizing s with
  | nil => exact .inl hd
  | cons q rs ih =>
    rw [abortAll_cons] at hd
    obtain hd | ⟨r, hr, rfl⟩ := ih hd
    · cases hq : s.abortable k q with
      | none =>
        rw [abortOne_of_none hq] at hd
        exact .inl hd
      | some sel =>
        rw [abortOne_of_some hq, startAbort_eq] at hd
        obtain hd | hd := List.mem_append.mp hd
        · exact .inl hd
        · exact .inr ⟨q, List.mem_cons_self, List.mem_singleton.mp hd⟩
    · exact .inr ⟨r, List.mem_cons_of_mem _ hr, rfl⟩

theorem due_subset_abortAll (rs : List Nat) {d : Due} (hd : d ∈ s.due) : d ∈ (s.abortAll k rs).due := by
  induction rs generalizing s with
  | nil => exact hd
  | cons q rs ih =>
    rw [abortAll_cons]
    refine ih ?_
    unfold abortOne
    split
    · exact List.mem_append_left _ hd
    · exact hd

end State
end Machine
end Sys2Proof
end

section
/-!
SUPPORT. Departures (O23, O24): DEPART as far as the tracker's departure, and the departure from a COMPLETE and from a WELDING station.
-/
namespace Sys2Proof
namespace Machine
namespace State

variable {s : State} {i k : Nat} {b : Body}

/-! ### The requests of a station (R46) -/

theorem stationRefusal_eq_none {h : Hdr} (hlen : h.lengthOk = true) (hrun : s.mode = .run) (hi : i < s.stationCount)
    (hzone : s.inZone h.port i = true) : s.stationRefusal h i = none := by
  simp [stationRefusal, hrun, hlen, hi, hzone]

theorem frameDeparture_of_not_both (hsource : (s.station i).source ≠ .both) : s.frameDeparture i = s.departure i := by
  unfold frameDeparture
  split
  · next hboth => exact absurd hboth hsource
  · rfl

/-- The report of a reply, once the station is known (R69). -/
theorem reportView_eq {t : State} {st : StationState} {moved : Option BodyName} (hstate : (t.station i).state = st)
    (hlines : t.lines = s.lines) (hlayout : t.layout = s.layout) :
    t.reportView i moved = ⟨st, moved, s.present i, (s.presence i).window⟩ := by
  simp only [reportView, hstate, present, presence, stationRec, hlines, hlayout]

/-- What DEPART does at a station that is not BOTH (R69). -/
theorem departBlock_of_departure {h : Hdr} (hlen : h.lengthOk = true) (hrun : s.mode = .run) (hi : i < s.stationCount)
    (hzone : s.inZone h.port i = true) (hsource : (s.station i).source ≠ .both) {t : State} {moved : Option BodyName}
    (hd : s.departure i = (t, moved)) {st : StationState} (hstate : (t.station i).state = st) (hlines : t.lines = s.lines)
    (hlayout : t.layout = s.layout) :
    departBlock h i s = t.done (.report ⟨st, moved, s.present i, (s.presence i).window⟩) := by
  simp only [departBlock, stationRefusal_eq_none hlen hrun hi hzone, frameDeparture_of_not_both hsource, hd,
    reportView_eq hstate hlines hlayout]

/-! ### Departures (R54) -/

section
variable (hk : (s.station i).body = some b.key) (hb : s.bodyOf b.key = some b)
include hk hb

theorem departure_of_complete (hstate : (s.station i).state = .complete) :
    s.departure i = (((s.vacate i .empty []).moveOn i b.key).oweAll, some ⟨b.tag, b.psn⟩) := by
  simp only [departure, hk, hb, hstate]

theorem departure_of_welding (hstate : (s.station i).state = .welding ∨ (s.station i).state = .fault) :
    s.departure i = ((s.leaveUnwelded i b.key true).oweAll, some ⟨b.tag, b.psn⟩) := by
  obtain hstate | hstate := hstate <;> simp only [departure, hk, hb, hstate]

end

/-- The recomputations of the robots of a station owed as it goes between states that are not ARRIVED: none (R128). -/
theorem enterDue_of_not_arrived {st : StationState} (hold : (s.station i).state ≠ .arrived) (hnew : st ≠ .arrived) :
    s.enterDue i st = [] :=
  if_pos (iff_of_false hold hnew)

theorem moveOn_of_last (hlast : i + 1 = s.stationCount) : s.moveOn i k = s.exitBody k := if_pos hlast

theorem moveOn_of_not_last (hlast : i + 1 ≠ s.stationCount) :
    s.moveOn i k = s.modBody k fun b => { b with state := .onLine (.before (i + 1)) } := if_neg hlast

/-- The departure from a COMPLETE station short of the last one (R54). -/
theorem departed_of_not_last (hi : i < 16) (hstate : (s.station i).state = .complete) (hlast : i + 1 ≠ s.stationCount) :
    ((s.vacate i .empty []).moveOn i k).oweAll =
      { s with
        stations := tset s.stations i
          { s.station i with state := .empty, body := none, work := none, cause := none, running := false, abortWait := [] }
        bodies := (s.modBody k fun b => { b with state := .onLine (.before (i + 1)) }).bodies
        due := s.due ++ s.presentRobots.map .recompute } := by
  have hdue : s.enterDue i .empty = [] := enterDue_of_not_arrived (by simp [hstate]) (by simp)
  rw [vacate_eq hi, hdue, List.append_nil, moveOn_of_not_last]
  · rfl
  · exact hlast

/-- The departure from the last station, COMPLETE: the body exits (R54, R57). -/
theorem departed_of_last (hi : i < 16) (hstate : (s.station i).state = .complete) (hlast : i + 1 = s.stationCount)
    (hb : s.bodyOf k = some b) :
    ((s.vacate i .empty []).moveOn i k).oweAll =
      { s with
        stations := tset s.stations i
          { s.station i with state := .empty, body := none, work := none, cause := none, running := false, abortWait := [] }
        bodies := s.bodies.filter fun c => c.key != k
        lineList := s.lineList.filter fun j => j != k
        sets := (s.dropNaming b.binding.setNo).sets
        attention := (if b.incomplete then (s.raise .bodyExit b.psn.toNat).raise .bodyIncomplete b.tag.toNat
          else s.raise .bodyExit b.psn.toNat).attention
        due := s.due ++ (s.presentRobots.map .recompute ++ [.admission]) ++ s.presentRobots.map .recompute } := by
  have hdue : s.enterDue i .empty = [] := enterDue_of_not_arrived (by simp [hstate]) (by simp)
  rw [vacate_eq hi, hdue, List.append_nil, moveOn_of_last, exitBody_of_some]
  · cases b.binding.setNo <;> cases b.incomplete <;> rfl
  · exact hb
  · exact hlast

end State

/-- Settles O23: the station is vacated, and the body goes on or exits. -/
theorem departFromCompleteMovesTheBody : Obligations.DepartFromCompleteMovesTheBody := by
  intro s h i b ⟨hlistens, hgrants, hlen⟩ hrun hi hlt hzone hsource hstate hk hb
  have hdeparture := State.departure_of_complete (s := s.goodFrameOn h.port.val) hk hb hstate
  by_cases hlast : i + 1 = s.stationCount
  · rw [State.departed_of_last (s := s.goodFrameOn h.port.val) hlt hstate hlast hb] at hdeparture
    have hblock := State.departBlock_of_departure (s := s.goodFrameOn h.port.val) hlen hrun hi hzone hsource hdeparture
      (congrArg Station.state (tget_tset_self _ _ _ _ hlt)) rfl rfl
    obtain ⟨hexec, hanswered⟩ := s.exec_request_of_block (i := .depart h i) rfl hlistens hgrants hblock rfl
    refine ⟨_, hexec, hanswered, tget_tset_self _ _ _ _ hlt, fun j hj => tget_tset_ne _ _ _ _ _ hj, fun d => ?_,
      fun hmore => absurd hlast hmore.ne, fun _ => ⟨rfl, rfl, fun n => ?_, by cases b.incomplete <;> rfl, rfl⟩⟩
    · change d ∈ s.due ++ (s.presentRobots.map .recompute ++ [.admission]) ++ s.presentRobots.map .recompute ↔ _
      simp only [List.mem_append, State.mem_recomputeAll, List.mem_singleton, hlast, and_true]
      exact or_iff_left_of_imp fun hall => .inr (.inl hall)
    · change ((s.goodFrameOn h.port.val).dropNaming b.binding.setNo).dispatchSet n = _
      rw [State.dispatchSet_dropNaming]
      simp only [State.binding_setNo_eq_some_iff]
      rfl
  · rw [State.departed_of_not_last (s := s.goodFrameOn h.port.val) hlt hstate hlast] at hdeparture
    have hblock := State.departBlock_of_departure (s := s.goodFrameOn h.port.val) hlen hrun hi hzone hsource hdeparture
      (congrArg Station.state (tget_tset_self _ _ _ _ hlt)) rfl rfl
    obtain ⟨hexec, hanswered⟩ := s.exec_request_of_block (i := .depart h i) rfl hlistens hgrants hblock rfl
    refine ⟨_, hexec, hanswered, tget_tset_self _ _ _ _ hlt, fun j hj => tget_tset_ne _ _ _ _ _ hj, fun d => ?_,
      fun _ => ⟨State.bodyOf_modBody_eq (s := s) (fun _ => rfl) hb, fun k hk => State.bodyOf_modBody_ne s _ _ _ (fun _ => rfl) hk, rfl⟩,
      fun hlast' => absurd hlast' hlast⟩
    change d ∈ s.due ++ s.presentRobots.map .recompute ↔ _
    simp only [List.mem_append, State.mem_recomputeAll, hlast, and_false, or_false]

end Machine
end Sys2Proof
end

section
/-!
SUPPORT. The unwelded departure (O24): a body that leaves an unfinished station, downstream or by a pull.
-/
namespace Sys2Proof
namespace Machine
namespace State

variable {s u : State} {i k : Nat} {b : Body}

/-- Two changes of one record, where the first keeps the key. -/
theorem modBody_modBody {f : Body → Body} (hf : ∀ b, (f b).key = b.key) (g : Body → Body) :
    (s.modBody k f).modBody k g = s.modBody k fun b => g (f b) := by
  simp only [modBody, List.map_map]
  congr 1
  refine List.map_congr_left fun c _ => ?_
  by_cases hc : c.key = k
  · simp [hc, hf]
  · simp [hc]

/-- The record of a body that leaves an unfinished station (R55). -/
def unfinishedBody (i : Nat) (b : Body) : Body := { b with results := tset b.results i .incomplete, incomplete := true }

/-- The state as record `b` leaves the unfinished station `i`, ahead of its move and of the aborts (R55). -/
def unfinished (i k : Nat) (b : Body) (s : State) : State :=
  { s with
    stations := tset s.stations i
      { s.station i with
        state := if s.abortSet i k = [] then .empty else .clearing
        body := none, work := none, cause := none, running := false, abortWait := s.abortSet i k }
    bodies := (s.modBody k (unfinishedBody i)).bodies
    attention := (s.raise .bodyIncomplete b.tag.toNat).attention
    due := s.due ++ s.enterDue i (if s.abortSet i k = [] then .empty else .clearing) }

theorem leaveUnwelded_eq (hi : i < 16) (hb : s.bodyOf k = some b) (move : Bool) :
    s.leaveUnwelded i k move =
      (if move then (s.unfinished i k b).moveOn i k else s.unfinished i k b).abortAll k (s.abortSet i k) := by
  have hmarked : (s.modBody k (Body.setResult i .incomplete)).markIncomplete k =
      (s.modBody k (unfinishedBody i)).raise .bodyIncomplete b.tag.toNat := by
    rw [State.markIncomplete_of_some _ _ (bodyOf_modBody_eq (f := Body.setResult i .incomplete) (fun _ => rfl) hb), modBody_modBody (f := Body.setResult i .incomplete) fun _ => rfl]
    rfl
  simp only [leaveUnwelded, hmarked, vacate_eq hi]
  rfl

section
variable (hrobots : u.robots = s.robots) (hpend : u.pend = s.pend) (hlayout : u.layout = s.layout)
include hrobots hpend

/-- A robot that does not work for the body keeps its context and its transactions. -/
theorem robot_abortAll_abortSet_of_not {r : Nat} (hr : r ∉ s.abortSet i k) :
    (u.abortAll k (s.abortSet i k)).robot r = s.robot r ∧ (u.abortAll k (s.abortSet i k)).pendOf r = s.pendOf r := by
  obtain ⟨hrobot, hpendOf⟩ := robot_abortAll_of_not (s := u) (k := k) _ (.inl hr)
  exact ⟨hrobot.trans (by simp only [robot, hrobots]), hpendOf.trans (by simp only [pendOf, hpend])⟩

include hlayout in
/-- A robot of the station that works for the body is ABORTING, with its ABORT pending (R155). -/
theorem robot_abortAll_abortSet {r : Nat} {sel : Selection} (hlt : r < 32) (hstation : s.stationOf r = some i)
    (hsel : sel.key = k)
    (hmotion : (s.robot r).motion = .selecting sel ∨ (s.robot r).motion = .selected sel ∨ (s.robot r).motion = .welding sel) :
    (u.abortAll k (s.abortSet i k)).robot r = { s.robot r with motion := .aborting sel, busy := none, pollTimer := 0 } ∧
      (u.abortAll k (s.abortSet i k)).pendOf r = { s.pendOf r with
        select := none
        abort := some ⟨.abort, .abort sel.slot (s.robot r).dispatch false, s.line.replyTimeout, s.line.retryLimit⟩ } := by
  have hrobot : u.robot r = s.robot r := by simp only [robot, hrobots]
  have hpendOf : u.pendOf r = s.pendOf r := by simp only [pendOf, hpend]
  have hline : u.line = s.line := congrArg Layout.line hlayout
  have habortable : s.abortable k r = some sel := (abortable_eq_some_iff r sel).mpr ⟨hsel, hmotion⟩
  have hmem : r ∈ s.abortSet i k :=
    (mem_abortSet r).mpr ⟨(mem_robotsAt r).mpr ⟨hlt, hstation⟩, by simp [habortable]⟩
  obtain ⟨hrobot', hpend'⟩ := robot_abortAll_of_mem (s := u) hmem hlt ((abortable_congr hrobot).trans habortable)
  refine ⟨hrobot'.trans (by rw [hrobot]; rfl), hpend'.trans ?_⟩
  rw [abortingPend, hrobot, hpendOf, hline]

end

/-- Once every robot's recomputation is owed, those of the aborts add none. -/
theorem mem_due_oweAll_abortAll (hlayout : u.layout = s.layout) (d : Due) :
    d ∈ (u.abortAll k (s.abortSet i k)).oweAll.due ↔ d ∈ u.due ∨ ∃ r ∈ s.presentRobots, d = .recompute r := by
  have hpresent : (u.abortAll k (s.abortSet i k)).presentRobots = s.presentRobots := by
    rw [abortAll_frame_eq]
    simp only [presentRobots, place, hlayout]
  rw [oweAll, owe, List.mem_append, hpresent, mem_recomputeAll]
  constructor
  · rintro (hd | hall)
    · refine (mem_due_abortAll hd).imp_right ?_
      rintro ⟨r, hr, rfl⟩
      exact ⟨r, mem_presentRobots_of_mem_robotsAt ((mem_abortSet r).mp hr).1, rfl⟩
    · exact .inr hall
  · exact Or.imp_left (due_subset_abortAll _)

/-- The events owed as a body leaves an unfinished station are recomputations. -/
theorem mem_due_unfinished (d : Due) :
    d ∈ (s.unfinished i k b).due ∨ (∃ r ∈ s.presentRobots, d = .recompute r) ↔
      d ∈ s.due ∨ ∃ r ∈ s.presentRobots, d = .recompute r := by
  constructor
  · rintro (hd | hall)
    · obtain hd | hd := List.mem_append.mp hd
      · exact .inl hd
      · exact .inr (mem_enterDue_imp hd)
    · exact .inr hall
  · exact Or.imp_left fun hd => List.mem_append_left _ hd

/-- What a body that leaves the unfinished station `i` leaves behind, once every recomputation is owed (R55, R155). -/
structure LeftUnfinished (i k : Nat) (b : Body) (s v : State) : Prop where
  stations : v.stations = tset s.stations i
    { s.station i with
      state := if s.abortSet i k = [] then .empty else .clearing
      body := none, work := none, cause := none, running := false, abortWait := s.abortSet i k }
  attention : v.attention = (s.raise .bodyIncomplete b.tag.toNat).attention
  others : ∀ r, r ∉ s.abortSet i k → v.robot r = s.robot r ∧ v.pendOf r = s.pendOf r
  aborting : ∀ r sel, r < 32 → s.stationOf r = some i → sel.key = k →
    ((s.robot r).motion = .selecting sel ∨ (s.robot r).motion = .selected sel ∨ (s.robot r).motion = .welding sel) →
    v.robot r = { s.robot r with motion := .aborting sel, busy := none, pollTimer := 0 } ∧
    v.pendOf r = { s.pendOf r with
      select := none
      abort := some ⟨.abort, .abort sel.slot (s.robot r).dispatch false, s.line.replyTimeout, s.line.retryLimit⟩ }
  due : ∀ d, d ∈ v.due ↔ d ∈ s.due ∨ ∃ r ∈ s.presentRobots, d = .recompute r

/-- The departure from WELDING or FAULT, short of the last station (R54, R55). -/
theorem departure_unfinished (hi : i < 16) (hlast : i + 1 ≠ s.stationCount) (hk : (s.station i).body = some b.key)
    (hb : s.bodyOf b.key = some b) (hstate : (s.station i).state = .welding ∨ (s.station i).state = .fault) :
    ∃ v, s.departure i = (v, some ⟨b.tag, b.psn⟩) ∧ LeftUnfinished i b.key b s v ∧
      v.bodies = (s.modBody b.key fun c => { unfinishedBody i c with state := .onLine (.before (i + 1)) }).bodies ∧
      v = { s with
        bodies := v.bodies, stations := v.stations, attention := v.attention, due := v.due, robots := v.robots, pend := v.pend } := by
  have hdeparture := departure_of_welding hk hb hstate
  rw [leaveUnwelded_eq hi hb, if_pos rfl, moveOn_of_not_last (s := s.unfinished i b.key b) hlast] at hdeparture
  refine ⟨_, hdeparture, ⟨?_, ?_, fun r hr => robot_abortAll_abortSet_of_not rfl rfl hr,
    fun r sel hr hstation hsel hmotion => robot_abortAll_abortSet rfl rfl rfl hr hstation hsel hmotion,
    fun d => (mem_due_oweAll_abortAll (by exact rfl) d).trans (mem_due_unfinished (b := b) d)⟩, ?_, ?_⟩
  · rw [abortAll_frame_eq]
    rfl
  · rw [abortAll_frame_eq]
    rfl
  · rw [abortAll_frame_eq]
    have hbodies := congrArg bodies (modBody_modBody (s := s) (k := b.key) (f := unfinishedBody i) (fun _ => rfl)
      fun c => { c with state := .onLine (.before (i + 1)) })
    exact hbodies
  · rw [abortAll_frame_eq]
    rfl

end State

/-- Settles O24: the departure from WELDING is the one from an unfinished station. -/
theorem unweldedDepartureAbortsItsRobots : Obligations.UnweldedDepartureAbortsItsRobots := by
  intro s h i b ⟨hlistens, hgrants, hlen⟩ hrun hi hlt hzone hsource hstate hk hb
  obtain ⟨v, hdeparture, hleft, hbodies, hv⟩ :=
    State.departure_unfinished (s := s.goodFrameOn h.port.val) hlt hi.ne hk hb (.inl hstate)
  have hstation : ∀ j, v.station j = tget (.powerOn 0 .line 6000) v.stations j := fun _ => rfl
  rw [hleft.stations] at hstation
  have hblock := State.departBlock_of_departure (s := s.goodFrameOn h.port.val) hlen hrun (Nat.lt_of_succ_lt hi) hzone hsource
    hdeparture (congrArg Station.state ((hstation i).trans (tget_tset_self _ _ _ _ hlt))) (by rw [hv]) (by rw [hv])
  obtain ⟨hexec, hanswered⟩ := s.exec_request_of_block (i := .depart h i) rfl hlistens hgrants hblock (by rw [hv])
  refine ⟨_, hexec, hanswered, ?_, fun j hj => ?_, (hstation i).trans (tget_tset_self _ _ _ _ hlt),
    fun j hj => (hstation j).trans (tget_tset_ne _ _ _ _ _ hj), hleft.attention, hleft.others, hleft.aborting, hleft.due,
    ?_⟩
  · exact (State.bodyOf_congr _ _ hbodies).trans (State.bodyOf_modBody_eq (s := s) (fun _ => rfl) hb)
  · exact (State.bodyOf_congr _ _ hbodies).trans (State.bodyOf_modBody_ne s _ _ _ (fun _ => rfl) hj)
  · rw [State.sendReply_eq, hv]
    rfl

end Machine
end Sys2Proof
end

section
/-!
SUPPORT. PULL and SCRAP (O25): the records a tag names (R46), the components of an unopened station (R52), and the body taken off
its station.
-/
namespace Sys2Proof
namespace Machine
namespace State

variable {s : State} {i k : Nat} {b : Body}

/-! ### The record a tag names (R46) -/

theorem tagged_isEmpty_iff (tag : Word) : (s.tagged tag).isEmpty ↔ ∀ b ∈ s.bodies, b.tag ≠ tag := by
  simp [tagged]

theorem actOn_of_find {tag : Word} {acts : Body → Bool} (hfind : (s.tagged tag).find? acts = some b) :
    s.actOn tag acts = .ok b := by
  have hne : (s.tagged tag).isEmpty = false := by
    cases hl : s.tagged tag with
    | nil => simp [hl] at hfind
    | cons c l => rfl
  simp [actOn, hne, hfind]

theorem actOn_of_unknown {tag : Word} (acts : Body → Bool) (htag : ∀ b ∈ s.bodies, b.tag ≠ tag) :
    s.actOn tag acts = .error .unknown :=
  if_pos ((tagged_isEmpty_iff tag).mpr htag)

theorem actOn_of_none {tag : Word} {acts : Body → Bool} (htag : ∃ b ∈ s.bodies, b.tag = tag)
    (hnone : ∀ b ∈ s.bodies, b.tag = tag → acts b = false) : s.actOn tag acts = .error .state := by
  obtain ⟨b, hb, heq⟩ := htag
  have hne : ¬ (s.tagged tag).isEmpty := fun hempty => (tagged_isEmpty_iff tag).mp hempty b hb heq
  have hfind : (s.tagged tag).find? acts = none := by
    rw [List.find?_eq_none]
    intro c hc
    obtain ⟨hmem, htag⟩ := List.mem_filter.mp hc
    simp [hnone c hmem (by simpa using htag)]
  simp [actOn, hne, hfind]

theorem isPulled_of_pulled {x : Byte} (hb : b.state = .pulled x) : isPulled b = true := by
  simp only [isPulled, hb]

theorem isPulled_of_not (hb : b.state = .admitted ∨ ∃ pos, b.state = .onLine pos) : isPulled b = false := by
  obtain hb | ⟨pos, hb⟩ := hb <;> simp only [isPulled, hb]

/-! ### Work not opened (R52) -/

theorem workFor_eq : s.workFor i b = (s.robotsAt i).map fun r => ⟨r,
    if b.result i = .welded ∨ b.result i = .passed ∨ s.resolve b r = none then .none
    else if (s.robot r).enabled then .owed else .skipped, false⟩ := by
  refine List.map_congr_left fun r _ => ?_
  simp only [componentFor, Option.isNone_iff_eq_none, ← or_assoc (a := b.result i = .welded)]
  by_cases hdecided : b.result i = .welded ∨ b.result i = .passed
  · simp only [hdecided, true_or, if_true]
  · simp only [hdecided, false_or, if_false]

theorem itemsAt_eq {items : List WorkItem} (hitems : (s.station i).work = some items ∨ (s.station i).work = none ∧
      items = (s.robotsAt i).map (fun r => ⟨r,
        if b.result i = .welded ∨ b.result i = .passed ∨ s.resolve b r = none then .none
        else if (s.robot r).enabled then .owed else .skipped, false⟩)) : s.itemsAt i b = items := by
  obtain hwork | ⟨hwork, rfl⟩ := hitems
  · simp only [itemsAt, hwork]
  · simp only [itemsAt, hwork, workFor_eq]

theorem owesNothing_eq_true_iff : s.owesNothing i b = true ↔ ∀ w ∈ s.itemsAt i b, w.comp ≠ .owed := by
  simp [owesNothing]

theorem owesNothing_eq_false_iff : s.owesNothing i b = false ↔ ∃ w ∈ s.itemsAt i b, w.comp = .owed := by
  simp [owesNothing]

/-- A station that owes the body something, by its components or by those R52 would build. -/
theorem owes_of_work (hwork : (∃ items, (s.station i).work = some items ∧ ∃ w ∈ items, w.comp = .owed) ∨
      (s.station i).work = none ∧ b.result i ≠ .welded ∧ b.result i ≠ .passed ∧
        ∃ r ∈ s.robotsAt i, s.resolve b r ≠ none ∧ (s.robot r).enabled = true) : s.owesNothing i b = false := by
  rw [owesNothing_eq_false_iff]
  obtain ⟨items, hsome, w, hw, howed⟩ | ⟨hnone, hwelded, hpassed, r, hr, hresolve, henabled⟩ := hwork
  · exact ⟨w, by rwa [itemsAt_eq (.inl hsome)], howed⟩
  · rw [itemsAt_eq (.inr ⟨hnone, rfl⟩)]
    refine ⟨_, List.mem_map_of_mem hr, ?_⟩
    simp [hwelded, hpassed, hresolve, henabled]

theorem any_skipped_iff (items : List WorkItem) :
    (items.any fun w => w.comp == .skipped) = true ↔ ∃ w ∈ items, w.comp = .skipped := by simp

/-! ### A body taken from a station it is done with (R54, R58) -/

/-- What a body that leaves a station owing it nothing leaves behind (R54): its result there, and the station EMPTY. -/
structure LeftFinished (i : Nat) (b : Body) (result : Result) (skipped : Bool) (s v : State) : Prop where
  body : v.bodyOf b.key = some { b with results := tset b.results i result, incomplete := b.incomplete || skipped }
  bodies : ∀ k, k ≠ b.key → v.bodyOf k = s.bodyOf k
  attention : v.attention = (if skipped then s.raise .bodyIncomplete b.tag.toNat else s).attention
  state : v = { s with
    bodies := v.bodies
    stations := tset s.stations i
      { s.station i with state := .empty, body := none, work := none, cause := none, running := false, abortWait := [] }
    attention := v.attention
    due := s.due ++ s.enterDue i .empty }

theorem tset_result_self : tset b.results i (b.result i) = b.results := by
  refine Vector.ext fun j hj => ?_
  simp only [tset, Body.result, tget, Vector.getElem_setIfInBounds]
  split
  · next h =>
    subst h
    simp [hj]
  · rfl

/-- Leaving COMPLETE keeps the result (R54). -/
theorem leftFinished_of_complete (hi : i < 16) (hb : s.bodyOf b.key = some b) :
    LeftFinished i b (b.result i) false s (s.vacate i .empty []) := by
  rw [vacate_eq hi]
  refine ⟨?_, fun _ _ => rfl, rfl, rfl⟩
  rw [tset_result_self, Bool.or_false]
  exact hb

theorem leftFinished_of_unowed (hi : i < 16) (hb : s.bodyOf b.key = some b) :
    LeftFinished i b (unowedResult i b (s.itemsAt i b)) ((s.itemsAt i b).any fun w => w.comp == .skipped) s
      (s.leaveUnowed i b.key b) := by
  have hresult := bodyOf_modBody_eq (f := Body.setResult i (unowedResult i b (s.itemsAt i b))) (fun _ => rfl) hb
  have hother := fun k (hk : k ≠ b.key) =>
    bodyOf_modBody_ne s b.key k (Body.setResult i (unowedResult i b (s.itemsAt i b))) (fun _ => rfl) hk
  unfold leaveUnowed
  dsimp only
  cases hskipped : (s.itemsAt i b).any fun w => w.comp == .skipped with
  | true =>
    simp only [if_true, markIncomplete_of_some _ _ hresult, vacate_eq hi]
    refine ⟨?_, fun k hk => ?_, rfl, rfl⟩
    · rw [Bool.or_true]
      exact bodyOf_modBody_eq (f := fun b => { b with incomplete := true }) (fun _ => rfl) hresult
    · exact (bodyOf_modBody_ne _ b.key k (fun b => { b with incomplete := true }) (fun _ => rfl) hk).trans (hother k hk)
  | false =>
    simp only [if_false, vacate_eq hi, Bool.false_eq_true]
    refine ⟨?_, hother, rfl, rfl⟩
    rw [Bool.or_false]
    exact hresult

/-! ### PULL and SCRAP (R58, R60) -/

/-- Record `b` taken off the Line List as PULLED, once its station is left (R58). -/
def pulledOff (b : Body) (reason : Byte) (s : State) : State :=
  ({ s.modBody b.key fun x => { x with state := .pulled reason } with
     lineList := s.lineList.filter fun j => j != b.key } : State).oweAll

theorem pullBody_of_not_at (reason : Byte) (hnot : ∀ i, b.state ≠ .onLine (.atStation i)) :
    s.pullBody b reason = if b.state = .admitted then (s.pulledOff b reason).owe [.admission] else s.pulledOff b reason := by
  unfold pullBody
  cases hstate : b.state with
  | admitted => rfl
  | pulled => rfl
  | onLine pos =>
    cases pos with
    | before => rfl
    | atStation i => exact absurd hstate (hnot i)

section
variable (reason : Byte) (hstate : b.state = .onLine (.atStation i))
include hstate

theorem pullBody_of_complete (hcomplete : (s.station i).state = .complete) :
    s.pullBody b reason = (s.vacate i .empty []).pulledOff b reason := by
  simp only [pullBody, hstate, hcomplete, reduceCtorEq, if_false]
  rfl

theorem pullBody_of_unowed (harrived : (s.station i).state = .arrived) (howes : s.owesNothing i b = true) :
    s.pullBody b reason = (s.leaveUnowed i b.key b).pulledOff b reason := by
  simp only [pullBody, hstate, harrived, howes, reduceCtorEq, if_false, if_true]
  rfl

theorem pullBody_of_unfinished (hunfinished : (s.station i).state = .welding ∨ (s.station i).state = .fault ∨
      (s.station i).state = .arrived ∧ s.owesNothing i b = false) :
    s.pullBody b reason = (s.leaveUnwelded i b.key false).pulledOff b reason := by
  obtain hst | hst | ⟨hst, howes⟩ := hunfinished
  · simp only [pullBody, hstate, hst, reduceCtorEq, if_false]
    rfl
  · simp only [pullBody, hstate, hst, reduceCtorEq, if_false]
    rfl
  · simp only [pullBody, hstate, hst, howes, reduceCtorEq, if_false, Bool.false_eq_true]
    rfl

end

/-- A body pulled from a station done with it: what is left behind, with the record PULLED (R58). -/
theorem pulled_finished {v : State} {result : Result} {skipped : Bool} (hleft : LeftFinished i b result skipped s v)
    (reason : Byte) :
    (v.pulledOff b reason).bodyOf b.key = some { b with
        state := .pulled reason, results := tset b.results i result, incomplete := b.incomplete || skipped } ∧
      (∀ k, k ≠ b.key → (v.pulledOff b reason).bodyOf k = s.bodyOf k) ∧
      v.pulledOff b reason = { s with
        bodies := (v.pulledOff b reason).bodies
        lineList := s.lineList.filter fun j => j != b.key
        stations := tset s.stations i
          { s.station i with state := .empty, body := none, work := none, cause := none, running := false, abortWait := [] }
        attention := v.attention
        due := s.due ++ s.enterDue i .empty ++ s.presentRobots.map .recompute } := by
  obtain ⟨hbody, hbodies, hattention, hstate⟩ := hleft
  refine ⟨bodyOf_modBody_eq (f := fun x => { x with state := .pulled reason }) (fun _ => rfl) hbody, fun k hk => ?_, ?_⟩
  · exact (bodyOf_modBody_ne v b.key k (fun x => { x with state := .pulled reason }) (fun _ => rfl) hk).trans (hbodies k hk)
  · rw [hstate]
    rfl

/-- A body pulled from an unfinished station (R55, R58). -/
theorem pulled_unfinished (hi : i < 16) (hb : s.bodyOf b.key = some b) (reason : Byte) :
    ∃ v, (s.leaveUnwelded i b.key false).pulledOff b reason = v ∧ LeftUnfinished i b.key b s v ∧
      v.bodies = (s.modBody b.key fun c => { unfinishedBody i c with state := .pulled reason }).bodies ∧
      v.lineList = s.lineList.filter (fun k => k != b.key) ∧
      v = { s with
        bodies := v.bodies, lineList := v.lineList, stations := v.stations, attention := v.attention, due := v.due
        robots := v.robots, pend := v.pend } := by
  rw [leaveUnwelded_eq hi hb, if_neg Bool.false_ne_true]
  refine ⟨_, rfl, ⟨?_, ?_, fun r hr => robot_abortAll_abortSet_of_not rfl rfl hr,
    fun r sel hr hstation hsel hmotion => robot_abortAll_abortSet rfl rfl rfl hr hstation hsel hmotion,
    fun d => (mem_due_oweAll_abortAll (u := s.unfinished i b.key b) rfl d).trans (mem_due_unfinished (b := b) d)⟩, ?_, ?_, ?_⟩
  · rw [abortAll_frame_eq]
    rfl
  · rw [abortAll_frame_eq]
    rfl
  · rw [abortAll_frame_eq]
    have hbodies := congrArg bodies (modBody_modBody (s := s) (k := b.key) (f := unfinishedBody i) (fun _ => rfl)
      fun c => { c with state := .pulled reason })
    exact hbodies
  · rw [abortAll_frame_eq]
    rfl
  · rw [abortAll_frame_eq]
    rfl

section
variable {h : Hdr} {tag : Word} (reason : Byte) (hlen : h.lengthOk = true) (hrun : s.mode = .run)
include hlen hrun

theorem pullBlock_of_error {acts : Code} (hact : s.actOn tag (fun b => !State.isPulled b) = .error acts) :
    pullBlock h tag reason s = s.refuse acts := by
  simp [pullBlock, hrun, hlen, hact]

theorem pullBlock_of_ok (hact : s.actOn tag (fun b => !State.isPulled b) = .ok b)
    (hzone : ∀ i, b.state = .onLine (.atStation i) → s.inZone h.port i = true) :
    pullBlock h tag reason s = (s.pullBody b reason).done (.former b.state) := by
  simp only [pullBlock, hrun, hlen, hact, reduceCtorEq, if_false, Bool.true_eq_false]
  split
  · next i hstate => rw [if_pos (hzone i hstate), hstate]
  · rfl

theorem pullBlock_of_outside (hact : s.actOn tag (fun b => !State.isPulled b) = .ok b)
    (hstate : b.state = .onLine (.atStation i)) (hzone : s.inZone h.port i = false) :
    pullBlock h tag reason s = s.refuse .role := by
  simp [pullBlock, hrun, hlen, hact, hstate, hzone]

omit reason in
theorem scrapBlock_of_error {c : Code} (hact : s.actOn tag State.isPulled = .error c) : scrapBlock h tag s = s.refuse c := by
  simp [scrapBlock, hrun, hlen, hact]

/-- SCRAP frees the record (R60). -/
theorem scrapBlock_of_ok (hact : s.actOn tag State.isPulled = .ok b) (hb : s.bodyOf b.key = some b) :
    scrapBlock h tag s =
      ({ s with
        bodies := s.bodies.filter fun c => c.key != b.key
        lineList := s.lineList.filter fun j => j != b.key
        sets := (s.dropNaming b.binding.setNo).sets
        due := s.due ++ s.presentRobots.map .recompute ++ [.admission] } : State).done (.scrapped b.psn b.results) := by
  simp only [scrapBlock, hrun, hlen, hact, reduceCtorEq, if_false, Bool.true_eq_false, freeBody_of_some hb]
  rfl

end

end State

/-- Settles O25, first case: PULL of a record that is at no station. -/
theorem pull_of_not_at {s : State} {h : Hdr} {tag : Word} {reason : Byte} {b : Body} (htakes : s.takes h .zone)
    (hrun : s.mode = .run) (hfind : (s.tagged tag).find? (fun b => !State.isPulled b) = some b)
    (hb : s.bodyOf b.key = some b) (hnot : ∀ i, b.state ≠ .onLine (.atStation i)) :
    ∃ t, exec (.pull h tag reason) s = .next t ∧ State.answered h 0x22 .done (.former b.state) s t ∧
      t.bodyOf b.key = some { b with state := .pulled reason } ∧ (∀ k, k ≠ b.key → t.bodyOf k = s.bodyOf k) ∧
      t.lineList = s.lineList.filter (fun k => k != b.key) ∧
      (∀ d, d ∈ t.due ↔ d ∈ s.due ∨ (∃ r ∈ s.presentRobots, d = .recompute r) ∨ d = .admission ∧ b.state = .admitted) ∧
      t = { s with ports := t.ports, bodies := t.bodies, lineList := t.lineList, due := t.due } := by
  obtain ⟨hlistens, hgrants, hlen⟩ := htakes
  have hblock := State.pullBlock_of_ok (s := s.goodFrameOn h.port.val) reason hlen hrun (State.actOn_of_find hfind)
    fun i hstate => absurd hstate (hnot i)
  rw [State.pullBody_of_not_at reason hnot] at hblock
  have hbody : (s.modBody b.key fun x => { x with state := .pulled reason }).bodyOf b.key = _ :=
    State.bodyOf_modBody_eq (fun _ => rfl) hb
  have hbodies := fun k (hk : k ≠ b.key) =>
    State.bodyOf_modBody_ne s b.key k (fun x => { x with state := .pulled reason }) (fun _ => rfl) hk
  by_cases hadmitted : b.state = .admitted
  · rw [if_pos hadmitted] at hblock
    obtain ⟨hexec, hanswered⟩ := s.exec_request_of_block (i := .pull h tag reason) rfl hlistens hgrants hblock rfl
    refine ⟨_, hexec, hanswered, hbody, hbodies, rfl, fun d => ?_, rfl⟩
    change d ∈ s.due ++ s.presentRobots.map .recompute ++ [.admission] ↔ _
    simp only [List.mem_append, State.mem_recomputeAll, List.mem_singleton, hadmitted, and_true, or_assoc]
  · rw [if_neg hadmitted] at hblock
    obtain ⟨hexec, hanswered⟩ := s.exec_request_of_block (i := .pull h tag reason) rfl hlistens hgrants hblock rfl
    refine ⟨_, hexec, hanswered, hbody, hbodies, rfl, fun d => ?_, rfl⟩
    change d ∈ s.due ++ s.presentRobots.map .recompute ↔ _
    simp only [List.mem_append, State.mem_recomputeAll, hadmitted, and_false, or_false]

end Machine
end Sys2Proof
end

section
/-!
SUPPORT. PULL at a station, and the assembly of O25.
-/
namespace Sys2Proof
namespace Machine

section
variable {s : State} {h : Hdr} {tag : Word} {reason : Byte} {b : Body} {i : Nat}
variable (htakes : s.takes h .zone) (hrun : s.mode = .run) (hfind : (s.tagged tag).find? (fun b => !State.isPulled b) = some b)
variable (hstate : b.state = .onLine (.atStation i)) (hi : i < 16)
include htakes hrun hfind hstate

/-- O25: PULL at a station outside the port's zone. -/
theorem pull_outside_zone (hzone : s.inZone h.port i = false) :
    ∃ t, exec (.pull h tag reason) s = .next t ∧ State.answered h 0x22 .role .nothing s t ∧ t = { s with ports := t.ports } := by
  obtain ⟨hlistens, hgrants, hlen⟩ := htakes
  have hblock := State.pullBlock_of_outside (s := s.goodFrameOn h.port.val) reason hlen hrun (State.actOn_of_find hfind) hstate hzone
  exact s.exec_request_of_block_unchanged (i := .pull h tag reason) rfl hlistens hgrants hblock

variable (hzone : s.inZone h.port i = true)
include hzone hi

/-- O25: PULL at a station that is done with the body. -/
theorem pull_finished {v : State} {result : Result} {skipped : Bool}
    (hleft : State.LeftFinished i b result skipped (s.goodFrameOn h.port.val) v)
    (hpull : (s.goodFrameOn h.port.val).pullBody b reason = v.pulledOff b reason) :
    ∃ t, exec (.pull h tag reason) s = .next t ∧ State.answered h 0x22 .done (.former b.state) s t ∧
      t.bodyOf b.key = some { b with
        state := .pulled reason, results := tset b.results i result, incomplete := b.incomplete || skipped } ∧
      (∀ k, k ≠ b.key → t.bodyOf k = s.bodyOf k) ∧ t.lineList = s.lineList.filter (fun k => k != b.key) ∧
      t.station i = { s.station i with
        state := .empty, body := none, work := none, cause := none, running := false, abortWait := [] } ∧
      (∀ j, j ≠ i → t.station j = s.station j) ∧
      t.attention = (if skipped then s.raise .bodyIncomplete b.tag.toNat else s).attention ∧
      (∀ d, d ∈ t.due ↔ d ∈ s.due ∨ ∃ r ∈ s.presentRobots, d = .recompute r) ∧
      t = { s with ports := t.ports, bodies := t.bodies, lineList := t.lineList, stations := t.stations,
                   attention := t.attention, due := t.due } := by
  obtain ⟨hlistens, hgrants, hlen⟩ := htakes
  obtain ⟨hbody, hbodies, hpulled⟩ := State.pulled_finished hleft reason
  have hattention := hleft.attention
  have hblock := State.pullBlock_of_ok (s := s.goodFrameOn h.port.val) reason hlen hrun (State.actOn_of_find hfind)
    fun j hj => by rw [hstate] at hj; cases hj; exact hzone
  rw [hpull] at hblock
  generalize v.pulledOff b reason = w at hblock hbody hbodies hpulled
  obtain ⟨hexec, hanswered⟩ := s.exec_request_of_block (i := .pull h tag reason) rfl hlistens hgrants hblock (by rw [hpulled])
  refine ⟨_, hexec, hanswered, hbody, hbodies, ?_, ?_, fun j hj => ?_, ?_, fun d => ?_, ?_⟩
  · rw [State.sendReply_eq, hpulled]
    rfl
  · rw [State.sendReply_eq, hpulled]
    exact tget_tset_self _ _ _ _ hi
  · rw [State.sendReply_eq, hpulled]
    exact tget_tset_ne _ _ _ _ _ hj
  · rw [State.sendReply_eq, hpulled]
    refine hattention.trans ?_
    cases skipped <;> rfl
  · rw [State.sendReply_eq, hpulled]
    change d ∈ s.due ++ s.enterDue i .empty ++ s.presentRobots.map .recompute ↔ _
    simp only [List.mem_append, State.mem_recomputeAll, or_assoc]
    exact or_congr_right (or_iff_right_of_imp State.mem_enterDue_imp)
  · rw [State.sendReply_eq, hpulled]
    rfl

variable (hb : s.bodyOf b.key = some b)
include hb in
/-- O25: PULL at a station that is not done with the body. -/
theorem pull_unfinished
    (hunfinished : (s.station i).state = .welding ∨ (s.station i).state = .fault ∨
      (s.station i).state = .arrived ∧ s.owesNothing i b = false) :
    ∃ t, exec (.pull h tag reason) s = .next t ∧ State.answered h 0x22 .done (.former b.state) s t ∧
      t.bodyOf b.key = some { b with
        state := .pulled reason, results := tset b.results i .incomplete, incomplete := true } ∧
      (∀ k, k ≠ b.key → t.bodyOf k = s.bodyOf k) ∧ t.lineList = s.lineList.filter (fun k => k != b.key) ∧
      t.station i = { s.station i with
        state := if s.abortSet i b.key = [] then .empty else .clearing
        body := none, work := none, cause := none, running := false, abortWait := s.abortSet i b.key } ∧
      (∀ j, j ≠ i → t.station j = s.station j) ∧ t.attention = (s.raise .bodyIncomplete b.tag.toNat).attention ∧
      (∀ r, r ∉ s.abortSet i b.key → t.robot r = s.robot r ∧ t.pendOf r = s.pendOf r) ∧
      (∀ r sel, r < 32 → s.stationOf r = some i → sel.key = b.key →
        ((s.robot r).motion = .selecting sel ∨ (s.robot r).motion = .selected sel ∨ (s.robot r).motion = .welding sel) →
        t.robot r = { s.robot r with motion := .aborting sel, busy := none, pollTimer := 0 } ∧
        t.pendOf r = { s.pendOf r with
          select := none
          abort := some ⟨.abort, .abort sel.slot (s.robot r).dispatch false, s.line.replyTimeout, s.line.retryLimit⟩ }) ∧
      (∀ d, d ∈ t.due ↔ d ∈ s.due ∨ ∃ r ∈ s.presentRobots, d = .recompute r) ∧
      t = { s with ports := t.ports, bodies := t.bodies, lineList := t.lineList, stations := t.stations,
                   attention := t.attention, due := t.due, robots := t.robots, pend := t.pend } := by
  obtain ⟨hlistens, hgrants, hlen⟩ := htakes
  obtain ⟨v, hpulled, hleft, hbodies, hline, hv⟩ := State.pulled_unfinished (s := s.goodFrameOn h.port.val) hi hb reason
  have hstation : ∀ j, v.station j = tget (.powerOn 0 .line 6000) v.stations j := fun _ => rfl
  rw [hleft.stations] at hstation
  have hblock := State.pullBlock_of_ok (s := s.goodFrameOn h.port.val) reason hlen hrun (State.actOn_of_find hfind)
    fun j hj => by rw [hstate] at hj; cases hj; exact hzone
  rw [State.pullBody_of_unfinished (s := s.goodFrameOn h.port.val) reason hstate hunfinished, hpulled] at hblock
  obtain ⟨hexec, hanswered⟩ := s.exec_request_of_block (i := .pull h tag reason) rfl hlistens hgrants hblock (by rw [hv])
  refine ⟨_, hexec, hanswered, ?_, fun j hj => ?_, hline, (hstation i).trans (tget_tset_self _ _ _ _ hi),
    fun j hj => (hstation j).trans (tget_tset_ne _ _ _ _ _ hj), hleft.attention, hleft.others, hleft.aborting, hleft.due, ?_⟩
  · exact (State.bodyOf_congr _ _ hbodies).trans (State.bodyOf_modBody_eq (s := s) (fun _ => rfl) hb)
  · exact (State.bodyOf_congr _ _ hbodies).trans (State.bodyOf_modBody_ne s _ _ _ (fun _ => rfl) hj)
  · rw [State.sendReply_eq, hv]
    rfl

end

/-- Settles O25: PULL by where the record is and what its station owes it, and SCRAP of the PULLED record. -/
theorem pullAndScrapTakeTheBodyAway : Obligations.PullAndScrapTakeTheBodyAway := by
  refine ⟨fun s h tag reason htakes hrun => ⟨fun b hfind hb hnot => pull_of_not_at htakes hrun hfind hb hnot,
    fun b i hfind hb hstate hi => ⟨fun hzone => pull_outside_zone htakes hrun hfind hstate hzone, fun hzone => ⟨?_, ?_⟩⟩, ?_⟩, ?_, ?_⟩
  · intro result skipped hcases
    obtain ⟨hcomplete, rfl, rfl⟩ | ⟨harrived, items, hnone, hitems, hskipped, rfl⟩ := hcases
    · exact pull_finished htakes hrun hfind hstate hi hzone
        (State.leftFinished_of_complete (s := s.goodFrameOn h.port.val) hi hb)
        (State.pullBody_of_complete reason hstate hcomplete)
    · have hat : (s.goodFrameOn h.port.val).itemsAt i b = items := State.itemsAt_eq hitems
      have hleft := State.leftFinished_of_unowed (s := s.goodFrameOn h.port.val) hi hb
      have hany : (items.any fun w => w.comp == .skipped) = skipped :=
        Bool.eq_iff_iff.mpr ((State.any_skipped_iff items).trans hskipped.symm)
      rw [hat, State.unowedResult, hany] at hleft
      exact pull_finished htakes hrun hfind hstate hi hzone hleft
        (State.pullBody_of_unowed reason hstate harrived (State.owesNothing_eq_true_iff.mpr (by rwa [hat])))
  · intro hunfinished
    refine pull_unfinished htakes hrun hfind hstate hi hzone hb (hunfinished.imp_right (Or.imp_right fun harrived => ?_))
    exact ⟨harrived.1, State.owes_of_work harrived.2⟩
  · rintro c hcases
    obtain ⟨hlistens, hgrants, hlen⟩ := htakes
    have hact : (s.goodFrameOn h.port.val).actOn tag (fun b => !State.isPulled b) = .error c := by
      obtain ⟨rfl, hnone⟩ | ⟨rfl, hsome, hall⟩ := hcases
      · exact State.actOn_of_unknown _ hnone
      · refine State.actOn_of_none hsome fun b hb htag => ?_
        obtain ⟨x, hpulled⟩ := hall b hb htag
        rw [State.isPulled_of_pulled hpulled]
        rfl
    exact s.exec_request_of_block_unchanged (i := .pull h tag reason) rfl hlistens hgrants
      (State.pullBlock_of_error (s := s.goodFrameOn h.port.val) reason hlen hrun hact)
  · intro s h tag b ⟨hlistens, hgrants, hlen⟩ hrun hfind hb
    have hblock := State.scrapBlock_of_ok (s := s.goodFrameOn h.port.val) hlen hrun (State.actOn_of_find hfind) hb
    obtain ⟨hexec, hanswered⟩ := s.exec_request_of_block (i := .scrap h tag) rfl hlistens hgrants hblock rfl
    refine ⟨_, hexec, hanswered, rfl, rfl, fun k => ?_, rfl, rfl⟩
    change ((s.goodFrameOn h.port.val).dropNaming b.binding.setNo).dispatchSet k = _
    rw [State.dispatchSet_dropNaming]
    simp only [State.binding_setNo_eq_some_iff]
    rfl
  · intro s h tag ⟨hlistens, hgrants, hlen⟩ hrun hsome hall
    have hact : (s.goodFrameOn h.port.val).actOn tag State.isPulled = .error .state :=
      State.actOn_of_none hsome fun b hb htag => State.isPulled_of_not (hall b hb htag)
    exact s.exec_request_of_block_unchanged (i := .scrap h tag) rfl hlistens hgrants
      (State.scrapBlock_of_error (s := s.goodFrameOn h.port.val) hlen hrun hact)

end Machine
end Sys2Proof
end

section
/-!
SUPPORT. The expected body and the checks of an arrival (O22), and the place of a reinserted record (O26).
-/
namespace Sys2Proof
namespace Machine
namespace State

variable {s : State} {i k : Nat} {b : Body}

/-! ### The expected body (R39, R41) -/

theorem notYetPast_eq_true_iff : b.notYetPast i = true ↔ b.state = .admitted ∨
    ∃ t, b.state = .onLine (.atStation t) ∧ t < i ∨ b.state = .onLine (.before t) ∧ t ≤ i := by
  unfold Body.notYetPast
  split <;> simp_all

theorem notYetPast_eq_false_iff : b.notYetPast i = false ↔ b.state ≠ .admitted ∧
    ∀ t, (b.state = .onLine (.atStation t) → i ≤ t) ∧ (b.state = .onLine (.before t) → i < t) := by
  unfold Body.notYetPast
  split <;> simp_all

theorem expectedBody_eq_some_iff : s.expectedBody i = some b ↔
    ∃ front k back, s.lineList = front ++ k :: back ∧ s.bodyOf k = some b ∧ b.notYetPast i = true ∧
      ∀ j ∈ front, ∀ c, s.bodyOf j = some c → c.notYetPast i = false := by
  have hany : ∀ k, ((s.bodyOf k).any (Body.notYetPast i)) = true ↔ ∃ c, s.bodyOf k = some c ∧ c.notYetPast i = true := by
    intro k
    cases s.bodyOf k <;> simp
  rw [expectedBody, lineBodies, List.find?_filterMap, Option.bind_eq_some_iff]
  constructor
  · rintro ⟨k, hfind, hk⟩
    obtain ⟨hp, front, back, hline, hfront⟩ := List.find?_eq_some_iff_append.mp hfind
    obtain ⟨c, hc, hpast⟩ := (hany k).mp hp
    cases hk.symm.trans hc
    refine ⟨front, k, back, hline, hk, hpast, fun j hj c hc => ?_⟩
    simpa [hc] using hfront j hj
  · rintro ⟨front, k, back, hline, hk, hpast, hfront⟩
    refine ⟨k, List.find?_eq_some_iff_append.mpr ⟨(hany k).mpr ⟨b, hk, hpast⟩, front, back, hline, fun j hj => ?_⟩, hk⟩
    rw [Bool.not_eq_true', Bool.eq_false_iff]
    intro hj'
    obtain ⟨c, hc, hpast⟩ := (hany j).mp hj'
    exact absurd hpast (by simp [hfront j hj c hc])

/-! ### ARRIVE (R48, R69) -/

theorem frameArrival_of_not_both (tag : Word) (hsource : (s.station i).source ≠ .both) :
    s.frameArrival i tag = s.arrival i (some tag) := by
  unfold frameArrival
  split
  · next hboth => exact absurd hboth hsource
  · rfl

section
variable {h : Hdr} (hlen : h.lengthOk = true) (hrun : s.mode = .run) (hi : i < s.stationCount)
  (hzone : s.inZone h.port i = true) {tag : Word} {t : State} {refused : Bool} {moved : Option BodyName}
  (ha : s.frameArrival i tag = (t, refused, moved))
include hlen hrun hi hzone ha

/-- What ARRIVE answers, once the arrival is known (R69). -/
theorem arriveBlock_of_frameArrival_view {v : ReportView} (hview : t.reportView i moved = v) :
    arriveBlock h i tag s = ⟨t, if refused then .state else .done, .report v⟩ := by
  simp only [arriveBlock, stationRefusal_eq_none hlen hrun hi hzone, ha, hview]

theorem arriveBlock_of_frameArrival {st : StationState} (hstate : (t.station i).state = st) (hlines : t.lines = s.lines)
    (hlayout : t.layout = s.layout) :
    arriveBlock h i tag s =
      ⟨t, if refused then .state else .done, .report ⟨st, moved, s.present i, (s.presence i).window⟩⟩ :=
  arriveBlock_of_frameArrival_view hlen hrun hi hzone ha (reportView_eq hstate hlines hlayout)

end

theorem tagged_isEmpty_eq_false {tag : Word} (htag : ∃ b ∈ s.bodies, b.tag = tag) : (s.tagged tag).isEmpty = false := by
  rw [Bool.eq_false_iff, ne_eq, tagged_isEmpty_iff]
  obtain ⟨b, hb, htag⟩ := htag
  exact fun hall => hall b hb htag

theorem arrival_of_refused (tag : Option Word) (hstate : (s.station i).state ≠ .empty) :
    s.arrival i tag = (s, true, none) := by
  simp only [arrival, arrivalCheck, ne_eq, hstate, not_false_eq_true, if_true]

/-- Checks 2, 3 and 4 of R48, for an arrival that carries a tag. -/
theorem arrival_of_faulted {tag : Word} {c : Cause} (hstate : (s.station i).state = .empty)
    (hc : c = .unknownBody ∧ (∀ b ∈ s.bodies, b.tag ≠ tag) ∨
      c = .noBodyExpected ∧ (∃ b ∈ s.bodies, b.tag = tag) ∧ s.expectedBody i = none ∨
      c = .sequenceMismatch ∧ (∃ b ∈ s.bodies, b.tag = tag) ∧ ∃ b, s.expectedBody i = some b ∧ b.tag ≠ tag) :
    s.arrival i (some tag) = (s.faultStation i c, false, none) := by
  have hcheck : s.arrivalCheck i (some tag) = .faulted c := by
    obtain ⟨rfl, hnone⟩ | ⟨rfl, hsome, hexpected⟩ | ⟨rfl, hsome, b, hexpected, hne⟩ := hc
    · simp [arrivalCheck, hstate, (tagged_isEmpty_iff tag).mpr hnone]
    · simp [arrivalCheck, hstate, tagged_isEmpty_eq_false hsome, hexpected]
    · simp [arrivalCheck, hstate, tagged_isEmpty_eq_false hsome, hexpected, hne]
  simp only [arrival, hcheck]

end State

/-- Settles O22: the expected body is found by the Line List, and each failed check faults the station or refuses. -/
theorem arriveFaultsOrIsRefused : Obligations.ArriveFaultsOrIsRefused := by
  refine ⟨fun s i b => ?_, fun s h i tag ⟨hlistens, hgrants, hlen⟩ hrun hi hlt hzone hsource => ⟨fun c hstate hc => ?_, fun hstate => ?_⟩⟩
  · rw [State.expectedBody_eq_some_iff]
    simp only [State.notYetPast_eq_true_iff, State.notYetPast_eq_false_iff]
  · have harrival := (State.frameArrival_of_not_both (s := s.goodFrameOn h.port.val) tag hsource).trans
      (State.arrival_of_faulted hstate hc)
    have hne : ((s.goodFrameOn h.port.val).station i).state ≠ .fault := fun hf => by cases hstate.symm.trans hf
    rw [State.faultStation_eq hlt hne, State.enterDue_of_not_arrived (fun hf => by cases hstate.symm.trans hf) (by decide),
      List.append_nil] at harrival
    have hblock := State.arriveBlock_of_frameArrival (s := s.goodFrameOn h.port.val) hlen hrun hi hzone harrival
      (congrArg Station.state (tget_tset_self _ _ _ _ hlt)) rfl rfl
    obtain ⟨hexec, hanswered⟩ := s.exec_request_of_block (i := .arrive h i tag) rfl hlistens hgrants hblock rfl
    exact ⟨_, hexec, hanswered, tget_tset_self _ _ _ _ hlt, fun j hj => tget_tset_ne _ _ _ _ _ hj, rfl, rfl⟩
  · have harrival := (State.frameArrival_of_not_both (s := s.goodFrameOn h.port.val) tag hsource).trans
      (State.arrival_of_refused _ hstate)
    exact s.exec_request_of_block_unchanged (i := .arrive h i tag) rfl hlistens hgrants
      (State.arriveBlock_of_frameArrival (s := s.goodFrameOn h.port.val) hlen hrun hi hzone harrival rfl rfl rfl)

namespace State

variable {s : State} {i k : Nat} {b : Body}

/-! ### Results set in a row (R50, R59) -/

/-- Setting the results at a list of stations changes the results alone. -/
theorem foldl_setResult_eq (l : List Nat) (r : Result) (b : Body) :
    l.foldl (fun b j => b.setResult j r) b = { b with results := (l.foldl (fun b j => b.setResult j r) b).results } := by
  induction l generalizing b with
  | nil => rfl
  | cons j l ih =>
    rw [List.foldl_cons, ih]
    rfl

theorem result_foldl_setResult (l : List Nat) (r : Result) (b : Body) {j : Nat} (hj : j < 16) :
    (l.foldl (fun b j => b.setResult j r) b).result j = if j ∈ l then r else b.result j := by
  induction l generalizing b with
  | nil => rfl
  | cons n l ih =>
    rw [List.foldl_cons, ih]
    by_cases hjn : j = n
    · subst hjn
      simp only [List.mem_cons, true_or, if_true]
      split
      · rfl
      · exact tget_tset_self _ _ _ _ hj
    · simp only [List.mem_cons, hjn, false_or]
      split
      · rfl
      · exact tget_tset_ne _ _ _ _ _ hjn

/-! ### Places in the Line List (R59) -/

/-- The place immediately ahead of the first record `ahead` holds of. -/
theorem placeBefore_cases (k : Nat) (ahead : Body → Bool) (l : List Nat) :
    ∃ front back, l = front ++ back ∧ placeBefore s k ahead l = front ++ k :: back ∧
      (∀ j ∈ front, ∀ c, s.bodyOf j = some c → ahead c = false) ∧
      (back = [] ∨ ∃ j c, back.head? = some j ∧ s.bodyOf j = some c ∧ ahead c = true) := by
  induction l with
  | nil => exact ⟨[], [], rfl, rfl, by simp, .inl rfl⟩
  | cons j l ih =>
    obtain ⟨front, back, hl, hplace, hfront, hback⟩ := ih
    have hbehind (hj : ∀ c, s.bodyOf j = some c → ahead c = false) (heq : placeBefore s k ahead (j :: l) =
        j :: placeBefore s k ahead l) : ∃ front back, j :: l = front ++ back ∧
          placeBefore s k ahead (j :: l) = front ++ k :: back ∧
          (∀ j ∈ front, ∀ c, s.bodyOf j = some c → ahead c = false) ∧
          (back = [] ∨ ∃ j c, back.head? = some j ∧ s.bodyOf j = some c ∧ ahead c = true) :=
      ⟨j :: front, back, by rw [hl]; rfl, by rw [heq, hplace]; rfl, List.forall_mem_cons.mpr ⟨hj, hfront⟩, hback⟩
    cases hj : s.bodyOf j with
    | none => exact hbehind (by simp [hj]) (by simp [placeBefore, hj])
    | some c =>
      by_cases hahead : ahead c = true
      · exact ⟨[], j :: l, rfl, by simp [placeBefore, hj, hahead], by simp, .inr ⟨j, c, rfl, hj, hahead⟩⟩
      · exact hbehind (by simpa [hj] using hahead) (by simp [placeBefore, hj, hahead])

/-- A list parts behind its last member that has a property. -/
theorem placed_behind_last {α : Type} (p : α → Bool) (k : α) (l : List α) :
    ∃ front back, l = front ++ back ∧
      l.take (l.length - (l.reverse.takeWhile fun j => !p j).reverse.length) ++ [k] ++
          (l.reverse.takeWhile fun j => !p j).reverse = front ++ k :: back ∧
      (∀ j ∈ back, p j = false) ∧ (front = [] ∨ ∃ j, front.getLast? = some j ∧ p j = true) := by
  have hsplit : l = (l.reverse.dropWhile fun j => !p j).reverse ++ (l.reverse.takeWhile fun j => !p j).reverse := by
    rw [← List.reverse_append, List.takeWhile_append_dropWhile, List.reverse_reverse]
  refine ⟨_, _, hsplit, ?_, fun j hj => ?_, ?_⟩
  · have htake : ∀ A W : List α, l = A ++ W → l.take (l.length - W.length) = A := by
      rintro A W rfl
      simp
    rw [htake _ _ hsplit, List.append_assoc]
    rfl
  · simpa using List.mem_takeWhile_imp (List.mem_reverse.mp hj)
  · cases hdrop : l.reverse.dropWhile fun j => !p j with
    | nil => exact .inl rfl
    | cons j rest =>
      have hhead := List.head_dropWhile_not (fun j => !p j) (l := l.reverse) (by simp [hdrop])
      exact .inr ⟨j, by simp, by simpa [hdrop] using hhead⟩

/-- Whether the record with a key is ON-LINE. -/
def isOnLine (s : State) (j : Nat) : Bool :=
  match (s.bodyOf j).map Body.state with
  | some (.onLine _) => true
  | _ => false

theorem isOnLine_eq_true_iff (j : Nat) : s.isOnLine j = true ↔ ∃ c pos, s.bodyOf j = some c ∧ c.state = .onLine pos := by
  unfold isOnLine
  cases hj : s.bodyOf j with
  | none => simp
  | some c => cases hc : c.state <;> simp [hc]

/-- The place immediately behind the last ON-LINE record. -/
theorem placeBehindOnLine_cases (k : Nat) (l : List Nat) :
    ∃ front back, l = front ++ back ∧ placeBehindOnLine s k l = front ++ k :: back ∧
      (∀ j ∈ back, ∀ c pos, s.bodyOf j = some c → c.state ≠ .onLine pos) ∧
      (front = [] ∨ ∃ j c pos, front.getLast? = some j ∧ s.bodyOf j = some c ∧ c.state = .onLine pos) := by
  obtain ⟨front, back, hl, hplace, hback, hfront⟩ := placed_behind_last s.isOnLine k l
  refine ⟨front, back, hl, hplace, fun j hj c pos hc hstate => ?_, hfront.imp_right ?_⟩
  · exact absurd ((isOnLine_eq_true_iff j).mpr ⟨c, pos, hc, hstate⟩) (by simp [hback j hj])
  · rintro ⟨j, hlast, hj⟩
    obtain ⟨c, pos, hc, hstate⟩ := (isOnLine_eq_true_iff j).mp hj
    exact ⟨j, c, pos, hlast, hc, hstate⟩

/-! ### REINSERT (R59) -/

/-- The record REINSERT puts back. -/
def reinserted (count i : Nat) (b : Body) : Body :=
  { reopened count i b with state := .onLine (.before i), reinserts := satAdd 255 b.reinserts 1 }

theorem reinserted_eq (count i : Nat) (b : Body) : reinserted count i b =
    { b with
      state := .onLine (.before i), results := (reinserted count i b).results, reinserts := min 255 (b.reinserts + 1) } := by
  rw [reinserted, reopened, foldl_setResult_eq]
  rfl

theorem key_reinserted (count i : Nat) (b : Body) : (reinserted count i b).key = b.key := by
  rw [reinserted_eq]

theorem result_reinserted {count j : Nat} (hj : j < 16) : (reinserted count i b).result j =
    if i ≤ j ∧ j < count ∧ b.result j ≠ .welded ∧ b.result j ≠ .passed then .pending else b.result j := by
  refine (result_foldl_setResult _ .pending b hj).trans ?_
  simp only [List.mem_filter, List.mem_range, Bool.and_eq_true, decide_eq_true_eq, bne_iff_ne, ne_eq]
  refine if_congr ?_ rfl rfl
  tauto

/-- The place REINSERT gives a record (R59). -/
def reinsertPlace (s : State) (k i : Nat) : List Nat :=
  if i = 0 then placeBehindOnLine s k s.lineList else placeBefore s k (Body.notYetPast i) s.lineList

theorem reinsertBody_eq : s.reinsertBody b i =
    { s with
      bodies := (s.modBody b.key fun x => reinserted s.stationCount i x).bodies
      lineList := s.reinsertPlace b.key i
      due := s.due ++ s.presentRobots.map .recompute } := by
  have hrecord : (fun x => reinserted s.stationCount i x) = fun x =>
      { reopened s.stationCount i x with state := .onLine (.before i), reinserts := satAdd 255 x.reinserts 1 } := rfl
  rw [hrecord]
  rfl

theorem reinsertPlace_cases (k i : Nat) : ∃ front back, s.lineList = front ++ back ∧
    s.reinsertPlace k i = front ++ k :: back ∧
    if i = 0 then
      (∀ j ∈ back, ∀ c pos, s.bodyOf j = some c → c.state ≠ .onLine pos) ∧
        (front = [] ∨ ∃ j c pos, front.getLast? = some j ∧ s.bodyOf j = some c ∧ c.state = .onLine pos)
    else
      (∀ j ∈ front, ∀ c, s.bodyOf j = some c → c.notYetPast i = false) ∧
        (back = [] ∨ ∃ j c, back.head? = some j ∧ s.bodyOf j = some c ∧ c.notYetPast i = true) := by
  unfold reinsertPlace
  split
  · exact placeBehindOnLine_cases k s.lineList
  · exact placeBefore_cases k (Body.notYetPast i) s.lineList

theorem stationRefusal_of_outside {h : Hdr} (hlen : h.lengthOk = true) (hrun : s.mode = .run) (hi : i < s.stationCount)
    (hzone : s.inZone h.port i = false) : s.stationRefusal h i = some .role := by
  simp [stationRefusal, hrun, hlen, hi, hzone]

section
variable {h : Hdr} (hlen : h.lengthOk = true) (hrun : s.mode = .run) (hi : i < s.stationCount) {tag : Word}
include hlen hrun hi

theorem reinsertBlock_of_ok (hzone : s.inZone h.port i = true) (hact : s.actOn tag State.isPulled = .ok b) :
    reinsertBlock h tag i s = (s.reinsertBody b i).done
      (.behind ((following b.key (s.reinsertBody b i).lineList).bind (s.reinsertBody b i).nameOf)) := by
  simp only [reinsertBlock, stationRefusal_eq_none hlen hrun hi hzone, hact]

theorem reinsertBlock_of_error {c : Code} (hzone : s.inZone h.port i = true) (hact : s.actOn tag State.isPulled = .error c) :
    reinsertBlock h tag i s = s.refuse c := by
  simp only [reinsertBlock, stationRefusal_eq_none hlen hrun hi hzone, hact]

theorem reinsertBlock_of_outside (hzone : s.inZone h.port i = false) : reinsertBlock h tag i s = s.refuse .role := by
  simp only [reinsertBlock, stationRefusal_of_outside hlen hrun hi hzone]

end

end State

/-- Settles O26: the record's fields, and the place the search of the Line List gives it. -/
theorem reinsertPlacesTheBody : Obligations.ReinsertPlacesTheBody := by
  refine ⟨fun s h tag i b ⟨hlistens, hgrants, hlen⟩ hrun hi _ hzone hfind hb => ?_,
    fun s h tag i c ⟨hlistens, hgrants, hlen⟩ hrun hi hc => ?_⟩
  · have hblock := State.reinsertBlock_of_ok (s := s.goodFrameOn h.port.val) hlen hrun hi hzone (State.actOn_of_find hfind)
    rw [State.reinsertBody_eq] at hblock
    obtain ⟨hexec, hanswered⟩ := s.exec_request_of_block (i := .reinsert h tag i) rfl hlistens hgrants hblock rfl
    obtain ⟨front, back, hline, hplace, hwhere⟩ := (s.goodFrameOn h.port.val).reinsertPlace_cases b.key i
    exact ⟨_, hexec, hanswered, State.reinserted s.stationCount i b, State.bodyOf_modBody_eq (s := s) (fun _ => State.key_reinserted _ _ _) hb,
      State.reinserted_eq _ _ _, fun j hj => State.result_reinserted hj,
      fun k hk => State.bodyOf_modBody_ne s _ _ _ (fun _ => State.key_reinserted _ _ _) hk, ⟨front, back, hline, hplace, hwhere⟩, rfl⟩
  · have hblock : reinsertBlock h tag i (s.goodFrameOn h.port.val) = (s.goodFrameOn h.port.val).refuse c := by
      obtain ⟨rfl, hzone⟩ | ⟨rfl, hzone, hsome, hall⟩ := hc
      · exact State.reinsertBlock_of_outside (s := s.goodFrameOn h.port.val) hlen hrun hi hzone
      · exact State.reinsertBlock_of_error (s := s.goodFrameOn h.port.val) hlen hrun hi hzone
          (State.actOn_of_none hsome fun b hb htag => State.isPulled_of_not (hall b hb htag))
    exact s.exec_request_of_block_unchanged (i := .reinsert h tag i) rfl hlistens hgrants hblock

end Machine
end Sys2Proof
end

section
/-!
SUPPORT. The opening of a station's work (R52, R145), and HOLD, RELEASE and CLEAR STATION (O27).
-/
namespace Sys2Proof
namespace Machine
namespace State

variable {s : State} {i k : Nat} {b : Body}

/-! ### Opening the work (R52, R145) -/

/-- The selection attempts owed for the OWED components of a work list (R145). -/
def owingDue (items : List WorkItem) : List Due := (items.filter fun w => w.comp == .owed).map fun w => .selection w.robot

theorem mem_owingDue (items : List WorkItem) (d : Due) :
    d ∈ owingDue items ↔ ∃ w ∈ items, w.comp = .owed ∧ d = .selection w.robot := by
  simp only [owingDue, List.mem_map, List.mem_filter, beq_iff_eq, and_assoc]
  exact exists_congr fun w => and_congr_right fun _ => and_congr_right fun _ => eq_comm

section
variable (hb : s.bodyOf k = some b) {items : List WorkItem} (hitems : s.workFor i b = items)
include hb hitems

/-- The work opened at a station that owes the body something. -/
theorem openWork_of_owed (howed : ∃ w ∈ items, w.comp = .owed) :
    s.openWork i k =
      { s with
        stations := tset s.stations i { s.station i with work := some items }
        bodies := (if items.any fun w => w.comp == .skipped then s.modBody k fun b => { b with incomplete := true } else s).bodies
        attention := (if items.any fun w => w.comp == .skipped then s.raise .bodyIncomplete b.tag.toNat else s).attention
        due := s.due ++ s.presentRobots.map .recompute ++ owingDue items } := by
  have hne : (items.filter fun w => w.comp == .owed) ≠ [] := by
    obtain ⟨w, hw, hcomp⟩ := howed
    exact List.ne_nil_of_mem (List.mem_filter.mpr ⟨hw, by simp [hcomp]⟩)
  have hb' : (s.modStation i fun x => { x with work := some items }).bodyOf k = some b := hb
  simp only [openWork, hb, hitems, if_neg hne]
  split
  · rw [markIncomplete_of_some _ _ hb']
    rfl
  · rfl

end

/-! ### HOLD, RELEASE and CLEAR STATION (R61, R62) -/

section
variable {h : Hdr} (hlen : h.lengthOk = true) (hrun : s.mode = .run) (hi : i < s.stationCount)
  (hzone : s.inZone h.port i = true)
include hlen hrun hi hzone

theorem holdBlock_eq : holdBlock h i s =
    (s.modStation i fun x => { x with hold := true }).done ((s.modStation i fun x => { x with hold := true }).holdContents i) := by
  simp only [holdBlock, stationRefusal_eq_none hlen hrun hi hzone]

theorem releaseBlock_eq {t : State} (hrelease : s.releaseStation i = t) {st : Station} (hst : t.station i = st) :
    releaseBlock h i s = t.done (.held st.state st.hold) := by
  simp only [releaseBlock, stationRefusal_eq_none hlen hrun hi hzone, hrelease, holdContents, hst]

theorem clearStationBlock_of_not_fault (hstate : (s.station i).state ≠ .fault) : clearStationBlock h i s = s.refuse .state := by
  simp only [clearStationBlock, stationRefusal_eq_none hlen hrun hi hzone, ne_eq, hstate, not_false_eq_true, if_true]

theorem clearStationBlock_of_empty (hlt : i < 16) (hstate : (s.station i).state = .fault) (hbody : (s.station i).body = none) :
    clearStationBlock h i s =
      ({ s with stations := tset s.stations i { s.station i with state := .empty, cause := none } } : State).done
        (.stationState .empty) := by
  have hclear : (s.enterState i .empty).modStation i (fun x => { x with cause := none }) =
      { s with stations := tset s.stations i { s.station i with state := .empty, cause := none } } := by
    rw [modStation_enterState hlt, enterDue_of_not_arrived (by simp [hstate]) (by simp), List.append_nil]
  have hblock : clearStationBlock h i s = ((s.enterState i .empty).modStation i fun x => { x with cause := none }).done
      (.stationState (((s.enterState i .empty).modStation i fun x => { x with cause := none }).station i).state) := by
    simp only [clearStationBlock, stationRefusal_eq_none hlen hrun hi hzone, ne_eq, hstate, not_true_eq_false, if_false, hbody]
  rw [hblock, hclear]
  exact congrArg (fun st => done _ (.stationState st)) (congrArg Station.state (tget_tset_self _ _ _ _ hlt))

end

theorem releaseStation_of_opened (hopen : ¬ ((s.station i).hold = true ∧ (s.station i).state = .arrived ∧ (s.station i).work = none)) :
    s.releaseStation i = s.modStation i fun x => { x with hold := false } :=
  if_neg hopen

theorem releaseStation_of_unopened (hhold : (s.station i).hold = true) (hstate : (s.station i).state = .arrived)
    (hwork : (s.station i).work = none) (hbody : (s.station i).body = some k) :
    s.releaseStation i = (s.modStation i fun x => { x with hold := false }).openWork i k := by
  simp only [releaseStation, hhold, hstate, hwork, hbody, and_self, if_true]

/-- RELEASE opens the work of a station that owes the body something and skips nothing (R61). -/
theorem releaseStation_opens (hlt : i < 16) (hhold : (s.station i).hold = true) (hstate : (s.station i).state = .arrived)
    (hwork : (s.station i).work = none) (hk : (s.station i).body = some k) (hb : s.bodyOf k = some b)
    {items : List WorkItem} (hitems : s.workFor i b = items) (howed : ∃ w ∈ items, w.comp = .owed)
    (hskipped : (items.any fun w => w.comp == .skipped) = false) :
    s.releaseStation i =
      { s with
        stations := tset s.stations i { s.station i with hold := false, work := some items }
        due := s.due ++ s.presentRobots.map .recompute ++ owingDue items } := by
  have hread : (s.modStation i fun x => { x with hold := false }).station i = { s.station i with hold := false } :=
    tget_tset_self _ _ _ _ hlt
  rw [releaseStation_of_unopened hhold hstate hwork hk,
    openWork_of_owed (s := s.modStation i fun x => { x with hold := false }) hb hitems howed, hskipped, hread,
    stations_modStation, tset_tset]
  rfl

/-- The work list of a station where each robot that resolves to a program is enabled. -/
theorem workFor_of_enabled (hwelded : b.result i ≠ .welded) (hpassed : b.result i ≠ .passed)
    (henabled : ∀ r ∈ s.robotsAt i, s.resolve b r ≠ none → (s.robot r).enabled = true) :
    s.workFor i b = (s.robotsAt i).map fun r => ⟨r, if s.resolve b r = none then .none else .owed, false⟩ := by
  rw [workFor_eq]
  refine List.map_congr_left fun r hr => ?_
  by_cases hresolve : s.resolve b r = none
  · simp [hresolve]
  · simp [hresolve, hwelded, hpassed, henabled r hr hresolve]

/-! ### A FAULT station cleared with its body (R62) -/

/-- The OWED components of a station cleared become FAULTED (R62). -/
def clearedWork (work : Option (List WorkItem)) : Option (List WorkItem) :=
  work.map fun items => items.map fun w => if w.comp = .owed then { w with comp := .faulted } else w

theorem clearWithBody_eq (hlt : i < 16) (hstate : (s.station i).state = .fault) (hk : (s.station i).body = some k)
    (hb : s.bodyOf k = some b) (haborts : s.abortSet i k = []) :
    s.clearWithBody i k =
      { s with
        stations := tset s.stations i
          { s.station i with
            state := .complete, running := false, lastCycle := (s.station i).watch, cause := none
            work := clearedWork (s.station i).work }
        bodies := (s.modBody k fun b => { b with results := tset b.results i .faulted, incomplete := true }).bodies
        attention := ((s.raise .bodyIncomplete b.tag.toNat).raise .stationComplete i).attention } := by
  have hwork : (s.modStation i fun x => { x with work := clearedWork x.work }).station i =
      { s.station i with work := clearedWork (s.station i).work } := tget_tset_self _ _ _ _ hlt
  have hmarked : (((s.modStation i fun x => { x with work := clearedWork x.work }).setResultAt i .faulted).markIncomplete k) =
      { s with
        stations := tset s.stations i { s.station i with work := clearedWork (s.station i).work }
        bodies := (s.modBody k fun b => { b with results := tset b.results i .faulted, incomplete := true }).bodies
        attention := (s.raise .bodyIncomplete b.tag.toNat).attention } := by
    rw [setResultAt_of_body (k := k) (by rw [hwork]; exact hk), markIncomplete_of_some _ _
      (bodyOf_modBody_eq (s := s.modStation i fun x => { x with work := clearedWork x.work }) (f := Body.setResult i .faulted)
        (fun _ => rfl) hb), modBody_modBody (f := Body.setResult i .faulted) fun _ => rfl]
    rfl
  change ((((s.modStation i fun x => { x with work := clearedWork x.work }).setResultAt i .faulted).markIncomplete
    k).completeStation i).abortAll k (s.abortSet i k) = _
  rw [haborts, abortAll_nil, hmarked, completeStation_eq hlt]
  generalize hX : ({ s with
      stations := tset s.stations i { s.station i with work := clearedWork (s.station i).work }
      bodies := (s.modBody k fun b => { b with results := tset b.results i .faulted, incomplete := true }).bodies
      attention := (s.raise .bodyIncomplete b.tag.toNat).attention } : State) = t
  have hread : t.station i = { s.station i with work := clearedWork (s.station i).work } := by
    rw [← hX]
    exact tget_tset_self _ _ _ _ hlt
  rw [enterDue_of_not_arrived (by rw [hread, hstate]; decide) (by decide), List.append_nil, hread, ← hX, tset_tset]
  rfl

theorem clearStationBlock_of_body {h : Hdr} (hlen : h.lengthOk = true) (hrun : s.mode = .run) (hi : i < s.stationCount)
    (hzone : s.inZone h.port i = true) (hstate : (s.station i).state = .fault) (hk : (s.station i).body = some k) :
    clearStationBlock h i s = (s.clearWithBody i k).done (.stationState ((s.clearWithBody i k).station i).state) := by
  simp only [clearStationBlock, stationRefusal_eq_none hlen hrun hi hzone, ne_eq, hstate, not_true_eq_false, if_false, hk]

/-- The reply of HOLD and RELEASE, once the station is known (R61). -/
theorem holdContents_eq {st : Station} (hst : s.station i = st) : s.holdContents i = .held st.state st.hold := by
  rw [holdContents, hst]

end State

section
variable {s : State} {h : Hdr} {i : Nat} (htakes : s.takes h .zone) (hrun : s.mode = .run) (hi : i < s.stationCount)
  (hlt : i < 16) (hzone : s.inZone h.port i = true)
include htakes hrun hi hlt hzone

/-- O27: HOLD sets the flag. -/
theorem hold_sets_flag :
    ∃ t, exec (.hold h i) s = .next t ∧ State.answered h 0x25 .done (.held (s.station i).state true) s t ∧
      t.station i = { s.station i with hold := true } ∧ (∀ j, j ≠ i → t.station j = s.station j) ∧
      t = { s with ports := t.ports, stations := t.stations } := by
  obtain ⟨hlistens, hgrants, hlen⟩ := htakes
  have hblock := State.holdBlock_eq (s := s.goodFrameOn h.port.val) hlen hrun hi hzone
  rw [State.holdContents_eq (State.station_modStation_self _ _ _ hlt)] at hblock
  obtain ⟨hexec, hanswered⟩ := s.exec_request_of_block (i := .hold h i) rfl hlistens hgrants hblock rfl
  exact ⟨_, hexec, hanswered, tget_tset_self _ _ _ _ hlt, fun j hj => tget_tset_ne _ _ _ _ _ hj, rfl⟩

/-- O27: RELEASE where there is no work to open. -/
theorem release_clears_flag (hopen : (s.station i).hold = false ∨ (s.station i).state ≠ .arrived ∨ (s.station i).work ≠ none) :
    ∃ t, exec (.release h i) s = .next t ∧ State.answered h 0x26 .done (.held (s.station i).state false) s t ∧
      t.station i = { s.station i with hold := false } ∧ (∀ j, j ≠ i → t.station j = s.station j) ∧
      t = { s with ports := t.ports, stations := t.stations } := by
  obtain ⟨hlistens, hgrants, hlen⟩ := htakes
  have hnot : ¬ ((s.station i).hold = true ∧ (s.station i).state = .arrived ∧ (s.station i).work = none) := by
    rintro ⟨hhold, harrived, hwork⟩
    simp [hhold, harrived, hwork] at hopen
  have hblock := State.releaseBlock_eq (s := s.goodFrameOn h.port.val) hlen hrun hi hzone
    (State.releaseStation_of_opened hnot) (State.station_modStation_self _ _ _ hlt)
  obtain ⟨hexec, hanswered⟩ := s.exec_request_of_block (i := .release h i) rfl hlistens hgrants hblock rfl
  exact ⟨_, hexec, hanswered, tget_tset_self _ _ _ _ hlt, fun j hj => tget_tset_ne _ _ _ _ _ hj, rfl⟩

/-- O27: RELEASE where the work was not opened. -/
theorem release_opens_work {b : Body} (hhold : (s.station i).hold = true) (hstate : (s.station i).state = .arrived)
    (hwork : (s.station i).work = none) (hk : (s.station i).body = some b.key) (hb : s.bodyOf b.key = some b)
    (hwelded : b.result i ≠ .welded) (hpassed : b.result i ≠ .passed)
    (henabled : ∀ r ∈ s.robotsAt i, s.resolve b r ≠ none → (s.robot r).enabled = true)
    (howes : ∃ r ∈ s.robotsAt i, s.resolve b r ≠ none) :
    ∃ t, exec (.release h i) s = .next t ∧ State.answered h 0x26 .done (.held .arrived false) s t ∧
      t.station i = { s.station i with
        hold := false
        work := some ((s.robotsAt i).map fun r => ⟨r, if s.resolve b r = none then .none else .owed, false⟩) } ∧
      (∀ j, j ≠ i → t.station j = s.station j) ∧
      (∀ d, d ∈ t.due ↔ d ∈ s.due ∨ (∃ r ∈ s.presentRobots, d = .recompute r) ∨
        ∃ r ∈ s.robotsAt i, s.resolve b r ≠ none ∧ d = .selection r) ∧
      t = { s with ports := t.ports, stations := t.stations, due := t.due } := by
  obtain ⟨hlistens, hgrants, hlen⟩ := htakes
  set items := (s.robotsAt i).map fun r => (⟨r, if s.resolve b r = none then .none else .owed, false⟩ : WorkItem) with hlist
  have howed : ∃ w ∈ items, w.comp = .owed := by
    obtain ⟨r, hr, hresolve⟩ := howes
    exact ⟨_, List.mem_map_of_mem hr, if_neg hresolve⟩
  have hskipped : (items.any fun w => w.comp == .skipped) = false := by
    simp only [hlist, List.any_map, List.any_eq_false, Function.comp_apply, beq_iff_eq]
    intro r _
    split <;> decide
  have hitems : (s.goodFrameOn h.port.val).workFor i b = items := State.workFor_of_enabled hwelded hpassed henabled
  have hblock := State.releaseBlock_eq (s := s.goodFrameOn h.port.val) hlen hrun hi hzone
    (State.releaseStation_opens (s := s.goodFrameOn h.port.val) hlt hhold hstate hwork hk hb hitems howed hskipped) (tget_tset_self _ _ _ _ hlt)
  obtain ⟨hexec, hanswered⟩ := s.exec_request_of_block (i := .release h i) rfl hlistens hgrants hblock rfl
  refine ⟨_, hexec, ?_, tget_tset_self _ _ _ _ hlt, fun j hj => tget_tset_ne _ _ _ _ _ hj, fun d => ?_, rfl⟩
  · rw [← hstate]
    exact hanswered
  · change d ∈ s.due ++ s.presentRobots.map .recompute ++ State.owingDue items ↔ _
    simp only [List.mem_append, State.mem_recomputeAll, State.mem_owingDue, or_assoc]
    refine or_congr_right (or_congr_right ?_)
    simp only [hlist, List.mem_map, exists_exists_and_eq_and]
    refine exists_congr fun r => and_congr_right fun _ => ?_
    by_cases hresolve : s.resolve b r = none <;> simp [hresolve]

/-- O27: CLEAR STATION. -/
theorem clearStation_cases :
    ((s.station i).state ≠ .fault →
      ∃ t, exec (.clearStation h i) s = .next t ∧ State.answered h 0x27 .state .nothing s t ∧ t = { s with ports := t.ports }) ∧
    ((s.station i).state = .fault → (s.station i).body = none →
      ∃ t, exec (.clearStation h i) s = .next t ∧ State.answered h 0x27 .done (.stationState .empty) s t ∧
        t.station i = { s.station i with state := .empty, cause := none } ∧
        (∀ j, j ≠ i → t.station j = s.station j) ∧ t = { s with ports := t.ports, stations := t.stations }) ∧
    ∀ b, (s.station i).state = .fault → (s.station i).body = some b.key → s.bodyOf b.key = some b →
      s.abortSet i b.key = [] →
      ∃ t, exec (.clearStation h i) s = .next t ∧ State.answered h 0x27 .done (.stationState .complete) s t ∧
        t.bodyOf b.key = some { b with results := tset b.results i .faulted, incomplete := true } ∧
        (∀ k, k ≠ b.key → t.bodyOf k = s.bodyOf k) ∧
        t.station i = { s.station i with
          state := .complete, cause := none, running := false, lastCycle := (s.station i).watch
          work := State.clearedWork (s.station i).work } ∧
        (∀ j, j ≠ i → t.station j = s.station j) ∧
        t.attention = ((s.raise .bodyIncomplete b.tag.toNat).raise .stationComplete i).attention ∧
        t = { s with ports := t.ports, bodies := t.bodies, stations := t.stations, attention := t.attention } := by
  obtain ⟨hlistens, hgrants, hlen⟩ := htakes
  refine ⟨fun hstate => ?_, fun hstate hbody => ?_, fun b hstate hk hb haborts => ?_⟩
  · exact s.exec_request_of_block_unchanged (i := .clearStation h i) rfl hlistens hgrants
      (State.clearStationBlock_of_not_fault (s := s.goodFrameOn h.port.val) hlen hrun hi hzone hstate)
  · obtain ⟨hexec, hanswered⟩ := s.exec_request_of_block (i := .clearStation h i) rfl hlistens hgrants
      (State.clearStationBlock_of_empty (s := s.goodFrameOn h.port.val) hlen hrun hi hzone hlt hstate hbody) rfl
    exact ⟨_, hexec, hanswered, tget_tset_self _ _ _ _ hlt, fun j hj => tget_tset_ne _ _ _ _ _ hj, rfl⟩
  · have hblock := State.clearStationBlock_of_body (s := s.goodFrameOn h.port.val) hlen hrun hi hzone hstate hk
    rw [State.clearWithBody_eq (s := s.goodFrameOn h.port.val) hlt hstate hk hb haborts] at hblock
    obtain ⟨hexec, hanswered⟩ := s.exec_request_of_block (i := .clearStation h i) rfl hlistens hgrants hblock rfl
    have hread := congrArg Station.state
      (State.station_modStation_self s i (fun x => { x with
        state := .complete, cause := none, running := false, lastCycle := x.watch, work := State.clearedWork x.work }) hlt)
    refine ⟨_, hexec, ?_, State.bodyOf_modBody_eq (s := s) (fun _ => rfl) hb,
      fun k hk => State.bodyOf_modBody_ne s _ _ _ (fun _ => rfl) hk, tget_tset_self _ _ _ _ hlt,
      fun j hj => tget_tset_ne _ _ _ _ _ hj, rfl, rfl⟩
    exact hread ▸ hanswered

end

/-- Settles O27: the three requests by the state of their station. -/
theorem holdReleaseAndClearActOnTheStation : Obligations.HoldReleaseAndClearActOnTheStation := by
  refine ⟨fun s h i htakes hrun hi hlt hzone => ⟨hold_sets_flag htakes hrun hi hlt hzone,
    release_clears_flag htakes hrun hi hlt hzone, fun b hhold hstate hwork hk hb hwelded hpassed henabled howes =>
      release_opens_work htakes hrun hi hlt hzone hhold hstate hwork hk hb hwelded hpassed henabled howes⟩,
    fun s h i htakes hrun hi hlt hzone => clearStation_cases htakes hrun hi hlt hzone⟩

end Machine
end Sys2Proof
end

section
/-!
SUPPORT. Arrivals (R48 to R52): the check passed, the stations bypassed, and the arrival taken.
-/
namespace Sys2Proof
namespace Machine
namespace State

variable {s : State} {i k : Nat} {b : Body}

/-! ### The arrival taken (R48) -/

theorem tagged_isEmpty_of_bodyOf (hb : s.bodyOf b.key = some b) : (s.tagged b.tag).isEmpty = false :=
  tagged_isEmpty_eq_false ⟨b, mem_of_bodyOf _ _ hb, rfl⟩

/-- An arrival that carries the expected body's tag, or none, at an EMPTY station is taken. -/
theorem arrival_of_taken {tag : Option Word} (htag : tag = none ∨ tag = some b.tag) (hstate : (s.station i).state = .empty)
    (hexpected : s.expectedBody i = some b) (hb : s.bodyOf b.key = some b) :
    s.arrival i tag =
      (((s.impliedDeparture i b).bypass i b.key).takeArrival i b.key, false, some ⟨b.tag, b.psn⟩) := by
  have hcheck : s.arrivalCheck i tag = .taken b.key := by
    obtain rfl | rfl := htag
    · simp [arrivalCheck, hstate, hexpected]
    · simp [arrivalCheck, hstate, hexpected, tagged_isEmpty_of_bodyOf hb]
  simp only [arrival, hcheck, hb]

/-- A body that is at no station departs from none on its way. -/
theorem impliedDeparture_of_not_at (hnot : ∀ t, b.state ≠ .onLine (.atStation t)) : s.impliedDeparture i b = s := by
  unfold impliedDeparture
  split
  · next t ht => exact absurd ht (hnot t)
  · rfl

theorem impliedDeparture_of_upstream {t : Nat} (hat : b.state = .onLine (.atStation t)) (hlt : t < i) :
    s.impliedDeparture i b = (s.departure t).1 := by
  simp only [impliedDeparture, hat, hlt, if_true]

/-! ### The stations bypassed (R50) -/

theorem mem_bypassed {j : Nat} : j ∈ bypassed i b ↔
    bypassFrom b ≤ j ∧ j < i ∧ b.result j ≠ .welded ∧ b.result j ≠ .passed := by
  simp only [bypassed, List.mem_filter, List.mem_range, Bool.and_eq_true, decide_eq_true_eq, bne_iff_ne, ne_eq]
  tauto

theorem anyResolves_eq_true_iff {j : Nat} : s.anyResolves b j = true ↔ ∃ r ∈ s.robotsAt j, s.resolve b r ≠ none := by
  simp [anyResolves, Option.isSome_iff_ne_none]

/-- The record once it has passed the stations it bypasses (R50). -/
def bypassedBody (i : Nat) (mark : Bool) (b : Body) (c : Body) : Body :=
  { (bypassed i b).foldl (fun c j => c.setResult j .skipped) c with incomplete := c.incomplete || mark }

theorem bypassedBody_eq (mark : Bool) (c : Body) : bypassedBody i mark b c =
    { c with results := (bypassedBody i mark b c).results, incomplete := c.incomplete || mark } := by
  rw [bypassedBody, foldl_setResult_eq]

theorem key_bypassedBody (mark : Bool) (c : Body) : (bypassedBody i mark b c).key = c.key := by
  rw [bypassedBody_eq]

theorem result_bypassedBody (mark : Bool) {j : Nat} (hj : j < 16) : (bypassedBody i mark b b).result j =
    if bypassFrom b ≤ j ∧ j < i ∧ b.result j ≠ .welded ∧ b.result j ≠ .passed then .skipped else b.result j := by
  refine (result_foldl_setResult _ .skipped b hj).trans ?_
  simp only [mem_bypassed]

theorem bypass_eq (hb : s.bodyOf k = some b) {mark : Bool}
    (hmark : mark = true ↔ ∃ j ∈ bypassed i b, ∃ r ∈ s.robotsAt j, s.resolve b r ≠ none) :
    s.bypass i k =
      { s with
        bodies := (s.modBody k (bypassedBody i mark b)).bodies
        attention := (if mark then s.raise .bodyIncomplete b.tag.toNat else s).attention } := by
  have hany : ((bypassed i b).any fun j => s.anyResolves b j) = mark := by
    rw [Bool.eq_iff_iff, hmark, List.any_eq_true]
    simp only [anyResolves_eq_true_iff]
  have hkey : ∀ c : Body, ((bypassed i b).foldl (fun b j => b.setResult j .skipped) c).key = c.key := by
    intro c
    rw [foldl_setResult_eq]
  have htag : ((bypassed i b).foldl (fun b j => b.setResult j .skipped) b).tag = b.tag := by
    rw [foldl_setResult_eq]
  simp only [bypass, hb, hany]
  cases mark with
  | true =>
    rw [if_pos rfl, if_pos rfl, markIncomplete_of_some _ _ (bodyOf_modBody_eq hkey hb), modBody_modBody hkey, htag]
    have hrecord : bypassedBody i true b =
        fun c => { (bypassed i b).foldl (fun b j => b.setResult j .skipped) c with incomplete := true } :=
      funext fun c => by rw [bypassedBody, Bool.or_true]
    rw [hrecord]
    rfl
  | false =>
    have hrecord : bypassedBody i false b = fun c => (bypassed i b).foldl (fun b j => b.setResult j .skipped) c := by
      funext c
      rw [bypassedBody, Bool.or_false, foldl_setResult_eq]
    rw [hrecord]
    rfl

/-- A body on its way to the next station bypasses none. -/
theorem bypass_of_next (hb : s.bodyOf k = some b) (hnone : bypassed i b = []) : s.bypass i k = s := by
  simp only [bypass, hb, hnone, List.any_nil, Bool.false_eq_true, if_false, List.foldl_nil]
  exact modBody_id _ _ _ fun _ => rfl

theorem bypassed_of_next (hfrom : i ≤ bypassFrom b) : bypassed i b = [] := by
  refine List.eq_nil_iff_forall_not_mem.mpr fun j hj => ?_
  obtain ⟨hle, hlt, -⟩ := mem_bypassed.mp hj
  omega

/-! ### The arrival at the station (R51) -/

/-- The record of a body that arrives (R51). -/
def arrivedBody (i : Nat) (b : Body) : Body :=
  { b with state := .onLine (.atStation i), welds := .replicate 32 none, lastStation := some i, stay := b.stayAt i }

/-- The station a body arrives at (R51). -/
def arrivedStation (k : Nat) (x : Station) : Station :=
  { x with
    state := .arrived, body := some k, work := none, cause := none, overrunRaised := false, watch := 0, watchMs := 0
    running := true }

/-- The state with the arrival taken, ahead of the opening of the work (R51). -/
def arrived (i k : Nat) (b : Body) (s : State) : State :=
  { s with
    bodies := (s.modBody k (arrivedBody i)).bodies
    stations := tset s.stations i (arrivedStation k (s.station i))
    attention := (s.raise .arrival i).attention
    due := s.due ++ s.enterDue i .arrived ++ s.presentRobots.map .recompute ++ if b.state = .admitted then [.admission] else [] }

theorem takeArrival_eq (hi : i < 16) (hb : s.bodyOf k = some b) :
    s.takeArrival i k = if (s.station i).hold then s.arrived i k b else (s.arrived i k b).openWork i k := by
  have hlanding : ∀ u : State, (u.enterState i .arrived).modStation i (fun x =>
      { x with body := some k, work := none, cause := none, overrunRaised := false, watch := 0, watchMs := 0, running := true }) =
      { u with
        stations := tset u.stations i (arrivedStation k (u.station i))
        due := u.due ++ u.enterDue i .arrived } := fun u => modStation_enterState hi _ _
  simp only [takeArrival, hb, hlanding]
  by_cases hadmitted : b.state = .admitted
  · simp only [arrived, hadmitted, beq_self_eq_true, if_true]
    rfl
  · simp only [arrived, hadmitted, beq_eq_false_iff_ne.mpr hadmitted, Bool.false_eq_true, if_false, List.append_nil]
    rfl

/-! ### The work opened at a station that owes the body nothing (R52) -/

theorem enterDue_congr {u : State} (hstate : (u.station i).state = (s.station i).state) (hlayout : u.layout = s.layout)
    (st : StationState) : u.enterDue i st = s.enterDue i st := by
  simp only [enterDue, hstate, robotsAt, place, hlayout]

/-- A station completed with a result for its body (R53). -/
theorem completeStation_setResultAt (hi : i < 16) (hk : (s.station i).body = some k) (r : Result) :
    (s.setResultAt i r).completeStation i =
      { s with
        stations := tset s.stations i
          { s.station i with state := .complete, running := false, lastCycle := (s.station i).watch, cause := none }
        bodies := (s.modBody k (Body.setResult i r)).bodies
        attention := (s.raise .stationComplete i).attention
        due := s.due ++ s.enterDue i .complete } := by
  rw [setResultAt_of_body hk, completeStation_eq hi]
  rfl

theorem openWork_of_unowed (hi : i < 16) (hk : (s.station i).body = some k) (hb : s.bodyOf k = some b) {items : List WorkItem}
    (hitems : s.workFor i b = items) (hnone : ¬ ∃ w ∈ items, w.comp = .owed) :
    s.openWork i k =
      { s with
        stations := tset s.stations i
          { s.station i with
            work := some items, state := .complete, running := false, lastCycle := (s.station i).watch, cause := none }
        bodies := (s.modBody k fun c => { c with
          results := tset c.results i (unowedResult i b items)
          incomplete := c.incomplete || items.any fun w => w.comp == .skipped }).bodies
        attention := ((if items.any fun w => w.comp == .skipped then s.raise .bodyIncomplete b.tag.toNat else s).raise
          .stationComplete i).attention
        due := s.due ++ s.enterDue i .complete ++ s.presentRobots.map .recompute } := by
  have howing : (items.filter fun w => w.comp == .owed) = [] := by
    rw [List.filter_eq_nil_iff]
    exact fun w hw hcomp => hnone ⟨w, hw, by simpa using hcomp⟩
  simp only [openWork, hb, hitems, howing, if_true, List.map_nil]
  set u := s.modStation i fun x => { x with work := some items } with hu
  have hread : u.station i = { s.station i with work := some items } := tget_tset_self _ _ _ _ hi
  have hb' : u.bodyOf k = some b := hb
  have hdue := enterDue_congr (u := u) (s := s) (by rw [hread]) rfl .complete
  have hk' : (u.station i).body = some k := by rw [hread]; exact hk
  cases hskipped : items.any fun w => w.comp == .skipped with
  | true =>
    simp only [if_true, markIncomplete_of_some _ _ hb', Bool.or_true]
    generalize hv : (u.modBody k fun b => { b with incomplete := true }).raise .bodyIncomplete b.tag.toNat = v
    have hv' : v.station i = u.station i := by rw [← hv]; rfl
    rw [completeStation_setResultAt hi (k := k) (by rw [hv']; exact hk'), hv', hread,
      enterDue_congr (u := v) (s := u) (by rw [hv']) (by rw [← hv]; rfl), hdue, ← hv]
    have hbodies := congrArg bodies (modBody_modBody (s := s) (k := k) (f := fun b => { b with incomplete := true })
      (fun _ => rfl) (Body.setResult i (unowedResult i b items)))
    exact (eq_iff_fields _ _).mpr ⟨rfl, List.append_nil _, rfl, rfl, rfl, rfl, rfl, rfl, hbodies, rfl, rfl, tset_tset _ _ _ _, rfl, rfl,
      rfl, rfl, rfl, rfl, rfl, rfl, rfl, rfl⟩
  | false =>
    simp only [Bool.false_eq_true, if_false, Bool.or_false]
    rw [completeStation_setResultAt hi hk', hread, hdue, hu, stations_modStation, tset_tset]
    exact (eq_iff_fields _ _).mpr ⟨rfl, List.append_nil _, rfl, rfl, rfl, rfl, rfl, rfl, rfl, rfl, rfl, rfl, rfl, rfl,
      rfl, rfl, rfl, rfl, rfl, rfl, rfl, rfl⟩

end State
end Machine
end Sys2Proof
end

section
/-!
SUPPORT. ARRIVE of the expected body (O21).
-/
namespace Sys2Proof
namespace Machine
namespace State

variable {s : State} {i u : Nat} {b : Body}

/-! ### A body that comes from between stations (R48 to R51) -/

theorem bypassFrom_of_coming (hfrom : b.state = .onLine (.before u) ∨ b.state = .admitted ∧ u = 0) : bypassFrom b = u := by
  obtain hfrom | ⟨hfrom, rfl⟩ := hfrom <;> simp only [bypassFrom, hfrom]

theorem not_at_of_coming (hfrom : b.state = .onLine (.before u) ∨ b.state = .admitted ∧ u = 0) (t : Nat) :
    b.state ≠ .onLine (.atStation t) := by
  obtain hfrom | ⟨hfrom, rfl⟩ := hfrom <;> simp [hfrom]

/-- The record of a body that has passed the stations it bypasses and arrives at station `i` (R50, R51). -/
def comeBody (i : Nat) (mark : Bool) (b c : Body) : Body := arrivedBody i (bypassedBody i mark b c)

theorem comeBody_eq (mark : Bool) : comeBody i mark b b =
    { b with
      state := .onLine (.atStation i), results := (comeBody i mark b b).results, welds := .replicate 32 none
      lastStation := some i, stay := if b.lastStation = some i then b.stay else b.stay + 1
      incomplete := b.incomplete || mark } := by
  rw [comeBody, bypassedBody_eq]
  rfl

theorem key_comeBody (mark : Bool) (c : Body) : (comeBody i mark b c).key = c.key := key_bypassedBody mark c

/-- The state with the arrival of a body that comes from between stations taken, ahead of the opening of the work. -/
def come (i : Nat) (mark : Bool) (b : Body) (s : State) : State :=
  { s with
    bodies := (s.modBody b.key (comeBody i mark b)).bodies
    stations := tset s.stations i (arrivedStation b.key (s.station i))
    attention := ((if mark then s.raise .bodyIncomplete b.tag.toNat else s).raise .arrival i).attention
    due := s.due ++ s.enterDue i .arrived ++ s.presentRobots.map .recompute ++ if b.state = .admitted then [.admission] else [] }

theorem takeArrival_bypass (hi : i < 16) (hb : s.bodyOf b.key = some b) {mark : Bool}
    (hmark : mark = true ↔ ∃ j ∈ bypassed i b, ∃ r ∈ s.robotsAt j, s.resolve b r ≠ none) :
    (s.bypass i b.key).takeArrival i b.key =
      if (s.station i).hold then s.come i mark b else (s.come i mark b).openWork i b.key := by
  have hbody : (s.modBody b.key (bypassedBody i mark b)).bodyOf b.key = some (bypassedBody i mark b b) :=
    bodyOf_modBody_eq (key_bypassedBody mark) hb
  have hstate : (bypassedBody i mark b b).state = b.state := by rw [bypassedBody_eq]
  rw [bypass_eq hb hmark]
  generalize hv : ({ s with
      bodies := (s.modBody b.key (bypassedBody i mark b)).bodies
      attention := (if mark then s.raise .bodyIncomplete b.tag.toNat else s).attention } : State) = v
  have hvbody : v.bodyOf b.key = some (bypassedBody i mark b b) := by
    rw [← hv]
    exact hbody
  have hcome : v.arrived i b.key (bypassedBody i mark b b) = s.come i mark b := by
    have hbodies := congrArg bodies (modBody_modBody (s := s) (k := b.key) (key_bypassedBody (i := i) (b := b) mark)
      (arrivedBody i))
    rw [arrived, hstate, ← hv]
    exact (eq_iff_fields _ _).mpr ⟨rfl, rfl, rfl, rfl, rfl, rfl, rfl, rfl, hbodies, rfl, rfl, rfl, rfl, rfl, rfl, rfl, rfl, rfl, rfl,
      rfl, rfl, by cases mark <;> rfl⟩
  rw [takeArrival_eq hi hvbody, hcome, ← hv]
  rfl

/-- An arrival of the expected body, come from between stations (R48 to R51). -/
theorem arrival_of_coming (hi : i < 16) {tag : Option Word} (htag : tag = none ∨ tag = some b.tag)
    (hempty : (s.station i).state = .empty) (hexpected : s.expectedBody i = some b) (hb : s.bodyOf b.key = some b)
    (hfrom : b.state = .onLine (.before u) ∨ b.state = .admitted ∧ u = 0) {mark : Bool}
    (hmark : mark = true ↔ ∃ j, u ≤ j ∧ j < i ∧ b.result j ≠ .welded ∧ b.result j ≠ .passed ∧
      ∃ r ∈ s.robotsAt j, s.resolve b r ≠ none) :
    s.arrival i tag = (if (s.station i).hold then s.come i mark b else (s.come i mark b).openWork i b.key, false,
      some ⟨b.tag, b.psn⟩) := by
  have hmark' : mark = true ↔ ∃ j ∈ bypassed i b, ∃ r ∈ s.robotsAt j, s.resolve b r ≠ none := by
    simp only [hmark, mem_bypassed, bypassFrom_of_coming hfrom, and_assoc]
  rw [arrival_of_taken htag hempty hexpected hb, impliedDeparture_of_not_at (not_at_of_coming hfrom),
    takeArrival_bypass hi hb hmark']

/-- The events owed as an arrival is taken (R51). -/
theorem mem_due_arrived (d : Due) :
    d ∈ s.due ++ s.enterDue i .arrived ++ s.presentRobots.map .recompute ++ (if b.state = .admitted then [.admission] else []) ↔
    d ∈ s.due ∨ (∃ r ∈ s.presentRobots, d = .recompute r) ∨ d = .admission ∧ b.state = .admitted := by
  have hadmission : d ∈ (if b.state = .admitted then [Due.admission] else []) ↔ d = .admission ∧ b.state = .admitted := by
    split <;> simp_all
  simp only [List.mem_append, mem_recomputeAll, hadmission, or_assoc]
  refine or_congr_right ?_
  rw [← or_assoc, or_iff_right_of_imp (a := d ∈ s.enterDue i .arrived) mem_enterDue_imp]

/-! ### A body that comes to a station that is not held (R52) -/

/-- The arrival of a body come from directly before the station, or from ahead of the first one. -/
theorem arrival_of_next (hi : i < 16) {tag : Option Word} (htag : tag = none ∨ tag = some b.tag)
    (hempty : (s.station i).state = .empty) (hexpected : s.expectedBody i = some b) (hb : s.bodyOf b.key = some b)
    (hfrom : b.state = .onLine (.before i) ∨ b.state = .admitted ∧ i = 0) (hhold : (s.station i).hold = false) :
    s.arrival i tag = ((s.arrived i b.key b).openWork i b.key, false, some ⟨b.tag, b.psn⟩) := by
  rw [arrival_of_taken htag hempty hexpected hb, impliedDeparture_of_not_at (not_at_of_coming hfrom),
    bypass_of_next hb (bypassed_of_next (bypassFrom_of_coming hfrom).ge), takeArrival_eq hi hb, if_neg (by simp [hhold])]

/-- The record once it has arrived and its work is opened (R51, R52). -/
def openedBody (i : Nat) (result : Result) (owed skipped : Bool) (b : Body) : Body :=
  { arrivedBody i b with
    results := if owed then b.results else tset b.results i result, incomplete := b.incomplete || skipped }

/-- The station once the body has arrived and its work is opened (R51, R52). -/
def openedStation (k : Nat) (items : List WorkItem) (owed : Bool) (x : Station) : Station :=
  { arrivedStation k x with
    state := if owed then .arrived else .complete, work := some items, running := owed
    lastCycle := if owed then x.lastCycle else 0 }

theorem openWork_arrived (hi : i < 16) (hb : s.bodyOf b.key = some b) {items : List WorkItem} (hitems : s.workFor i b = items)
    {owed skipped : Bool} (howed : owed = true ↔ ∃ w ∈ items, w.comp = .owed)
    (hskipped : (items.any fun w => w.comp == .skipped) = skipped) :
    (s.arrived i b.key b).openWork i b.key =
      { s with
        stations := tset s.stations i (openedStation b.key items owed (s.station i))
        bodies := (s.modBody b.key (openedBody i (unowedResult i b items) owed skipped)).bodies
        attention := (if owed then (if skipped then (s.raise .arrival i).raise .bodyIncomplete b.tag.toNat else s.raise .arrival i)
          else (if skipped then (s.raise .arrival i).raise .bodyIncomplete b.tag.toNat else s.raise .arrival i).raise
            .stationComplete i).attention
        due := (s.arrived i b.key b).due ++ (if owed then [] else (s.arrived i b.key b).enterDue i .complete) ++
          s.presentRobots.map .recompute ++ owingDue items } := by
  have hbody : (s.arrived i b.key b).bodyOf b.key = some (arrivedBody i b) :=
    bodyOf_modBody_eq (s := s) (f := arrivedBody i) (fun _ => rfl) hb
  have hstation : (s.arrived i b.key b).station i = arrivedStation b.key (s.station i) := tget_tset_self _ _ _ _ hi
  have hwork : (s.arrived i b.key b).workFor i (arrivedBody i b) = items := hitems
  have hbodies (f : Body → Body) := congrArg bodies (modBody_modBody (s := s) (k := b.key) (f := arrivedBody i) (fun _ => rfl) f)
  cases owed with
  | true =>
    rw [openWork_of_owed hbody hwork (howed.mp rfl), hskipped, hstation]
    refine (eq_iff_fields _ _).mpr ⟨rfl, ?_, rfl, rfl, rfl, rfl, rfl, rfl, ?_, rfl, rfl, tset_tset _ _ _ _, rfl, rfl, rfl, rfl, rfl, rfl,
      rfl, rfl, rfl, by cases skipped <;> rfl⟩
    · rw [if_pos rfl, List.append_nil]
      rfl
    · cases skipped with
      | true =>
        have hrecord : openedBody i (unowedResult i b items) true true = fun c => { arrivedBody i c with incomplete := true } :=
          funext fun c => by rw [openedBody, Bool.or_true]; rfl
        rw [hrecord]
        exact hbodies fun c => { c with incomplete := true }
      | false =>
        have hrecord : openedBody i (unowedResult i b items) true false = arrivedBody i :=
          funext fun c => by rw [openedBody, Bool.or_false]; rfl
        rw [hrecord]
        rfl
  | false =>
    have hnone : ¬ ∃ w ∈ items, w.comp = .owed := fun h => Bool.false_ne_true (howed.mpr h)
    rw [openWork_of_unowed hi (by rw [hstation]; rfl) hbody hwork hnone, hskipped, hstation]
    have hresult : unowedResult i (arrivedBody i b) items = unowedResult i b items := rfl
    have hnothing : owingDue items = [] := by
      refine List.eq_nil_iff_forall_not_mem.mpr fun d hd => ?_
      obtain ⟨w, hw, hcomp, -⟩ := (mem_owingDue items d).mp hd
      exact hnone ⟨w, hw, hcomp⟩
    rw [hnothing, List.append_nil]
    refine (eq_iff_fields _ _).mpr ⟨rfl, rfl, rfl, rfl, rfl, rfl, rfl, rfl, hbodies _, rfl, rfl, tset_tset _ _ _ _, rfl, rfl, rfl, rfl,
      rfl, rfl, rfl, rfl, rfl, by cases skipped <;> rfl⟩

/-- The events owed once the work is opened. -/
theorem mem_due_opened (owed : Prop) [Decidable owed] (items : List WorkItem) (d : Due) :
    d ∈ (s.arrived i b.key b).due ++ (if owed then [] else (s.arrived i b.key b).enterDue i .complete) ++
        s.presentRobots.map .recompute ++ owingDue items ↔
      d ∈ s.due ∨ (∃ r ∈ s.presentRobots, d = .recompute r) ∨
        d = .admission ∧ b.state = .admitted ∨ ∃ w ∈ items, w.comp = .owed ∧ d = .selection w.robot := by
  have hcomplete : d ∈ (if owed then [] else (s.arrived i b.key b).enterDue i .complete) →
      ∃ r ∈ s.presentRobots, d = .recompute r := by
    split
    · exact fun hd => absurd hd List.not_mem_nil
    · exact fun hd => mem_enterDue_imp (s := s.arrived i b.key b) hd
  rw [List.mem_append, List.mem_append, List.mem_append, mem_recomputeAll, mem_owingDue]
  refine (or_congr_left (or_congr_left (or_congr_left (mem_due_arrived (s := s) (i := i) (b := b) d)))).trans ?_
  constructor
  · rintro ((((hd | hd | hd) | hd) | hd) | hd)
    · exact .inl hd
    · exact .inr (.inl hd)
    · exact .inr (.inr (.inl hd))
    · exact .inr (.inl (hcomplete hd))
    · exact .inr (.inl hd)
    · exact .inr (.inr (.inr hd))
  · rintro (hd | hd | hd | hd)
    · exact .inl (.inl (.inl (.inl hd)))
    · exact .inl (.inr hd)
    · exact .inl (.inl (.inl (.inr (.inr hd))))
    · exact .inr hd

/-! ### ARRIVE by the arrival source (R68, R70, R71) -/

/-- ARRIVE where it is handed to the tracker: at a LINE or FRAME station, and at a BOTH one whose line arrival opened the
window. -/
theorem frameArrival_of_awaited (tag : Word) (hi : i < 16) {x : Presence}
    (hx : (s.station i).source ≠ .both ∧ x = s.presence i ∨
      (s.station i).source = .both ∧ (s.presence i).window = .openLine ∧
        x = { s.presence i with window := .closed, confirm := 0 }) :
    ∃ v : State, s.frameArrival i tag = v.arrival i (some tag) ∧ v = { s with lines := v.lines } ∧ v.presence i = x ∧
      (∀ j, j ≠ i → v.presence j = s.presence j) ∧ v.present i = s.present i := by
  obtain ⟨hsource, rfl⟩ | ⟨hsource, hwindow, rfl⟩ := hx
  · exact ⟨s, frameArrival_of_not_both tag hsource, rfl, rfl, fun _ _ => rfl, rfl⟩
  · refine ⟨s.closeWindow i, by simp only [frameArrival, hsource, hwindow], rfl, presence_modPresence_self _ _ _ hi,
      fun j hj => presence_modPresence_ne _ _ _ _ hj, ?_⟩
    have hread : (s.closeWindow i).presence i = { s.presence i with window := .closed, confirm := 0 } :=
      presence_modPresence_self _ _ _ hi
    rw [present, present, hread]
    rfl

theorem frameArrival_opens (tag : Word) (hboth : (s.station i).source = .both) (hclosed : (s.presence i).window = .closed)
    (hempty : (s.station i).state = .empty) :
    s.frameArrival i tag = (s.openWindow i (.openFrame tag), false, none) := by
  simp only [frameArrival, hboth, hclosed, hempty, if_true]

theorem frameArrival_refused (tag : Word) (hboth : (s.station i).source = .both)
    (hrefused : (s.presence i).window = .closed ∧ (s.station i).state ≠ .empty ∨ ∃ tag', (s.presence i).window = .openFrame tag') :
    s.frameArrival i tag = (s, true, none) := by
  obtain ⟨hclosed, hstate⟩ | ⟨tag', hopen⟩ := hrefused
  · simp only [frameArrival, hboth, hclosed, hstate, if_false]
  · simp only [frameArrival, hboth, hopen]

/-- What ARRIVE answers where the arrival is handed to the tracker (R69). -/
theorem arriveBlock_of_awaited {h : Hdr} (hlen : h.lengthOk = true) (hrun : s.mode = .run) (hi : i < s.stationCount)
    (hzone : s.inZone h.port i = true) {tag : Word} {v t : State} {moved : Option BodyName}
    (hframe : s.frameArrival i tag = v.arrival i (some tag))
    (hpresent : v.present i = s.present i) (ha : v.arrival i (some tag) = (t, false, moved)) {st : StationState}
    (hstate : (t.station i).state = st) (hlines : t.lines = v.lines) (hlayout : t.layout = v.layout) :
    arriveBlock h i tag s = t.done (.report ⟨st, moved, s.present i, (v.presence i).window⟩) := by
  simp only [arriveBlock, stationRefusal_eq_none hlen hrun hi hzone, hframe, ha, reportView_eq hstate hlines hlayout, hpresent]
  rfl

end State

section
variable {s : State} {h : Hdr} {i : Nat} {b : Body}
variable (htakes : s.takes h .zone) (hrun : s.mode = .run) (hi : i < s.stationCount) (hlt : i < 16)
  (hzone : s.inZone h.port i = true) (hempty : (s.station i).state = .empty) (hexpected : s.expectedBody i = some b)
  (hb : s.bodyOf b.key = some b)
include htakes hrun hi hlt hzone hempty hexpected hb

/-- O21: ARRIVE at a held station, of a body that comes from between stations. -/
theorem arrive_held (u : Nat) (x : Presence) (mark : Bool) (hhold : (s.station i).hold = true)
    (hfrom : b.state = .onLine (.before u) ∨ b.state = .admitted ∧ u = 0)
    (hx : (s.station i).source ≠ .both ∧ x = s.presence i ∨
      (s.station i).source = .both ∧ (s.presence i).window = .openLine ∧ x = { s.presence i with window := .closed, confirm := 0 })
    (hmark : mark = true ↔ ∃ j, u ≤ j ∧ j < i ∧ b.result j ≠ .welded ∧ b.result j ≠ .passed ∧
      ∃ r ∈ s.robotsAt j, s.resolve b r ≠ none) :
    ∃ t, exec (.arrive h i b.tag) s = .next t ∧
      State.answered h 0x20 .done (.report ⟨.arrived, some ⟨b.tag, b.psn⟩, s.present i, x.window⟩) s t ∧
      (∃ b', t.bodyOf b.key = some b' ∧
        b' = { b with
          state := .onLine (.atStation i), results := b'.results, welds := .replicate 32 none, lastStation := some i
          stay := if b.lastStation = some i then b.stay else b.stay + 1
          incomplete := b.incomplete || mark } ∧
        ∀ j, j < 16 → b'.result j =
          if u ≤ j ∧ j < i ∧ b.result j ≠ .welded ∧ b.result j ≠ .passed then .skipped else b.result j) ∧
      (∀ k, k ≠ b.key → t.bodyOf k = s.bodyOf k) ∧
      t.station i = { s.station i with
        state := .arrived, body := some b.key, work := none, cause := none, overrunRaised := false, watch := 0,
        watchMs := 0, running := true } ∧
      (∀ j, j ≠ i → t.station j = s.station j) ∧ t.presence i = x ∧ (∀ j, j ≠ i → t.presence j = s.presence j) ∧
      t.attention = ((if mark then s.raise .bodyIncomplete b.tag.toNat else s).raise .arrival i).attention ∧
      (∀ d, d ∈ t.due ↔ d ∈ s.due ∨ (∃ r ∈ s.presentRobots, d = .recompute r) ∨ d = .admission ∧ b.state = .admitted) ∧
      t = { s with ports := t.ports, bodies := t.bodies, stations := t.stations, lines := t.lines,
                   attention := t.attention, due := t.due } := by
  obtain ⟨hlistens, hgrants, hlen⟩ := htakes
  obtain ⟨v, hframe, hv, hpresence, hothers, hpresent⟩ :=
    State.frameArrival_of_awaited (s := s.goodFrameOn h.port.val) b.tag hlt hx
  have hvempty : (v.station i).state = .empty := by rw [hv]; exact hempty
  have hvexpected : v.expectedBody i = some b := by rw [hv]; exact hexpected
  have hvb : v.bodyOf b.key = some b := by rw [hv]; exact hb
  have hvhold : (v.station i).hold = true := by rw [hv]; exact hhold
  have hvmark : mark = true ↔ ∃ j, u ≤ j ∧ j < i ∧ b.result j ≠ .welded ∧ b.result j ≠ .passed ∧
      ∃ r ∈ v.robotsAt j, v.resolve b r ≠ none := by rw [hv]; exact hmark
  have harrival := State.arrival_of_coming hlt (.inr rfl) hvempty hvexpected hvb hfrom hvmark
  rw [if_pos hvhold] at harrival
  have hblock := State.arriveBlock_of_awaited (s := s.goodFrameOn h.port.val) hlen hrun hi hzone hframe hpresent harrival
    (congrArg Station.state (tget_tset_self _ _ _ _ hlt)) rfl rfl
  rw [hpresence] at hblock
  obtain ⟨hexec, hanswered⟩ := s.exec_request_of_block (i := .arrive h i b.tag) rfl hlistens hgrants hblock (by rw [hv]; rfl)
  refine ⟨_, hexec, hanswered, ⟨State.comeBody i mark b b, State.bodyOf_modBody_eq (s := v) (State.key_comeBody mark) hvb,
    State.comeBody_eq mark, fun j hj => ?_⟩, fun k hk => ?_, ?_, fun j hj => ?_, hpresence, hothers, ?_, fun d => ?_, ?_⟩
  · rw [← State.bypassFrom_of_coming hfrom]
    exact State.result_bypassedBody mark hj
  · refine (State.bodyOf_modBody_ne v _ _ _ (State.key_comeBody mark) hk).trans ?_
    rw [hv]
    rfl
  · refine (tget_tset_self _ _ _ _ hlt).trans ?_
    rw [hv]
    rfl
  · refine (tget_tset_ne _ _ _ _ _ hj).trans ?_
    rw [hv]
    rfl
  · change (v.come i mark b).attention = _
    rw [hv]
    cases mark <;> rfl
  · refine (State.mem_due_arrived (s := v) d).trans ?_
    rw [hv]
    rfl
  · rw [State.sendReply_eq, hv]
    rfl

/-- O21: ARRIVE at a held station, of a body still AT the COMPLETE station before it. -/
theorem arrive_after_departure (u : Nat) (hsource : (s.station i).source ≠ .both) (hhold : (s.station i).hold = true)
    (hnext : u + 1 = i) (hat : b.state = .onLine (.atStation u)) (hcomplete : (s.station u).state = .complete)
    (hk : (s.station u).body = some b.key) :
    ∃ t, exec (.arrive h i b.tag) s = .next t ∧
      State.answered h 0x20 .done
        (.report ⟨.arrived, some ⟨b.tag, b.psn⟩, s.present i, (s.presence i).window⟩) s t ∧
      t.bodyOf b.key = some { b with
        state := .onLine (.atStation i), welds := .replicate 32 none, lastStation := some i
        stay := if b.lastStation = some i then b.stay else b.stay + 1 } ∧
      (∀ k, k ≠ b.key → t.bodyOf k = s.bodyOf k) ∧
      t.station i = { s.station i with
        state := .arrived, body := some b.key, work := none, cause := none, overrunRaised := false, watch := 0,
        watchMs := 0, running := true } ∧
      t.station u = { s.station u with
        state := .empty, body := none, work := none, cause := none, running := false, abortWait := [] } ∧
      (∀ j, j ≠ i → j ≠ u → t.station j = s.station j) ∧ t.attention = (s.raise .arrival i).attention ∧
      (∀ d, d ∈ t.due ↔ d ∈ s.due ∨ ∃ r ∈ s.presentRobots, d = .recompute r) ∧
      t = { s with ports := t.ports, bodies := t.bodies, stations := t.stations, attention := t.attention,
                   due := t.due } := by
  obtain ⟨hlistens, hgrants, hlen⟩ := htakes
  have hdeparture := State.departure_of_complete (s := s.goodFrameOn h.port.val) hk hb hcomplete
  rw [State.departed_of_not_last (s := s.goodFrameOn h.port.val) (by omega) hcomplete (hnext ▸ hi.ne)] at hdeparture
  generalize hv : ({ s.goodFrameOn h.port.val with
      stations := tset (s.goodFrameOn h.port.val).stations u
        { (s.goodFrameOn h.port.val).station u with
          state := .empty, body := none, work := none, cause := none, running := false, abortWait := [] }
      bodies := ((s.goodFrameOn h.port.val).modBody b.key fun b => { b with state := .onLine (.before (u + 1)) }).bodies
      due := (s.goodFrameOn h.port.val).due ++ (s.goodFrameOn h.port.val).presentRobots.map .recompute } : State) = v
    at hdeparture
  have hvb : v.bodyOf b.key = some { b with state := .onLine (.before (u + 1)) } := by
    rw [← hv]
    exact State.bodyOf_modBody_eq (s := s) (f := fun b => { b with state := .onLine (.before (u + 1)) }) (fun _ => rfl) hb
  have hstation : v.station i = s.station i := by
    rw [← hv]
    exact tget_tset_ne _ _ _ _ _ (by omega)
  have harrival := State.arrival_of_taken (s := s.goodFrameOn h.port.val) (.inr rfl) hempty hexpected hb
  rw [State.impliedDeparture_of_upstream hat (by omega), hdeparture,
    State.bypass_of_next hvb (State.bypassed_of_next (by simp [State.bypassFrom, hnext])), State.takeArrival_eq hlt hvb,
    if_pos (by rw [hstation]; exact hhold)] at harrival
  have hblock := State.arriveBlock_of_frameArrival (s := s.goodFrameOn h.port.val) hlen hrun hi hzone
    ((State.frameArrival_of_not_both (s := s.goodFrameOn h.port.val) b.tag hsource).trans harrival)
    (congrArg Station.state (tget_tset_self _ _ _ _ hlt)) (by rw [← hv]; rfl) (by rw [← hv]; rfl)
  obtain ⟨hexec, hanswered⟩ := s.exec_request_of_block (i := .arrive h i b.tag) rfl hlistens hgrants hblock (by rw [← hv]; rfl)
  refine ⟨_, hexec, hanswered, ?_, fun k hk => ?_, ?_, ?_, fun j hj hu => ?_, ?_, fun d => ?_, ?_⟩
  · have harrived := State.bodyOf_modBody_eq (s := v) (f := State.arrivedBody i) (fun _ => rfl) hvb
    exact harrived
  · refine (State.bodyOf_modBody_ne v _ _ (State.arrivedBody i) (fun _ => rfl) hk).trans ?_
    rw [← hv]
    exact State.bodyOf_modBody_ne s _ _ _ (fun _ => rfl) hk
  · refine (tget_tset_self _ _ _ _ hlt).trans ?_
    rw [hstation]
    rfl
  · refine (tget_tset_ne _ _ _ _ _ (by omega)).trans ?_
    rw [← hv]
    exact tget_tset_self _ _ _ _ (by omega)
  · refine (tget_tset_ne _ _ _ _ _ hj).trans ?_
    rw [← hv]
    exact tget_tset_ne _ _ _ _ _ hu
  · rw [State.sendReply_eq, ← hv]
    rfl
  · change d ∈ v.due ++ v.enterDue i .arrived ++ v.presentRobots.map .recompute ++ [] ↔ _
    have hdue : v.due = s.due ++ s.presentRobots.map .recompute := by rw [← hv]; rfl
    have hpresent : v.presentRobots = s.presentRobots := by rw [← hv]; rfl
    rw [List.append_nil, hdue]
    simp only [List.mem_append, State.mem_recomputeAll, hpresent]
    constructor
    · rintro (((hd | hall) | henter) | hall)
      · exact .inl hd
      · exact .inr hall
      · exact .inr (hpresent ▸ State.mem_enterDue_imp henter)
      · exact .inr hall
    · exact fun hd => .inl (.inl hd)
  · rw [State.sendReply_eq, ← hv]
    rfl

end

end Machine
end Sys2Proof
end

section
/-!
SUPPORT. ARRIVE at a station that is not held, and at a BOTH station without a line arrival; the assembly of O21.
-/
namespace Sys2Proof
namespace Machine

section
variable {s : State} {h : Hdr} {i : Nat} {b : Body}
variable (htakes : s.takes h .zone) (hrun : s.mode = .run) (hi : i < s.stationCount) (hlt : i < 16)
  (hzone : s.inZone h.port i = true)
include htakes hrun hi hzone

/-- O21: ARRIVE at a station that is not held, whose work is opened at once. -/
theorem arrive_opens_work (hlt : i < 16) (hempty : (s.station i).state = .empty) (hexpected : s.expectedBody i = some b)
    (hb : s.bodyOf b.key = some b) (items : List WorkItem) (result : Result) (hsource : (s.station i).source ≠ .both)
    (hhold : (s.station i).hold = false) (hfrom : b.state = .onLine (.before i) ∨ b.state = .admitted ∧ i = 0)
    (hitems : items = (s.robotsAt i).map (fun r => ⟨r,
      if b.result i = .welded ∨ b.result i = .passed ∨ s.resolve b r = none then .none
      else if (s.robot r).enabled then .owed else .skipped, false⟩))
    (hresult : result = (if b.result i = .welded ∨ b.result i = .passed then b.result i
      else if ∃ w ∈ items, w.comp = .skipped then .skipped else .passed)) :
    ∃ t, exec (.arrive h i b.tag) s = .next t ∧
      State.answered h 0x20 .done
        (.report ⟨if ∃ w ∈ items, w.comp = .owed then .arrived else .complete, some ⟨b.tag, b.psn⟩, s.present i,
          (s.presence i).window⟩) s t ∧
      t.bodyOf b.key = some { b with
        state := .onLine (.atStation i), welds := .replicate 32 none, lastStation := some i
        stay := if b.lastStation = some i then b.stay else b.stay + 1
        results := if ∃ w ∈ items, w.comp = .owed then b.results else tset b.results i result
        incomplete := b.incomplete || decide (∃ w ∈ items, w.comp = .skipped) } ∧
      (∀ k, k ≠ b.key → t.bodyOf k = s.bodyOf k) ∧
      t.station i = { s.station i with
        state := if ∃ w ∈ items, w.comp = .owed then .arrived else .complete
        body := some b.key, work := some items, cause := none, overrunRaised := false, watch := 0, watchMs := 0
        running := decide (∃ w ∈ items, w.comp = .owed)
        lastCycle := if ∃ w ∈ items, w.comp = .owed then (s.station i).lastCycle else 0 } ∧
      (∀ j, j ≠ i → t.station j = s.station j) ∧
      (∃ u, u = (if ∃ w ∈ items, w.comp = .skipped then (s.raise .arrival i).raise .bodyIncomplete b.tag.toNat
          else s.raise .arrival i) ∧
        t.attention = (if ∃ w ∈ items, w.comp = .owed then u else u.raise .stationComplete i).attention) ∧
      (∀ d, d ∈ t.due ↔ d ∈ s.due ∨ (∃ r ∈ s.presentRobots, d = .recompute r) ∨
        d = .admission ∧ b.state = .admitted ∨ ∃ w ∈ items, w.comp = .owed ∧ d = .selection w.robot) ∧
      t = { s with ports := t.ports, bodies := t.bodies, stations := t.stations, attention := t.attention,
                   due := t.due } := by
  obtain ⟨hlistens, hgrants, hlen⟩ := htakes
  have hwork : (s.goodFrameOn h.port.val).workFor i b = items := hitems ▸ State.workFor_eq
  have hunowed : State.unowedResult i b items = result := by
    rw [hresult, State.unowedResult]
    simp only [State.any_skipped_iff]
  have hskipped : (items.any fun w => w.comp == .skipped) = decide (∃ w ∈ items, w.comp = .skipped) := by
    rw [Bool.eq_iff_iff, State.any_skipped_iff, decide_eq_true_eq]
  have hopen := State.openWork_arrived (s := s.goodFrameOn h.port.val) hlt hb hwork
    (owed := decide (∃ w ∈ items, w.comp = .owed)) (by rw [decide_eq_true_eq]) hskipped
  have harrival := State.arrival_of_next (s := s.goodFrameOn h.port.val) hlt (.inr rfl) hempty hexpected hb hfrom hhold
  rw [hopen, hunowed] at harrival
  have hblock := State.arriveBlock_of_frameArrival (s := s.goodFrameOn h.port.val) hlen hrun hi hzone
    ((State.frameArrival_of_not_both (s := s.goodFrameOn h.port.val) b.tag hsource).trans harrival)
    ((congrArg Station.state (tget_tset_self _ _ _ _ hlt)).trans
      (by simp only [State.openedStation, decide_eq_true_eq] :
        _ = if ∃ w ∈ items, w.comp = .owed then StationState.arrived else .complete)) rfl rfl
  rw [if_neg Bool.false_ne_true] at hblock
  obtain ⟨hexec, hanswered⟩ := s.exec_request_of_block (i := .arrive h i b.tag) rfl hlistens hgrants hblock rfl
  refine ⟨_, hexec, hanswered, ?_, fun k hk => State.bodyOf_modBody_ne s _ _ _ (fun _ => rfl) hk, ?_,
    fun j hj => tget_tset_ne _ _ _ _ _ hj, ⟨_, rfl, ?_⟩, fun d => ?_, rfl⟩
  · refine (State.bodyOf_modBody_eq (s := s) (f := State.openedBody i result _ _) (fun _ => rfl) hb).trans ?_
    simp only [State.openedBody, decide_eq_true_eq]
    rfl
  · refine (tget_tset_self _ _ _ _ hlt).trans ?_
    simp only [State.openedStation, decide_eq_true_eq]
    rfl
  · change (if decide (∃ w ∈ items, w.comp = .owed) = true then _ else _ : State).attention = _
    simp only [decide_eq_true_eq]
    split_ifs <;> rfl
  · exact State.mem_due_opened (s := s) _ items d

/-- O21: ARRIVE opens the window of a BOTH station, or finds it open or the station taken. -/
theorem arrive_opens_window (hlt : i < 16) (tag : Word) (hboth : (s.station i).source = .both) :
    ((s.presence i).window = .closed → (s.station i).state = .empty →
      ∃ t, exec (.arrive h i tag) s = .next t ∧
        State.answered h 0x20 .done (.report ⟨.empty, none, s.present i, .openFrame tag⟩) s t ∧
        t.presence i = { s.presence i with window := .openFrame tag, confirm := 0 } ∧
        (∀ j, j ≠ i → t.presence j = s.presence j) ∧ t = { s with ports := t.ports, lines := t.lines }) ∧
    ((s.presence i).window = .closed ∧ (s.station i).state ≠ .empty ∨ (∃ tag', (s.presence i).window = .openFrame tag') →
      ∃ t, exec (.arrive h i tag) s = .next t ∧
        State.answered h 0x20 .state (.report ⟨(s.station i).state, none, s.present i, (s.presence i).window⟩) s t ∧
        t = { s with ports := t.ports }) := by
  obtain ⟨hlistens, hgrants, hlen⟩ := htakes
  refine ⟨fun hclosed hempty => ?_, fun hrefused => ?_⟩
  · have hframe := State.frameArrival_opens (s := s.goodFrameOn h.port.val) tag hboth hclosed hempty
    have hread : ((s.goodFrameOn h.port.val).openWindow i (.openFrame tag)).presence i =
        { s.presence i with window := .openFrame tag, confirm := 0 } := State.presence_modPresence_self _ _ _ hlt
    have hview : ((s.goodFrameOn h.port.val).openWindow i (.openFrame tag)).reportView i none =
        ⟨.empty, none, s.present i, .openFrame tag⟩ := by
      rw [State.reportView, State.present, hread, ← hempty]
      rfl
    have hblock := State.arriveBlock_of_frameArrival_view (s := s.goodFrameOn h.port.val) hlen hrun hi hzone hframe hview
    obtain ⟨hexec, hanswered⟩ := s.exec_request_of_block (i := .arrive h i tag) rfl hlistens hgrants hblock rfl
    exact ⟨_, hexec, hanswered, hread, fun j hj => tget_tset_ne _ _ _ _ _ hj, rfl⟩
  · have hframe := State.frameArrival_refused (s := s.goodFrameOn h.port.val) tag hboth hrefused
    exact s.exec_request_of_block_unchanged (i := .arrive h i tag) rfl hlistens hgrants
      (State.arriveBlock_of_frameArrival (s := s.goodFrameOn h.port.val) hlen hrun hi hzone hframe rfl rfl rfl)

end

/-- Settles O21: ARRIVE by where the expected body comes from, whether the station is held, and the arrival window. -/
theorem arriveTakesTheExpectedBody : Obligations.ArriveTakesTheExpectedBody :=
  ⟨fun _ _ _ _ htakes hrun hi hlt hzone hempty hexpected hb =>
    ⟨fun u x mark hhold _ => arrive_held htakes hrun hi hlt hzone hempty hexpected hb u x mark hhold,
      arrive_after_departure htakes hrun hi hlt hzone hempty hexpected hb,
      arrive_opens_work htakes hrun hi hzone hlt hempty hexpected hb⟩,
    fun _ _ _ tag htakes hrun hi hlt hzone hboth => arrive_opens_window htakes hrun hi hzone hlt tag hboth⟩

end Machine
end Sys2Proof
end

section
/-!
SUPPORT. What the accessors read in the power-on state (R188), and the RESET input (O52).
-/
namespace Sys2Proof
namespace Machine
namespace State

variable (straps : Straps) (levels : BitVec 16) {n : Nat}

/-! ### The power-on state, read by its accessors -/

theorem style_powerOn (hn : n < 256) : (powerOn straps levels).style n = ⟨.unknown, none⟩ := tget_replicate _ _ _ hn

theorem dispatchSet_powerOn (hn : n < 128) : (powerOn straps levels).dispatchSet n = ⟨none, 0⟩ := tget_replicate _ _ _ hn

theorem prog_powerOn (hn : n < 512) : (powerOn straps levels).prog n = ⟨.empty, 0⟩ := tget_replicate _ _ _ hn

theorem block_powerOn (hn : n < 512) : (powerOn straps levels).block n = ⟨none, []⟩ := tget_replicate _ _ _ hn

theorem schedule_powerOn (hn : n < 64) : (powerOn straps levels).schedule n = none := tget_replicate _ _ _ hn

theorem curve_powerOn (hn : n < 8) : (powerOn straps levels).curve n = none := tget_replicate _ _ _ hn

theorem station_powerOn (hn : n < 16) : (powerOn straps levels).station n = .powerOn 0 .line 6000 := tget_replicate _ _ _ hn

theorem presence_powerOn (hn : n < 16) : (powerOn straps levels).presence n = .powerOn (levelOf levels n) := by
  simp [presence, powerOn, tget, hn]

theorem robot_powerOn (hn : n < 32) : (powerOn straps levels).robot n = .reset := tget_replicate _ _ _ hn

theorem stage_powerOn (hn : n < 32) : (powerOn straps levels).stage n = .reset := tget_replicate _ _ _ hn

theorem pendOf_powerOn (hn : n < 32) : (powerOn straps levels).pendOf n = .reset := tget_replicate _ _ _ hn

theorem bus_powerOn (hn : n < 4) : (powerOn straps levels).bus n = .reset := tget_replicate _ _ _ hn

theorem busRec_powerOn (hn : n < 4) : (powerOn straps levels).busRec n = ⟨.auto, 10⟩ := tget_replicate _ _ _ hn

theorem paceTimer_powerOn (hn : n < 4) : (powerOn straps levels).paceTimer n = 10 := by
  rw [paceTimer, bus_powerOn _ _ hn, busRec_powerOn _ _ hn]
  rfl

theorem attn_powerOn (hn : n < 4) : (powerOn straps levels).attn n = .reset := tget_replicate _ _ _ hn

theorem port_powerOn_eq (hn : n < 4) : ∃ roles, (powerOn straps levels).port n = .powerOn roles := by
  match n, hn with
  | 0, _ | 1, _ | 2, _ | 3, _ => exact ⟨_, rfl⟩

theorem ringEntries_powerOn : (powerOn straps levels).ringEntries = [] := by
  have hcount : (powerOn straps levels).ringCount = 0 := by
    simp [ringCount, line, powerOn, Ring.reset, Layout.default, LineRec.default]
  simp [ringEntries, hcount]

/-- While the RESET input is asserted no attention output is (R188). -/
theorem attentionOutput_of_reset {s : State} (hreset : s.resetInput = true) (p : Nat) : s.attentionOutput p = false := by
  simp [attentionOutput, hreset]

end State

/-- Settles O52: the power-on state is read table by table. -/
theorem powerOnAndResetRestoreTheDefaults : Obligations.PowerOnAndResetRestoreTheDefaults := by
  intro s straps levels i
  refine ⟨fun hi => ?_, fun hi hreset => ?_, fun hi => ?_⟩
  · have hexec : ∃ r, exec i s = .next { State.powerOn straps levels with pending := s.pending, resetInput := r } ∧
        (i = .resetRelease straps levels → r = false) ∧ (i = .powerOn straps levels → r = s.resetInput) := by
      obtain rfl | ⟨rfl, hreset⟩ := hi
      · exact ⟨s.resetInput, rfl, fun h => by simp at h, fun _ => rfl⟩
      · exact ⟨false, congrArg Host.Outcome.next (if_pos hreset), fun _ => rfl, fun h => by simp at h⟩
    obtain ⟨r, hexec, hrelease, hpower⟩ := hexec
    refine ⟨_, hexec, rfl, hrelease, hpower, rfl, rfl, rfl, State.ringEntries_powerOn straps levels, rfl, rfl, rfl, rfl, rfl,
      fun n hn => State.style_powerOn straps levels hn, fun n hn => State.dispatchSet_powerOn straps levels hn,
      fun n hn => ⟨State.prog_powerOn straps levels hn, congrArg Block.holder (State.block_powerOn straps levels hn)⟩, rfl,
      fun n hn => State.schedule_powerOn straps levels hn, fun n hn => State.curve_powerOn straps levels hn,
      fun n hn => ?_, fun n hn => ?_,
      fun b hb => ⟨State.bus_powerOn straps levels hb, State.paceTimer_powerOn straps levels hb,
        State.busRec_powerOn straps levels hb⟩, fun p hp => ?_, rfl, rfl, rfl, rfl⟩
    · have hstation := State.station_powerOn straps levels hn
      have hpresence := State.presence_powerOn straps levels hn
      exact ⟨congrArg Station.state hstation, congrArg Station.hold hstation, congrArg Presence.accepted hpresence,
        congrArg Presence.window hpresence, congrArg Presence.echo hpresence⟩
    · have hstage := State.stage_powerOn straps levels hn
      exact ⟨State.robot_powerOn straps levels hn, congrArg Staging.jobs hstage, congrArg Staging.load hstage,
        congrArg Staging.channel hstage, State.pendOf_powerOn straps levels hn⟩
    · obtain ⟨roles, hport⟩ := State.port_powerOn_eq straps levels hp
      exact ⟨congrArg Port.errors hport, congrArg Port.degraded hport, congrArg Port.rx hport, congrArg Port.reply hport,
        congrArg Port.sending hport, congrArg Port.held hport, State.attn_powerOn straps levels hp⟩
  · subst hi
    exact congrArg Host.Outcome.next (if_neg (by simp [hreset]))
  · subst hi
    refine ⟨_, rfl, rfl, fun p hp => ⟨tget_map _ _ _ _ _ hp, State.attentionOutput_of_reset rfl p⟩,
      fun b hb => tget_map _ _ _ _ _ hb, rfl⟩

end Machine
end Sys2Proof
end

section
/-!
SUPPORT. START and STOP (R185, R186), and what SETUP refuses (R4, R46): O50.
-/
namespace Sys2Proof
namespace Machine

/-! ### What SETUP refuses (R4, R46) -/

/-- A kind among the ZONE requests that change tracking is one of the catalogue. -/
theorem knownKind_of_tracking (k : Byte) (hlow : 0x20 ≤ k.toNat) (hhigh : k.toNat ≤ 0x27) : knownKind k = true := by
  revert k
  decide

theorem State.stationRefusal_of_setup {s : State} (hsetup : s.mode = .setup) (h : Hdr) (i : Nat) :
    s.stationRefusal h i = some .mode := if_pos hsetup

/-- Every SEQUENCE request and every ZONE request that changes tracking is refused with MODE in SETUP (R4, R46). -/
theorem requestBlock_of_setup {i : Instr} {h : Hdr} {kind : Byte} {g : Group} (hr : requestOf i = some (h, kind, g)) {s : State}
    (hsetup : s.mode = .setup) (hg : g = .sequence ∨ 0x20 ≤ kind.toNat ∧ kind.toNat ≤ 0x27) :
    requestBlock i s = ⟨s, .mode, if kind = 0x10#8 then .appended 0 s.ring.nextPsn else .nothing⟩ := by
  have hstation := s.stationRefusal_of_setup hsetup
  cases i <;> simp only [requestOf, reduceCtorEq, Option.some.injEq, Prod.mk.injEq] at hr
  case unknownRequestKind h' k =>
    split at hr
    · cases hr
    · next hk =>
      cases hr
      obtain hg | ⟨hlow, hhigh⟩ := hg
      · cases hg
      · exact absurd (knownKind_of_tracking _ hlow hhigh) hk
  case seqAppend => obtain ⟨rfl, rfl, rfl⟩ := hr; exact if_pos hsetup
  case seqSkip => obtain ⟨rfl, rfl, rfl⟩ := hr; exact if_pos hsetup
  case seqLoopOn => obtain ⟨rfl, rfl, rfl⟩ := hr; exact if_pos hsetup
  case seqLoopOff => obtain ⟨rfl, rfl, rfl⟩ := hr; exact if_pos hsetup
  case pull => obtain ⟨rfl, rfl, rfl⟩ := hr; exact if_pos hsetup
  case scrap => obtain ⟨rfl, rfl, rfl⟩ := hr; exact if_pos hsetup
  case arrive => obtain ⟨rfl, rfl, rfl⟩ := hr; simp only [requestBlock, arriveBlock, hstation]; rfl
  case depart => obtain ⟨rfl, rfl, rfl⟩ := hr; simp only [requestBlock, departBlock, hstation]; rfl
  case reinsert => obtain ⟨rfl, rfl, rfl⟩ := hr; simp only [requestBlock, reinsertBlock, hstation]; rfl
  case hold => obtain ⟨rfl, rfl, rfl⟩ := hr; simp only [requestBlock, holdBlock, hstation]; rfl
  case release => obtain ⟨rfl, rfl, rfl⟩ := hr; simp only [requestBlock, releaseBlock, hstation]; rfl
  case clearStation => obtain ⟨rfl, rfl, rfl⟩ := hr; simp only [requestBlock, clearStationBlock, hstation]; rfl
  all_goals
    obtain ⟨-, rfl, rfl⟩ := hr
    simp at hg

namespace State

variable {s : State}

/-! ### START (R185) -/

theorem startFault_eq_none {l : Layout} (hlow : 4 ≤ l.line.m + l.line.n) (hhigh : l.line.m + l.line.n ≤ 8)
    (hstation : ∀ r p, l.robotRec r = some p → p.station < l.line.stations)
    (haddress : ∀ r q p p', l.robotRec r = some p → l.robotRec q = some p' → r ≠ q → p.bus ≠ p'.bus ∨ p.drop ≠ p'.drop)
    (hdepth : l.line.depth ≤ l.line.lead) : l.startFault = none := by
  have hstray : l.strayRobot = none := by
    rw [Layout.strayRobot, List.find?_eq_none]
    intro r _
    split
    · next p hp => simpa using hstation r p hp
    · exact Bool.false_ne_true
  have hclash : l.clash = none := by
    rw [Layout.clash, List.findSome?_eq_none_iff]
    intro r _
    split
    · rfl
    · next p hp =>
      rw [List.find?_eq_none]
      intro q _
      rw [Bool.and_eq_true, decide_eq_true_eq]
      rintro ⟨hlt, hsame⟩
      split at hsame
      · next p' hp' =>
        have hdiffer := haddress r q p p' hp hp' hlt.ne
        simp only [RobotRec.sameAddress, Bool.and_eq_true, beq_iff_eq] at hsame
        exact hdiffer.elim (· hsame.1) (· hsame.2)
      · cases hsame
  simp only [Layout.startFault, hstray, hclash]
  rw [if_neg (by omega), if_neg (by omega)]

theorem activate_of_no_jobs {r : Nat} (hjobs : (s.stage r).jobs = []) : s.activate r = s := by
  simp only [activate, hjobs, ite_self]

/-- Without a job listed, no robot begins a load as the module starts. -/
theorem startRun_of_no_jobs (hjobs : ∀ r, (s.stage r).jobs = []) :
    s.startRun = { s with mode := .run, stations := s.loadStations.stations, due := s.due ++ [.admission] } := by
  have hfold : ∀ (l : List Nat) (t : State), (∀ r, (t.stage r).jobs = []) → l.foldl (fun t r => t.activate r) t = t := by
    intro l
    induction l with
    | nil => exact fun _ _ => rfl
    | cons r l ih =>
      intro t ht
      rw [List.foldl_cons, activate_of_no_jobs (ht r)]
      exact ih t ht
  simp only [startRun]
  rw [hfold _ { s.loadStations with mode := .run } hjobs]
  rfl

theorem station_loadStations {i : Nat} (hi : i < 16) : s.loadStations.station i = { s.station i with
    zone := (s.stationRec i).zone, source := (s.stationRec i).source, budget := (s.stationRec i).budget } := by
  simp [station, loadStations, tget, hi]

section
variable {h : Hdr} (hlen : h.lengthOk = true)
include hlen

theorem startBlock_of_setup (hsetup : s.mode = .setup) (hfault : s.layout.startFault = none) :
    startBlock h s = s.startRun.done := by
  simp [startBlock, hlen, hsetup, hfault]

theorem startBlock_of_widths (hsetup : s.mode = .setup) (hwidths : s.line.m + s.line.n < 4 ∨ 8 < s.line.m + s.line.n) :
    startBlock h s = s.refuse .range (.layoutRecord 0 0) := by
  have hfault : s.layout.startFault = some (0, 0) := if_pos hwidths
  simp [startBlock, hlen, hsetup, hfault]

/-! ### STOP (R186) -/

theorem stopBlock_of_setup (hsetup : s.mode = .setup) : stopBlock h s = s.refuse .mode := by
  simp [stopBlock, hlen, hsetup]

theorem stopBlock_of_busy (hrun : s.mode = .run) (hbusy : s.bodies ≠ [] ∨ s.activeLoads ≠ 0) :
    stopBlock h s = s.refuse .state (.busy s.bodies.length s.activeLoads) := by
  simp only [stopBlock, hlen, hrun, reduceCtorEq, if_false, if_pos hbusy, Bool.true_eq_false]

theorem stopBlock_of_idle (hrun : s.mode = .run) (hbodies : s.bodies = []) (hloads : s.activeLoads = 0) :
    stopBlock h s = ({ s.closePresence with mode := .setup } : State).done := by
  simp [stopBlock, hlen, hrun, hbodies, hloads]

end

theorem stopBlock_of_length {h : Hdr} (hlen : h.lengthOk = false) : stopBlock h s = s.refuse .range := if_pos hlen

theorem activeLoads_eq : s.activeLoads = ((List.range 32).filter fun r => (s.stage r).load != none).length := by
  have hsome : ∀ o : Option Load, o.isSome = (o != none) := by
    intro o
    cases o <;> rfl
  simp only [activeLoads, hsome]

theorem activeLoads_eq_zero_iff : s.activeLoads = 0 ↔ ∀ r, r < 32 → (s.stage r).load = none := by
  simp [activeLoads]

theorem presence_closePresence {i : Nat} (hi : i < 16) : s.closePresence.presence i =
    { s.presence i with window := .closed, confirm := 0, echo := .none, echoTimer := 0 } := tget_map _ _ _ _ _ hi

end State

/-- Settles O50: the two changes of mode with their refusals, and the requests refused in SETUP. -/
theorem startAndStopChangeTheMode : Obligations.StartAndStopChangeTheMode := by
  refine ⟨fun s i h kind g hr hlistens hgrants hsetup hg =>
      s.exec_request_of_block_unchanged hr hlistens hgrants (requestBlock_of_setup hr hsetup hg),
    fun s h ⟨hlistens, hgrants, hlen⟩ => ⟨?_, ?_, ?_, ?_, ?_⟩, fun s h hlistens hgrants hlen hrun => ?_⟩
  · intro hsetup hlow hhigh hstation haddress hdepth hjobs
    have hblock := State.startBlock_of_setup (s := s.goodFrameOn h.port.val) hlen hsetup
      (State.startFault_eq_none hlow hhigh hstation haddress hdepth)
    rw [State.startRun_of_no_jobs (s := s.goodFrameOn h.port.val) hjobs] at hblock
    obtain ⟨hexec, hanswered⟩ := s.exec_request_of_block (i := .start h) rfl hlistens hgrants hblock rfl
    exact ⟨_, hexec, hanswered, fun i hi => State.station_loadStations (s := s.goodFrameOn h.port.val) hi, rfl⟩
  · intro hsetup hwidths
    exact s.exec_request_of_block_unchanged (i := .start h) rfl hlistens hgrants
      (State.startBlock_of_widths (s := s.goodFrameOn h.port.val) hlen hsetup hwidths)
  · intro hrun hbodies hloads
    obtain ⟨hexec, hanswered⟩ := s.exec_request_of_block (i := .stop h) rfl hlistens hgrants
      (State.stopBlock_of_idle (s := s.goodFrameOn h.port.val) hlen hrun hbodies (State.activeLoads_eq_zero_iff.mpr hloads)) rfl
    exact ⟨_, hexec, hanswered, fun i hi => State.presence_closePresence (s := s) hi, rfl⟩
  · intro hrun hbusy
    have hloads : (∃ r, r < 32 ∧ (s.stage r).load ≠ none) → s.activeLoads ≠ 0 := by
      rintro ⟨r, hr, hload⟩ hzero
      exact hload (State.activeLoads_eq_zero_iff.mp hzero r hr)
    rw [← State.activeLoads_eq]
    exact s.exec_request_of_block_unchanged (i := .stop h) rfl hlistens hgrants
      (State.stopBlock_of_busy (s := s.goodFrameOn h.port.val) hlen hrun (hbusy.imp_right hloads))
  · intro hsetup
    exact s.exec_request_of_block_unchanged (i := .stop h) rfl hlistens hgrants
      (State.stopBlock_of_setup (s := s.goodFrameOn h.port.val) hlen hsetup)
  · exact s.exec_request_of_block_unchanged (i := .stop h) rfl hlistens hgrants
      (State.stopBlock_of_length (s := s.goodFrameOn h.port.val) hlen)

end Machine
end Sys2Proof
end

section
/-!
SUPPORT. A station judged by its components (R52, R53, R121).
-/
namespace Sys2Proof
namespace Machine
namespace State

variable {s : State} {i k : Nat}

theorem tset_station_self : tset s.stations i (s.station i) = s.stations := by
  refine Vector.ext fun j hj => ?_
  simp only [tset, station, tget, Vector.getElem_setIfInBounds]
  split
  · next h =>
    subst h
    simp [hj]
  · rfl

theorem selectedFor_eq_true_iff (r : Nat) : s.selectedFor r k = true ↔
    ∃ sel, sel.key = k ∧ ((s.robot r).motion = .selected sel ∨ (s.robot r).motion = .welding sel) := by
  unfold selectedFor
  cases (s.robot r).motion with
  | idle => simp
  | selecting sel => simp
  | aborting sel => simp
  | selected sel | welding sel =>
    simp only [beq_iff_eq, reduceCtorEq, Motion.selected.injEq, Motion.welding.injEq, or_false, false_or]
    exact ⟨fun h => ⟨sel, h, rfl⟩, fun ⟨_, h, heq⟩ => heq ▸ h⟩

/-- The result a completed station gives its body (R53, R121). -/
def finishResult (items : List WorkItem) : Result := if items.any fun w => w.comp == .done then .welded else .skipped

theorem finishResult_eq (items : List WorkItem) :
    finishResult items = if ∃ w ∈ items, w.comp = .done then .welded else .skipped := by
  simp [finishResult]

/-- The station as its judging leaves it in state `st` (R52, R53). -/
def judgedStation (st : StationState) (x : Station) : Station :=
  { x with
    state := st
    running := if st = .complete then false else x.running
    lastCycle := if st = .complete then x.watch else x.lastCycle
    cause := if st = .complete then none else x.cause }

/-- The state as the judging of station `i` leaves it in state `st`, with the result for its body where it is COMPLETE (R52, R53). -/
def judged (i k : Nat) (st : StationState) (result : Result) (s : State) : State :=
  { s with
    stations := tset s.stations i (judgedStation st (s.station i))
    bodies := (if st = .complete then s.modBody k (Body.setResult i result) else s).bodies
    attention := (if st = .complete then s.raise .stationComplete i else s).attention
    due := s.due ++ s.enterDue i st }

/-- Where station `i` stands once it is judged by the components `items` of body `k` (R52, R53). -/
inductive JudgedTo (s : State) (i k : Nat) (items : List WorkItem) : StationState → Prop where
  | fault (hstate : (s.station i).state = .fault) : JudgedTo s i k items .fault
  | waits (hstate : (s.station i).state = .arrived)
      (howed : ∃ w ∈ items, w.comp = .owed ∧ s.selectedFor w.robot k = false) : JudgedTo s i k items .arrived
  | begins (hstate : (s.station i).state = .arrived) (howed : ∃ w ∈ items, w.comp = .owed)
      (hall : ∀ w ∈ items, w.comp = .owed → s.selectedFor w.robot k = true) : JudgedTo s i k items .welding
  | welds (hstate : (s.station i).state = .welding) (howed : ∃ w ∈ items, w.comp = .owed) : JudgedTo s i k items .welding
  | completes (hstate : (s.station i).state = .arrived ∨ (s.station i).state = .welding) (hnone : ∀ w ∈ items, w.comp ≠ .owed) :
      JudgedTo s i k items .complete

/-- The judging reads the station's state and the robots' motion states alone. -/
theorem JudgedTo.congr {u : State} {items : List WorkItem} {st : StationState} (h : JudgedTo s i k items st)
    (hstate : (u.station i).state = (s.station i).state) (hmotion : ∀ q, (u.robot q).motion = (s.robot q).motion) :
    JudgedTo u i k items st := by
  have hsel : ∀ q, u.selectedFor q k = s.selectedFor q k := fun q => by simp only [selectedFor, hmotion]
  cases h with
  | fault h => exact .fault (hstate.trans h)
  | waits h howed => exact .waits (hstate.trans h) (by simpa only [hsel] using howed)
  | begins h howed hall => exact .begins (hstate.trans h) howed (by simpa only [hsel] using hall)
  | welds h howed => exact .welds (hstate.trans h) howed
  | completes h hnone => exact .completes (by rwa [hstate]) hnone

theorem judged_of_same {st : StationState} (hstate : (s.station i).state = st) (hst : st ≠ .complete) (result : Result) :
    s.judged i k st result = s := by
  have hstation : judgedStation st (s.station i) = s.station i := by
    subst hstate
    simp only [judgedStation, if_neg hst]
  have hdue : s.enterDue i st = [] := if_pos (by rw [hstate])
  rw [judged, hstation, tset_station_self, hdue, List.append_nil, if_neg hst, if_neg hst]

theorem enterState_eq_judged {st : StationState} (hst : st ≠ .complete) (result : Result) :
    s.enterState i st = s.judged i k st result := by
  rw [enterState_eq, judged, if_neg hst, if_neg hst]
  simp only [judgedStation, if_neg hst]

theorem completeStation_eq_judged (hi : i < 16) (hk : (s.station i).body = some k) (result : Result) :
    (s.setResultAt i result).completeStation i = s.judged i k .complete result :=
  completeStation_setResultAt hi hk result

/-- A station judged by its components (R52, R53, R121). -/
theorem judgeStation_eq (hi : i < 16) {items : List WorkItem} (hwork : (s.station i).work = some items)
    (hk : (s.station i).body = some k) {st : StationState} (hst : JudgedTo s i k items st) :
    s.judgeStation i = s.judged i k st (finishResult items) := by
  have howing : (items.filter fun w => w.comp == .owed) = [] ↔ ∀ w ∈ items, w.comp ≠ .owed := by
    simp [List.filter_eq_nil_iff]
  have hall : ((items.filter fun w => w.comp == .owed).all fun w => s.selectedFor w.robot k) = true ↔
      ∀ w ∈ items, w.comp = .owed → s.selectedFor w.robot k = true := by
    simp [imp_iff_not_or]
  cases hst with
  | fault hstate =>
    rw [judged_of_same hstate (by decide)]
    simp only [judgeStation, hwork, hk, hstate]
  | waits hstate howed =>
    rw [judged_of_same hstate (by decide)]
    obtain ⟨w, hw, hcomp, hnot⟩ := howed
    simp only [judgeStation, hwork, hk, hstate]
    rw [if_neg fun h => by simp [hall.mp h w hw hcomp] at hnot]
  | begins hstate howed hsel =>
    have hne : ¬ (items.filter fun w => w.comp == .owed) = [] := by
      obtain ⟨w, hw, hcomp⟩ := howed
      exact fun h => howing.mp h w hw hcomp
    simp only [judgeStation, hwork, hk, hstate, if_pos (hall.mpr hsel), if_neg hne]
    exact enterState_eq_judged (by decide) _
  | welds hstate howed =>
    have hne : ¬ (items.filter fun w => w.comp == .owed) = [] := by
      obtain ⟨w, hw, hcomp⟩ := howed
      exact fun h => howing.mp h w hw hcomp
    rw [judged_of_same hstate (by decide)]
    simp only [judgeStation, hwork, hk, hstate, if_neg hne]
  | completes hstate hnone =>
    have hnil := howing.mpr hnone
    obtain hstate | hstate := hstate
    · have hsel := hall.mpr fun w hw hcomp => absurd hcomp (hnone w hw)
      simp only [judgeStation, hwork, hk, hstate, if_pos hsel, if_pos hnil]
      have hread : (s.enterState i .welding).station i = { s.station i with state := .welding } := by
        rw [enterState_eq]
        exact tget_tset_self _ _ _ _ hi
      have hdue : (s.enterState i .welding).enterDue i .complete = [] :=
        enterDue_of_not_arrived (by rw [hread]; exact nofun) (by decide)
      have hsame : s.enterDue i .welding = s.enterDue i .complete := by
        simp only [enterDue, reduceCtorEq]
      rw [completeStation_setResultAt hi (k := k) (by rw [hread]; exact hk), hdue, List.append_nil, hread, enterState_eq]
      exact (eq_iff_fields _ _).mpr ⟨rfl, congrArg (s.due ++ ·) hsame, rfl, rfl, rfl, rfl, rfl, rfl, rfl, rfl, rfl,
        tset_tset _ _ _ _, rfl, rfl, rfl, rfl, rfl, rfl, rfl, rfl, rfl, rfl⟩
    · simp only [judgeStation, hwork, hk, hstate, if_pos hnil]
      exact completeStation_eq_judged hi hk _

end State
end Machine
end Sys2Proof
end

section
/-!
SUPPORT. ROBOT ENABLE, ROBOT DISABLE and DRESS REQUEST (O37).
-/
namespace Sys2Proof
namespace Machine
namespace State

variable {s : State} {i r : Nat}

theorem robotFlags_eq {b : Robot} (hb : s.robot r = b) : s.robotFlags r = .robotFlags b.enabled b.online b.motion.name := by
  rw [robotFlags, hb]

/-- Robot `r` with its enabled flag clear and no blocked indication (R120, R133). -/
def disarm (r : Nat) (s : State) : State :=
  { s with
    robots := tset s.robots r { s.robot r with enabled := false }
    staging := tset s.staging r { s.stage r with blocked := false } }

theorem robot_disarm_self (hr : r < 32) : (s.disarm r).robot r = { s.robot r with enabled := false } := tget_tset_self _ _ _ _ hr

theorem robot_disarm_ne {q : Nat} (hq : q ≠ r) : (s.disarm r).robot q = s.robot q := tget_tset_ne _ _ _ _ _ hq

theorem motion_disarm (hr : r < 32) (q : Nat) : ((s.disarm r).robot q).motion = (s.robot q).motion := by
  by_cases hq : q = r
  · rw [hq, robot_disarm_self hr]
  · rw [robot_disarm_ne hq]

/-! ### The checks of a robot request (R120) -/

section
variable {h : Hdr} (hlen : h.lengthOk = true) (hr : r < 32) (hstation : s.stationOf r = some i) (hzone : s.inZone h.port i = true)
include hlen hr hstation hzone

theorem robotRefusal_eq_none : s.robotRefusal h r = none := by
  have hle : ¬ 31 < r := by omega
  simp [robotRefusal, hle, hlen, hstation, hzone]

theorem robotEnableBlock_of_disabled (hdisabled : (s.robot r).enabled = false) :
    robotEnableBlock h r s = ((s.modRobot r fun b => { b with enabled := true }).owe [.recompute r]).done
      (.robotFlags true (s.robot r).online (s.robot r).motion.name) := by
  have hflags : ((s.modRobot r fun b => { b with enabled := true }).owe [.recompute r]).robotFlags r =
      .robotFlags true (s.robot r).online (s.robot r).motion.name :=
    robotFlags_eq (b := { s.robot r with enabled := true }) (tget_tset_self _ _ _ _ hr)
  simp only [robotEnableBlock, robotRefusal_eq_none hlen hr hstation hzone, hdisabled, Bool.false_eq_true, if_false, hflags]

theorem robotEnableBlock_of_enabled (henabled : (s.robot r).enabled = true) :
    robotEnableBlock h r s = s.done (.robotFlags true (s.robot r).online (s.robot r).motion.name) := by
  simp only [robotEnableBlock, robotRefusal_eq_none hlen hr hstation hzone, henabled, if_true, robotFlags]

theorem robotDisableBlock_of_disabled (hdisabled : (s.robot r).enabled = false) :
    robotDisableBlock h r s = s.done (.robotFlags false (s.robot r).online (s.robot r).motion.name) := by
  simp only [robotDisableBlock, robotRefusal_eq_none hlen hr hstation hzone, hdisabled, Bool.false_eq_true, if_false, robotFlags]

theorem robotDisableBlock_of_enabled (henabled : (s.robot r).enabled = true) {t : State} (hskip : (s.disarm r).skipDisabled r = t)
    (hrobot : t.robot r = { s.robot r with enabled := false }) :
    robotDisableBlock h r s =
      (t.owe [.recompute r]).done (.robotFlags false (s.robot r).online (s.robot r).motion.name) := by
  have hflags : (t.owe [.recompute r]).robotFlags r = .robotFlags false (s.robot r).online (s.robot r).motion.name :=
    robotFlags_eq (b := { s.robot r with enabled := false }) hrobot
  change (match s.robotRefusal h r with
    | some c => s.refuse c
    | none => ((if (s.robot r).enabled then ((s.disarm r).skipDisabled r).owe [.recompute r] else s).done
        ((if (s.robot r).enabled then ((s.disarm r).skipDisabled r).owe [.recompute r] else s).robotFlags r))) = _
  rw [robotRefusal_eq_none hlen hr hstation hzone, hskip, if_pos henabled, hflags]

theorem dressRequestBlock_eq :
    dressRequestBlock h r s =
      (s.modRobot r fun b => { b with dressDue := true }).done (.dress (s.robot r).wear true (s.robot r).motion.name) := by
  simp only [dressRequestBlock, robotRefusal_eq_none hlen hr hstation hzone, robot_modRobot_self _ _ _ hr]

end

/-! ### A disabled robot (R121) -/

/-- A robot that is working, or owes nothing, keeps its station as it is disabled. -/
theorem skipDisabled_of_not (hstation : s.stationOf r = some i)
    (hnot : ¬ ((s.robot r).enabled = false ∧ (s.robot r).motion = .idle ∧ s.owed i r = true)) : s.skipDisabled r = s := by
  simp only [skipDisabled, hstation]
  rw [if_neg hnot]

/-- The components of a station with one robot's SKIPPED (R121). -/
def skippedWork (r : Nat) (items : List WorkItem) : List WorkItem :=
  items.map fun w => if w.robot = r then { w with comp := .skipped } else w

/-- An IDLE robot that owes the body is skipped as it is disabled, and its station judged (R121). -/
theorem skipDisabled_of_owed {b : Body} (hstation : s.stationOf r = some i) (hdisabled : (s.robot r).enabled = false)
    (hidle : (s.robot r).motion = .idle) (howed : s.owed i r = true) (hk : (s.station i).body = some b.key)
    (hb : s.bodyOf b.key = some b) {items : List WorkItem} (hwork : (s.station i).work = some items) :
    s.skipDisabled r =
      ({ s with
        stations := tset s.stations i { s.station i with work := some (skippedWork r items) }
        bodies := (s.modBody b.key fun c => { c with incomplete := true }).bodies
        attention := (s.raise .bodyIncomplete b.tag.toNat).attention } : State).judgeStation i := by
  obtain ⟨u, hu⟩ : ∃ u : State, u =
      { s with stations := tset s.stations i { s.station i with work := some (skippedWork r items) } } := ⟨_, rfl⟩
  have hcomponent : s.setComponent i r .skipped = u := by
    rw [hu, setComponent, modStation, hwork]
    rfl
  have hub : u.bodyOf b.key = some b := by
    rw [hu]
    exact hb
  have hskip : s.skipDisabled r = (u.markIncomplete b.key).judgeStation i := by
    simp only [skipDisabled, hstation, hdisabled, hidle, howed, hk, and_self, if_true, hcomponent]
  rw [hskip, markIncomplete_of_some u b.key hub, hu]
  rfl

theorem skipDisabled_disarm_of_not (hr : r < 32) (hstation : s.stationOf r = some i)
    (hnot : ¬ ((s.robot r).motion = .idle ∧ s.owed i r = true)) : (s.disarm r).skipDisabled r = s.disarm r := by
  refine skipDisabled_of_not (s := s.disarm r) (i := i) hstation ?_
  rintro ⟨-, hidle, howed⟩
  rw [motion_disarm hr] at hidle
  exact hnot ⟨hidle, howed⟩

/-- The state once an IDLE robot that owes its body is disabled, its station judged to `st`. -/
def disabled (r i : Nat) (b : Body) (left : List WorkItem) (st : StationState) (s : State) : State :=
  { s.disarm r with
    stations := tset s.stations i (judgedStation st { s.station i with work := some left })
    bodies := (s.modBody b.key fun c => { c with
      incomplete := true
      results := if st = .complete then tset c.results i (finishResult left) else c.results }).bodies
    attention := (if st = .complete then (s.raise .bodyIncomplete b.tag.toNat).raise .stationComplete i
      else s.raise .bodyIncomplete b.tag.toNat).attention
    due := s.due ++ s.enterDue i st }

theorem skipDisabled_disarm_of_owed {b : Body} (hr : r < 32) (hi : i < 16) (hstation : s.stationOf r = some i)
    (hidle : (s.robot r).motion = .idle) (howed : s.owed i r = true) (hk : (s.station i).body = some b.key)
    (hb : s.bodyOf b.key = some b) {items : List WorkItem} (hwork : (s.station i).work = some items) {st : StationState}
    (hst : JudgedTo s i b.key (skippedWork r items) st) :
    (s.disarm r).skipDisabled r = s.disabled r i b (skippedWork r items) st := by
  rw [skipDisabled_of_owed (s := s.disarm r) hstation (by rw [robot_disarm_self hr]) ((motion_disarm hr r).trans hidle) howed hk hb
    hwork]
  obtain ⟨v, hv⟩ : ∃ v : State, v = { s.disarm r with
      stations := tset s.stations i { s.station i with work := some (skippedWork r items) }
      bodies := (s.modBody b.key fun c => { c with incomplete := true }).bodies
      attention := (s.raise .bodyIncomplete b.tag.toNat).attention } := ⟨_, rfl⟩
  have hread : v.station i = { s.station i with work := some (skippedWork r items) } := by
    rw [hv]
    exact tget_tset_self _ _ _ _ hi
  have hjudged : JudgedTo v i b.key (skippedWork r items) st :=
    hst.congr (by rw [hread]) fun q => by
      rw [hv]
      exact motion_disarm hr q
  have hdue : v.enterDue i st = s.enterDue i st := enterDue_congr (by rw [hread]) (by rw [hv]; rfl) st
  refine (congrArg (judgeStation i) hv.symm).trans ?_
  rw [judgeStation_eq hi (items := skippedWork r items) (k := b.key) (by rw [hread]) (by rw [hread]; exact hk) hjudged, judged, hread,
    hdue, hv]
  by_cases hcomplete : st = .complete
  · have hbodies := congrArg bodies (modBody_modBody (s := s) (k := b.key) (f := fun c => { c with incomplete := true })
      (fun _ => rfl) (Body.setResult i (finishResult (skippedWork r items))))
    simp only [disabled, if_pos hcomplete]
    exact (eq_iff_fields _ _).mpr ⟨rfl, rfl, rfl, rfl, rfl, rfl, rfl, rfl, hbodies, rfl, rfl, tset_tset _ _ _ _, rfl, rfl, rfl, rfl, rfl,
      rfl, rfl, rfl, rfl, rfl⟩
  · simp only [disabled, if_neg hcomplete]
    exact (eq_iff_fields _ _).mpr ⟨rfl, rfl, rfl, rfl, rfl, rfl, rfl, rfl, rfl, rfl, rfl, tset_tset _ _ _ _, rfl, rfl, rfl, rfl, rfl,
      rfl, rfl, rfl, rfl, rfl⟩

end State

section
variable {s : State} {h : Hdr} {r i : Nat}
variable (htakes : s.takes h .zone) (hr : r < 32) (hstation : s.stationOf r = some i) (hzone : s.inZone h.port i = true)
include htakes hr hstation hzone

/-- O37: ROBOT ENABLE. -/
theorem robotEnable_sets_flag :
    ∃ t, exec (.robotEnable h r) s = .next t ∧
      State.answered h 0x28 .done (.robotFlags true (s.robot r).online (s.robot r).motion.name) s t ∧
      t.robot r = { s.robot r with enabled := true } ∧ (∀ q, q ≠ r → t.robot q = s.robot q) ∧
      t = { s with ports := t.ports, robots := t.robots,
                   due := s.due ++ if (s.robot r).enabled then [] else [.recompute r] } := by
  obtain ⟨hlistens, hgrants, hlen⟩ := htakes
  cases henabled : (s.robot r).enabled with
  | true =>
    have hblock := State.robotEnableBlock_of_enabled (s := s.goodFrameOn h.port.val) hlen hr hstation hzone henabled
    obtain ⟨hexec, hanswered⟩ := s.exec_request_of_block (i := .robotEnable h r) rfl hlistens hgrants hblock rfl
    refine ⟨_, hexec, hanswered, ?_, fun _ _ => rfl, ?_⟩
    · rw [← henabled]
      rfl
    · rw [if_pos rfl, List.append_nil]
      rfl
  | false =>
    have hblock := State.robotEnableBlock_of_disabled (s := s.goodFrameOn h.port.val) hlen hr hstation hzone henabled
    obtain ⟨hexec, hanswered⟩ := s.exec_request_of_block (i := .robotEnable h r) rfl hlistens hgrants hblock rfl
    exact ⟨_, hexec, hanswered, tget_tset_self _ _ _ _ hr, fun q hq => tget_tset_ne _ _ _ _ _ hq, rfl⟩

/-- O37: ROBOT DISABLE of a robot that is working or owes nothing. -/
theorem robotDisable_clears_flag (hnot : ¬ ((s.robot r).motion = .idle ∧ s.owed i r = true)) :
    ∃ t, exec (.robotDisable h r) s = .next t ∧
      State.answered h 0x29 .done (.robotFlags false (s.robot r).online (s.robot r).motion.name) s t ∧
      t.robot r = { s.robot r with enabled := false } ∧ (∀ q, q ≠ r → t.robot q = s.robot q) ∧
      t.stage r = { s.stage r with blocked := (s.stage r).blocked && !(s.robot r).enabled } ∧
      (∀ q, q ≠ r → t.stage q = s.stage q) ∧
      t = { s with ports := t.ports, robots := t.robots, staging := t.staging,
                   due := s.due ++ if (s.robot r).enabled then [.recompute r] else [] } := by
  obtain ⟨hlistens, hgrants, hlen⟩ := htakes
  cases henabled : (s.robot r).enabled with
  | true =>
    have hblock := State.robotDisableBlock_of_enabled (s := s.goodFrameOn h.port.val) hlen hr hstation hzone henabled
      (State.skipDisabled_disarm_of_not (s := s.goodFrameOn h.port.val) hr hstation hnot) (State.robot_disarm_self hr)
    obtain ⟨hexec, hanswered⟩ := s.exec_request_of_block (i := .robotDisable h r) rfl hlistens hgrants hblock rfl
    refine ⟨_, hexec, hanswered, tget_tset_self _ _ _ _ hr, fun q hq => tget_tset_ne _ _ _ _ _ hq, ?_,
      fun q hq => tget_tset_ne _ _ _ _ _ hq, rfl⟩
    rw [Bool.not_true, Bool.and_false]
    exact tget_tset_self _ _ _ _ hr
  | false =>
    have hblock := State.robotDisableBlock_of_disabled (s := s.goodFrameOn h.port.val) hlen hr hstation hzone henabled
    obtain ⟨hexec, hanswered⟩ := s.exec_request_of_block (i := .robotDisable h r) rfl hlistens hgrants hblock rfl
    refine ⟨_, hexec, hanswered, ?_, fun _ _ => rfl, ?_, fun _ _ => rfl, ?_⟩
    · rw [← henabled]
      rfl
    · rw [Bool.not_false, Bool.and_true]
      rfl
    · rw [if_neg Bool.false_ne_true, List.append_nil]
      rfl

/-- O37: DRESS REQUEST. -/
theorem dressRequest_sets_flag :
    ∃ t, exec (.dressRequest h r) s = .next t ∧
      State.answered h 0x2A .done (.dress (s.robot r).wear true (s.robot r).motion.name) s t ∧
      t.robot r = { s.robot r with dressDue := true } ∧ (∀ q, q ≠ r → t.robot q = s.robot q) ∧
      t = { s with ports := t.ports, robots := t.robots } := by
  obtain ⟨hlistens, hgrants, hlen⟩ := htakes
  obtain ⟨hexec, hanswered⟩ := s.exec_request_of_block (i := .dressRequest h r) rfl hlistens hgrants
    (State.dressRequestBlock_eq (s := s.goodFrameOn h.port.val) hlen hr hstation hzone) rfl
  exact ⟨_, hexec, hanswered, tget_tset_self _ _ _ _ hr, fun q hq => tget_tset_ne _ _ _ _ _ hq, rfl⟩

/-- O37: ROBOT DISABLE of an IDLE robot that owes the body at its station. -/
theorem robotDisable_skips {b : Body} {items left : List WorkItem} {st : StationState} {selected : Nat → Prop} (hi : i < 16)
    (henabled : (s.robot r).enabled = true) (hidle : (s.robot r).motion = .idle) (howed : s.owed i r = true)
    (hk : (s.station i).body = some b.key) (hb : s.bodyOf b.key = some b) (hwork : (s.station i).work = some items)
    (hleft : left = items.map (fun w => if w.robot = r then { w with comp := .skipped } else w))
    (hselected : ∀ q, selected q ↔
      ∃ sel, sel.key = b.key ∧ ((s.robot q).motion = .selected sel ∨ (s.robot q).motion = .welding sel))
    (hst : (s.station i).state = .fault ∧ st = .fault ∨
      (s.station i).state = .arrived ∧
        ((∃ w ∈ left, w.comp = .owed ∧ ¬ selected w.robot) ∧ st = .arrived ∨
          (∃ w ∈ left, w.comp = .owed) ∧ (∀ w ∈ left, w.comp = .owed → selected w.robot) ∧ st = .welding ∨
          (∀ w ∈ left, w.comp ≠ .owed) ∧ st = .complete)) :
    ∃ t, exec (.robotDisable h r) s = .next t ∧
      State.answered h 0x29 .done (.robotFlags false (s.robot r).online .idle) s t ∧
      t.robot r = { s.robot r with enabled := false } ∧ (∀ q, q ≠ r → t.robot q = s.robot q) ∧
      t.station i = { s.station i with
        work := some left
        state := st
        running := if st = .complete then false else (s.station i).running
        lastCycle := if st = .complete then (s.station i).watch else (s.station i).lastCycle
        cause := if st = .complete then none else (s.station i).cause } ∧
      (∀ j, j ≠ i → t.station j = s.station j) ∧
      t.bodyOf b.key = some { b with
        incomplete := true
        results := if st = .complete then
            tset b.results i (if ∃ w ∈ left, w.comp = .done then .welded else .skipped) else b.results } ∧
      (∀ k, k ≠ b.key → t.bodyOf k = s.bodyOf k) ∧
      t.stage r = { s.stage r with blocked := false } ∧ (∀ q, q ≠ r → t.stage q = s.stage q) ∧
      t.attention = (if st = .complete then (s.raise .bodyIncomplete b.tag.toNat).raise .stationComplete i
        else s.raise .bodyIncomplete b.tag.toNat).attention ∧
      (∀ d, d ∈ t.due ↔ d ∈ s.due ∨ d = .recompute r ∨
        (s.station i).state ≠ st ∧ ∃ q ∈ s.robotsAt i, d = .recompute q) ∧
      t = { s with ports := t.ports, robots := t.robots, staging := t.staging, stations := t.stations, bodies := t.bodies,
                   attention := t.attention, due := t.due } := by
  obtain ⟨hlistens, hgrants, hlen⟩ := htakes
  have hjudged : State.JudgedTo (s.goodFrameOn h.port.val) i b.key left st := by
    have hsel : ∀ q, s.selectedFor q b.key = true ↔ selected q := fun q =>
      (State.selectedFor_eq_true_iff q).trans (hselected q).symm
    obtain ⟨hfault, rfl⟩ | ⟨harrived, ⟨⟨w, hw, hcomp, hnot⟩, rfl⟩ | ⟨howes, hall, rfl⟩ | ⟨hnone, rfl⟩⟩ := hst
    · exact .fault hfault
    · exact .waits harrived ⟨w, hw, hcomp, Bool.eq_false_iff.mpr fun hs => hnot ((hsel _).mp hs)⟩
    · exact .begins harrived howes fun w hw hcomp => (hsel _).mpr (hall w hw hcomp)
    · exact .completes (.inl harrived) hnone
  have hskip := State.skipDisabled_disarm_of_owed (s := s.goodFrameOn h.port.val) hr hi hstation hidle howed hk hb hwork
    (hleft ▸ hjudged)
  have hblock := State.robotDisableBlock_of_enabled (s := s.goodFrameOn h.port.val) hlen hr hstation hzone henabled hskip
    (State.robot_disarm_self hr)
  obtain ⟨hexec, hanswered⟩ := s.exec_request_of_block (i := .robotDisable h r) rfl hlistens hgrants hblock rfl
  have hmoves : ¬ ((s.station i).state = .arrived ↔ st = .arrived) ↔ (s.station i).state ≠ st := by
    obtain ⟨hstate, rfl⟩ | ⟨hstate, -⟩ := hst
    · simp [hstate]
    · simp only [hstate, true_iff, ne_eq, eq_comm]
  rw [← State.finishResult_eq]
  subst hleft
  refine ⟨_, hexec, hidle ▸ hanswered, State.robot_disarm_self (s := s) hr, fun q hq => State.robot_disarm_ne (s := s) hq,
    tget_tset_self _ _ _ _ hi, fun j hj => tget_tset_ne _ _ _ _ _ hj, State.bodyOf_modBody_eq (s := s) (fun _ => rfl) hb,
    fun k hk => State.bodyOf_modBody_ne s _ _ _ (fun _ => rfl) hk, tget_tset_self _ _ _ _ hr, fun q hq => tget_tset_ne _ _ _ _ _ hq,
    ?_, fun d => ?_, rfl⟩
  · change (if st = .complete then _ else _ : State).attention = _
    split <;> rfl
  · change d ∈ s.due ++ s.enterDue i st ++ [.recompute r] ↔ _
    rw [List.mem_append, List.mem_append, List.mem_singleton, State.mem_enterDue, hmoves, or_assoc,
      or_comm (a := (s.station i).state ≠ st ∧ _)]

end

/-- Settles O37: each request sets its flag, and an IDLE robot disabled where it owes the body is skipped. -/
theorem robotRequestsSetTheirFlags : Obligations.RobotRequestsSetTheirFlags :=
  ⟨fun _ _ _ _ htakes hr hstation hzone => ⟨robotEnable_sets_flag htakes hr hstation hzone,
      robotDisable_clears_flag htakes hr hstation hzone, dressRequest_sets_flag htakes hr hstation hzone⟩,
    fun _ _ _ _ _ _ _ _ _ htakes hr hi hstation hzone henabled hidle howed hk hb hwork hleft hselected hst =>
      robotDisable_skips htakes hr hstation hzone hi henabled hidle howed hk hb hwork hleft hselected hst⟩

end Machine
end Sys2Proof
end

section
/-!
SUPPORT. Presence reports (R66 to R74): the two commands that report a line, as one (O28).
-/
namespace Sys2Proof
namespace Machine
namespace State

variable {s u : State} {i : Nat}

/-! ### The presence of a line (R67) -/

theorem present_eq_true_iff : s.present i = true ↔ ((s.presence i).accepted = .high ↔ (s.stationRec i).sense = .highPresent) := by
  rw [present_eq_decide, decide_eq_true_eq]

/-- A change of presence in RUN, at a station of the line, is reported (R66, R67). -/
theorem presenceReport_of_changed {was : Bool} (hrun : s.mode = .run) (hi : i < s.stationCount) (hchanged : s.present i ≠ was) :
    s.presenceReport i was = if s.present i then s.lineArrival i else s.lineDeparture i :=
  if_pos ⟨hrun, hi, hchanged⟩

theorem presenceReport_of_unreported {was : Bool} (hnot : s.mode = .setup ∨ s.stationCount ≤ i ∨ s.present i = was) :
    s.presenceReport i was = (s, none) := by
  refine if_neg ?_
  rintro ⟨hrun, hi, hchanged⟩
  obtain hsetup | hge | hsame := hnot
  · cases hrun.symm.trans hsetup
  · omega
  · exact hchanged hsame

theorem presenceReport_of_frame (was : Bool) (hframe : (s.station i).source = .frame) : s.presenceReport i was = (s, none) := by
  simp only [presenceReport, lineArrival, lineDeparture, hframe, ite_self]

theorem level_eq_of_iff {a b : Level} (h : a = .high ↔ b = .high) : a = b := by
  cases a <;> cases b <;> simp_all

theorem iff_right_cancel {a b c : Prop} : ((a ↔ c) ↔ (b ↔ c)) ↔ (a ↔ b) := by tauto

theorem sense_eq_of_iff {a b : Sense} (h : a = .highPresent ↔ b = .highPresent) : a = b := by
  cases a <;> cases b <;> simp_all

theorem iff_left_cancel {a b c : Prop} : ((c ↔ a) ↔ (c ↔ b)) ↔ (a ↔ b) := by tauto

/-- SET SENSE that passes its checks (R74). -/
theorem setSenseBlock_of_report {h : Hdr} (hlen : h.lengthOk = true) (hi : i < s.stationCount) (hzone : s.inZone h.port i = true)
    {x : Sense} {v : State} {moved : Option BodyName} (hv : (s.writeSense i x).presenceReport i (s.present i) = (v, moved)) :
    setSenseBlock h i (some x) s = v.done (.sense x (v.reportView i moved)) := by
  simp only [setSenseBlock, hlen, hzone, hv, Bool.true_eq_false, Nat.not_le.mpr hi, or_self, if_false]

/-! ### ACCEPTED CHANGE and SET SENSE as one report -/

/-- A state that differs from `s` in the lines, the ports and the layout's STATION records alone. -/
def reportedIn (s : State) (lines : Vector Presence 16) (ports : Vector Port 4) (stations : Vector StationRec 16) : State :=
  { s with lines := lines, ports := ports, layout := { s.layout with stations := stations } }

/-- The state in which a command reports line `i`, and what the command then does: it hands the report to the tracker, and its
reply names the body moved (R66, R67, R74). -/
theorem exec_of_reports {p : Bool} {x : Presence} {cmd : Instr} (hreports : s.reports i p x cmd) (hrun : s.mode = .run)
    (hlt : i < 16) (hi : i < s.stationCount) :
    ∃ lines ports stations, (s.reportedIn lines ports stations).presence i = x ∧
      (∀ j, j ≠ i → (s.reportedIn lines ports stations).presence j = s.presence j) ∧
      ∀ v moved, (if p then (s.reportedIn lines ports stations).lineArrival i
          else (s.reportedIn lines ports stations).lineDeparture i) = (v, moved) →
        v.layout = (s.reportedIn lines ports stations).layout → v.ports = ports → (v.presence i).accepted = x.accepted →
        ∃ q, exec cmd s = .next ({ v with ports := q } : State) ∧
          State.reported i moved s { v with ports := q } cmd := by
  cases cmd
  case acceptedChange j level =>
    obtain ⟨rfl, hreset, hlevel, hpresent, rfl⟩ := hreports
    refine ⟨(s.accept j level).lines, s.ports, s.layout.stations, tget_tset_self _ _ _ _ hlt,
      fun q hq => tget_tset_ne _ _ _ _ _ hq, fun v moved hv hlayout hports _ => ⟨v.ports, ?_, hports, hlayout⟩⟩
    have hnew : (s.accept j level).present j = p := by
      rw [Bool.eq_iff_iff, present_eq_true_iff, hpresent]
      have haccepted : ((s.accept j level).presence j).accepted = level :=
        congrArg Presence.accepted (presence_modPresence_self s j (fun x => { x with pin := level, accepted := level, filter := 0 }) hlt)
      rw [haccepted]
      rfl
    have hchanged : (s.accept j level).present j ≠ s.present j := by
      rw [hnew, ne_eq, Bool.eq_iff_iff, hpresent, present_eq_true_iff, iff_right_cancel]
      exact fun h => hlevel (level_eq_of_iff h)
    have hreport := presenceReport_of_changed (s := s.accept j level) hrun hi hchanged
    rw [hnew] at hreport
    refine congrArg Host.Outcome.next ((s.whileWorking_of_working hreset _).trans ?_)
    exact congrArg Prod.fst (hreport.trans hv)
  case setSense h j sense =>
    cases sense with
    | none => exact hreports.elim
    | some sense =>
      obtain ⟨rfl, ⟨hlistens, hgrants, hlen⟩, hzone, hsense, hpresent, rfl⟩ := hreports
      refine ⟨s.lines, (s.goodFrameOn h.port.val).ports, (s.writeSense j sense).layout.stations, rfl, fun _ _ => rfl,
        fun v moved hv hlayout hports haccepted => ?_⟩
      have hrec : (s.writeSense j sense).stationRec j = { s.stationRec j with sense := sense } := tget_tset_self _ _ _ _ hlt
      have hnew : ((s.goodFrameOn h.port.val).writeSense j sense).present j = p := by
        rw [Bool.eq_iff_iff, hpresent]
        refine (present_eq_true_iff (s := s.writeSense j sense)).trans ?_
        rw [hrec]
        rfl
      have hchanged : ((s.goodFrameOn h.port.val).writeSense j sense).present j ≠ (s.goodFrameOn h.port.val).present j := by
        rw [hnew, ne_eq, Bool.eq_iff_iff, hpresent]
        refine fun hsame => hsense (sense_eq_of_iff ?_)
        exact iff_left_cancel.mp (hsame.trans (present_eq_true_iff (s := s)))
      have hreport := presenceReport_of_changed (s := (s.goodFrameOn h.port.val).writeSense j sense) hrun hi hchanged
      rw [hnew] at hreport
      have hview : v.reportView j moved =
          ⟨(v.station j).state, moved, decide ((s.presence j).accepted = .high ↔ sense = .highPresent), (v.presence j).window⟩ := by
        have hsense' : (v.stationRec j).sense = sense := by
          rw [stationRec, hlayout]
          exact congrArg StationRec.sense hrec
        simp only [reportView, present_eq_decide, haccepted, hsense']
      have hblock := setSenseBlock_of_report (s := s.goodFrameOn h.port.val) hlen hi hzone (hreport.trans hv)
      rw [hview] at hblock
      obtain ⟨hexec, hanswered⟩ := s.exec_request_of_block (i := .setSense h j (some sense)) rfl hlistens hgrants hblock hports
      rw [sendReply_eq] at hexec hanswered
      refine ⟨_, hexec, hanswered, ?_, fun q hq => ?_, ?_⟩
      · change v.stationRec j = _
        rw [stationRec, hlayout]
        exact hrec
      · change v.stationRec q = _
        rw [stationRec, hlayout]
        exact tget_tset_ne _ _ _ _ _ hq
      · change v.layout = { s.layout with stations := v.layout.stations }
        rw [hlayout]
        rfl
  all_goals exact hreports.elim

end State
end Machine
end Sys2Proof
end

section
/-!
SUPPORT. What a reported change of presence does, by the arrival source of its station (R68, R70, R71, R73): O28.
-/
namespace Sys2Proof
namespace Machine
namespace State

variable {s u : State} {i : Nat} {lines : Vector Presence 16} {ports : Vector Port 4} {stations : Vector StationRec 16}

/-! ### Line arrivals and departures -/

theorem window_and_echo_of_reports {p : Bool} {x : Presence} {cmd : Instr} (hreports : s.reports i p x cmd) :
    x.window = (s.presence i).window ∧ x.echo = (s.presence i).echo := by
  cases cmd
  case acceptedChange =>
    obtain ⟨-, -, -, -, rfl⟩ := hreports
    exact ⟨rfl, rfl⟩
  case setSense h j sense =>
    cases sense with
    | none => exact hreports.elim
    | some sense =>
      obtain ⟨-, -, -, -, -, rfl⟩ := hreports
      exact ⟨rfl, rfl⟩
  all_goals exact hreports.elim

/-- A line arrival that is handed to the tracker: at a LINE station without a tag, and at a BOTH one whose window an ARRIVE opened
with the tag of that window, which closes (R68, R71). -/
theorem lineArrival_handed (hi : i < 16) {x y : Presence} (hx : (s.reportedIn lines ports stations).presence i = x)
    (hwindow : x.window = (s.presence i).window) {tag : Option Word}
    (hy : (s.station i).source = .line ∧ tag = none ∧ y = x ∨
      (s.station i).source = .both ∧ (∃ w, (s.presence i).window = .openFrame w ∧ tag = some w) ∧
        y = { x with window := .closed, confirm := 0 }) :
    ∃ lines', (s.reportedIn lines ports stations).lineArrival i =
        (((s.reportedIn lines' ports stations).arrival i tag).1, ((s.reportedIn lines' ports stations).arrival i tag).2.2) ∧
      (s.reportedIn lines' ports stations).presence i = y ∧ y.accepted = x.accepted ∧
      ∀ j, j ≠ i → (s.reportedIn lines' ports stations).presence j = (s.reportedIn lines ports stations).presence j := by
  obtain ⟨hsource, rfl, rfl⟩ | ⟨hsource, ⟨w, hopen, rfl⟩, rfl⟩ := hy
  · refine ⟨lines, ?_, hx, rfl, fun _ _ => rfl⟩
    have hsource' : ((s.reportedIn lines ports stations).station i).source = .line := hsource
    simp only [lineArrival, hsource']
  · refine ⟨((s.reportedIn lines ports stations).closeWindow i).lines, ?_, ?_, rfl, fun j hj => tget_tset_ne _ _ _ _ _ hj⟩
    · have hsource' : ((s.reportedIn lines ports stations).station i).source = .both := hsource
      have hopen' : ((s.reportedIn lines ports stations).presence i).window = .openFrame w := by rw [hx, hwindow, hopen]
      simp only [lineArrival, hsource', hopen']
      rfl
    · refine (tget_tset_self _ _ _ _ hi).trans ?_
      rw [hx]

theorem lineArrival_opens (hboth : (s.station i).source = .both) (hclosed : (s.presence i).window = .closed)
    (hempty : (s.station i).state = .empty) : s.lineArrival i = (s.openWindow i .openLine, none) := by
  simp only [lineArrival, hboth, hclosed, hempty, if_true]

theorem lineDeparture_of_line (hline : (s.station i).source = .line) : s.lineDeparture i = s.departure i := by
  simp only [lineDeparture, hline]

theorem lineDeparture_withdraws (hboth : (s.station i).source = .both) (hopen : (s.presence i).window = .openLine) :
    s.lineDeparture i = (s.closeWindow i, none) := by
  simp only [lineDeparture, hboth, hopen]

theorem lineDeparture_of_both (hboth : (s.station i).source = .both) (hopen : (s.presence i).window ≠ .openLine) :
    s.lineDeparture i = s.departureReport i .owedLine .owedFrame := by
  simp only [lineDeparture, hboth]

theorem departureReport_of_echo {owed : Echo} (other : Echo) (hecho : (s.presence i).echo = owed) :
    s.departureReport i owed other = (s.setEcho i .none, none) := if_pos hecho

theorem departureReport_of_moved {owed other : Echo} (hecho : (s.presence i).echo ≠ owed) {t : State} {name : BodyName}
    (hd : s.departure i = (t, some name)) : s.departureReport i owed other = (t.setEcho i other, some name) := by
  simp only [departureReport, if_neg hecho, hd]
  rfl

/-! ### The checks of an arrival, with a tag or none (R48) -/

/-- Checks 2, 3 and 4 of R48. -/
theorem arrival_of_fault_cause {tag : Option Word} {c : Cause} (hstate : (s.station i).state = .empty)
    (hc : c = .unknownBody ∧ (∃ w, tag = some w ∧ ∀ b ∈ s.bodies, b.tag ≠ w) ∨
      c = .noBodyExpected ∧ (∀ w, tag = some w → ∃ b ∈ s.bodies, b.tag = w) ∧ s.expectedBody i = none ∨
      c = .sequenceMismatch ∧ ∃ w b, tag = some w ∧ (∃ e ∈ s.bodies, e.tag = w) ∧ s.expectedBody i = some b ∧ b.tag ≠ w) :
    s.arrival i tag = (s.faultStation i c, false, none) := by
  cases tag with
  | some w =>
    refine arrival_of_faulted hstate ?_
    obtain ⟨hc, w', hw, hnone⟩ | ⟨hc, hsome, hexpected⟩ | ⟨hc, w', b, hw, hsome, hexpected, hne⟩ := hc
    · cases hw
      exact .inl ⟨hc, hnone⟩
    · exact .inr (.inl ⟨hc, hsome w rfl, hexpected⟩)
    · cases hw
      exact .inr (.inr ⟨hc, hsome, b, hexpected, hne⟩)
  | none =>
    have hexpected : c = .noBodyExpected ∧ s.expectedBody i = none := by
      obtain ⟨-, _, h, -⟩ | ⟨hc, -, h⟩ | ⟨-, _, _, h, -⟩ := hc
      · cases h
      · exact ⟨hc, h⟩
      · cases h
    obtain ⟨rfl, hexpected⟩ := hexpected
    simp [arrival, arrivalCheck, hstate, hexpected]

end State

section
variable {s : State} {i : Nat} {cmd : Instr} {x : Presence}
variable (hrun : s.mode = .run) (hlt : i < 16) (hi : i < s.stationCount)
include hrun hlt hi

section
variable (hreports : s.reports i true x cmd) {tag : Option Word} {y : Presence}
  (hy : (s.station i).source = .line ∧ tag = none ∧ y = x ∨
    (s.station i).source = .both ∧ (∃ w, (s.presence i).window = .openFrame w ∧ tag = some w) ∧
      y = { x with window := .closed, confirm := 0 })
include hreports hy

/-- The arrival handed to the tracker: the state it is handed in, and the command once the arrival is known. -/
theorem exec_of_handed :
    ∃ lines ports stations, (s.reportedIn lines ports stations).presence i = y ∧
      (∀ j, j ≠ i → (s.reportedIn lines ports stations).presence j = s.presence j) ∧
      ∀ v refused moved, (s.reportedIn lines ports stations).arrival i tag = (v, refused, moved) →
        v.layout = (s.reportedIn lines ports stations).layout → v.ports = ports → v.lines = lines →
        ∃ q, exec cmd s = .next ({ v with ports := q } : State) ∧ State.reported i moved s { v with ports := q } cmd := by
  obtain ⟨lines, ports, stations, hx, hothers, hexec⟩ := State.exec_of_reports hreports hrun hlt hi
  obtain ⟨lines', hhanded, hpresence, haccepted, hothers'⟩ :=
    State.lineArrival_handed (ports := ports) (stations := stations) hlt hx (State.window_and_echo_of_reports hreports).1 hy
  refine ⟨lines', ports, stations, hpresence, fun j hj => (hothers' j hj).trans (hothers j hj),
    fun v refused moved harrival hlayout hports hlines => hexec v moved ?_ hlayout hports ?_⟩
  · rw [if_pos rfl, hhanded, harrival]
  · have hread : v.presence i = y := by
      rw [← hpresence, State.presence, hlines]
      rfl
    rw [hread, haccepted]

end

end

end Machine
end Sys2Proof
end

section
/-!
SUPPORT. Presence reports settled: the arrivals, the departures, the windows and the echoes of O28.
-/
namespace Sys2Proof
namespace Machine
namespace State

variable {s : State} {i : Nat}

/-- A line departure that moved a body: it sets the echo OWED-FRAME at a BOTH station (R68, R73). -/
theorem lineDeparture_moved (hi : i < 16) {x y : Presence} (hx : s.presence i = x)
    (hy : (s.station i).source = .line ∧ y = x ∨
      (s.station i).source = .both ∧ x.window ≠ .openLine ∧ x.echo ≠ .owedLine ∧ y = { x with echo := .owedFrame, echoTimer := 0 })
    {t : State} {name : BodyName} (hd : s.departure i = (t, some name)) (hlines : t.lines = s.lines) :
    ∃ lines, s.lineDeparture i = ({ t with lines := lines }, some name) ∧ ({ s with lines := lines } : State).presence i = y ∧ y.accepted = x.accepted ∧
      ∀ j, j ≠ i → ({ s with lines := lines } : State).presence j = s.presence j := by
  obtain ⟨hline, rfl⟩ | ⟨hboth, hwindow, hecho, rfl⟩ := hy
  · refine ⟨s.lines, (lineDeparture_of_line hline).trans (hd.trans ?_), hx, rfl, fun _ _ => rfl⟩
    rw [← hlines]
  · subst hx
    have hread : ∀ j, t.presence j = s.presence j := fun j => by rw [presence, presence, hlines]
    refine ⟨(t.setEcho i .owedFrame).lines, (lineDeparture_of_both hboth hwindow).trans (departureReport_of_moved hecho hd),
      ?_, rfl, fun j hj => (tget_tset_ne _ _ _ _ _ hj).trans (hread j)⟩
    refine (presence_modPresence_self t i (fun z => { z with echo := .owedFrame, echoTimer := 0 }) hi).trans ?_
    rw [hread]

/-- A line departure at a BOTH station that moves nothing: it withdraws an OPEN-LINE window, or an echo OWED-LINE discards it
(R71, R73). -/
theorem lineDeparture_unmoved (hi : i < 16) {x y : Presence} (hx : s.presence i = x) (hboth : (s.station i).source = .both)
    (hy : x.window = .openLine ∧ y = { x with window := .closed, confirm := 0 } ∨
      x.window ≠ .openLine ∧ x.echo = .owedLine ∧ y = { x with echo := .none, echoTimer := 0 }) :
    ∃ lines, s.lineDeparture i = ({ s with lines := lines }, none) ∧ ({ s with lines := lines } : State).presence i = y ∧ y.accepted = x.accepted ∧
      ∀ j, j ≠ i → ({ s with lines := lines } : State).presence j = s.presence j := by
  subst hx
  obtain ⟨hopen, rfl⟩ | ⟨hwindow, hecho, rfl⟩ := hy
  · exact ⟨(s.closeWindow i).lines, lineDeparture_withdraws hboth hopen,
      presence_modPresence_self s i (fun z => { z with window := .closed, confirm := 0 }) hi, rfl,
      fun j hj => tget_tset_ne _ _ _ _ _ hj⟩
  · exact ⟨(s.setEcho i .none).lines, (lineDeparture_of_both hboth hwindow).trans (departureReport_of_echo _ hecho),
      presence_modPresence_self s i (fun z => { z with echo := .none, echoTimer := 0 }) hi, rfl,
      fun j hj => tget_tset_ne _ _ _ _ _ hj⟩

end State

section
variable {s : State} {i : Nat} {cmd : Instr} {x : Presence}
variable (hrun : s.mode = .run) (hlt : i < 16) (hi : i < s.stationCount)
include hrun hlt hi

section
variable (hreports : s.reports i true x cmd) {tag : Option Word} {y : Presence}
  (hy : (s.station i).source = .line ∧ tag = none ∧ y = x ∨
    (s.station i).source = .both ∧ (∃ w, (s.presence i).window = .openFrame w ∧ tag = some w) ∧
      y = { x with window := .closed, confirm := 0 })
include hreports hy

/-- O28: an arrival from the line of the expected body, at a held station. -/
theorem lineArrival_taken {b : Body} (hempty : (s.station i).state = .empty) (hhold : (s.station i).hold = true)
    (hexpected : s.expectedBody i = some b) (hb : s.bodyOf b.key = some b) (htag : ∀ w, tag = some w → b.tag = w)
    (hfrom : b.state = .onLine (.before i) ∨ b.state = .admitted ∧ i = 0) :
    ∃ t, exec cmd s = .next t ∧ State.reported i (some ⟨b.tag, b.psn⟩) s t cmd ∧
      t.bodyOf b.key = some { b with
        state := .onLine (.atStation i), welds := .replicate 32 none, lastStation := some i
        stay := if b.lastStation = some i then b.stay else b.stay + 1 } ∧
      (∀ k, k ≠ b.key → t.bodyOf k = s.bodyOf k) ∧
      t.station i = { s.station i with
        state := .arrived, body := some b.key, work := none, cause := none, overrunRaised := false, watch := 0,
        watchMs := 0, running := true } ∧
      (∀ j, j ≠ i → t.station j = s.station j) ∧ t.presence i = y ∧
      (∀ j, j ≠ i → t.presence j = s.presence j) ∧ t.attention = (s.raise .arrival i).attention ∧
      (∀ d, d ∈ t.due ↔ d ∈ s.due ∨ (∃ r ∈ s.presentRobots, d = .recompute r) ∨
        d = .admission ∧ b.state = .admitted) ∧
      t = { s with bodies := t.bodies, stations := t.stations, lines := t.lines, attention := t.attention,
                   due := t.due, ports := t.ports, layout := t.layout } := by
  obtain ⟨lines, ports, stations, hpresence, hothers, hexec⟩ := exec_of_handed hrun hlt hi hreports hy
  have htag' : tag = none ∨ tag = some b.tag := by
    cases tag with
    | none => exact .inl rfl
    | some w => exact .inr (congrArg some (htag w rfl).symm)
  have hhold' : ((s.reportedIn lines ports stations).station i).hold = true := hhold
  have htaken := State.arrival_of_taken (s := s.reportedIn lines ports stations) htag' hempty hexpected hb
  rw [State.impliedDeparture_of_not_at (State.not_at_of_coming hfrom),
    State.bypass_of_next (s := s.reportedIn lines ports stations) hb
      (State.bypassed_of_next (State.bypassFrom_of_coming hfrom).ge),
    State.takeArrival_eq (s := s.reportedIn lines ports stations) hlt hb, if_pos hhold'] at htaken
  obtain ⟨q, hnext, hreported⟩ := hexec _ _ _ htaken rfl rfl rfl
  refine ⟨_, hnext, hreported,
    State.bodyOf_modBody_eq (s := s) (f := State.arrivedBody i) (fun _ => rfl) hb,
    fun k hk => State.bodyOf_modBody_ne s _ _ _ (fun _ => rfl) hk, tget_tset_self _ _ _ _ hlt,
    fun j hj => tget_tset_ne _ _ _ _ _ hj, hpresence, hothers, rfl, fun d => ?_, rfl⟩
  exact State.mem_due_arrived (s := s.reportedIn lines ports stations) d

/-- O28: an arrival from the line that fails a check of R48. -/
theorem lineArrival_faulted {c : Cause} (hempty : (s.station i).state = .empty)
    (hc : c = .unknownBody ∧ (∃ w, tag = some w ∧ ∀ b ∈ s.bodies, b.tag ≠ w) ∨
      c = .noBodyExpected ∧ (∀ w, tag = some w → ∃ b ∈ s.bodies, b.tag = w) ∧ s.expectedBody i = none ∨
      c = .sequenceMismatch ∧ ∃ w b, tag = some w ∧ (∃ e ∈ s.bodies, e.tag = w) ∧ s.expectedBody i = some b ∧ b.tag ≠ w) :
    ∃ t, exec cmd s = .next t ∧ State.reported i none s t cmd ∧
      t.station i = { s.station i with state := .fault, cause := some c } ∧
      (∀ j, j ≠ i → t.station j = s.station j) ∧ t.presence i = y ∧
      (∀ j, j ≠ i → t.presence j = s.presence j) ∧
      t = { s with stations := t.stations, lines := t.lines, attention := (s.raise .stationFault i).attention,
                   ports := t.ports, layout := t.layout } := by
  obtain ⟨lines, ports, stations, hpresence, hothers, hexec⟩ := exec_of_handed hrun hlt hi hreports hy
  have hfault := State.arrival_of_fault_cause (s := s.reportedIn lines ports stations) hempty hc
  have hstate : ((s.reportedIn lines ports stations).station i).state = .empty := hempty
  rw [State.faultStation_eq hlt (by simp [hstate]), State.enterDue_of_not_arrived (by simp [hstate]) (by simp),
    List.append_nil] at hfault
  obtain ⟨q, hnext, hreported⟩ := hexec _ _ _ hfault rfl rfl rfl
  exact ⟨_, hnext, hreported, tget_tset_self _ _ _ _ hlt, fun j hj => tget_tset_ne _ _ _ _ _ hj, hpresence, hothers, rfl⟩

/-- O28: an arrival from the line at a station that is not EMPTY. -/
theorem lineArrival_ignored (hstate : (s.station i).state ≠ .empty) :
    ∃ t, exec cmd s = .next t ∧ State.reported i none s t cmd ∧ t.presence i = y ∧
      (∀ j, j ≠ i → t.presence j = s.presence j) ∧ t = { s with lines := t.lines, ports := t.ports, layout := t.layout } := by
  obtain ⟨lines, ports, stations, hpresence, hothers, hexec⟩ := exec_of_handed hrun hlt hi hreports hy
  obtain ⟨q, hnext, hreported⟩ := hexec _ _ _
    (State.arrival_of_refused (s := s.reportedIn lines ports stations) tag hstate) rfl rfl rfl
  exact ⟨_, hnext, hreported, hpresence, hothers, rfl⟩

end

/-- O28: a change to PRESENT opens a CLOSED window OPEN-LINE. -/
theorem lineArrival_openLine (hreports : s.reports i true x cmd) (hboth : (s.station i).source = .both)
    (hclosed : (s.presence i).window = .closed) (hempty : (s.station i).state = .empty) :
    ∃ t, exec cmd s = .next t ∧ State.reported i none s t cmd ∧
      t.presence i = { x with window := .openLine, confirm := 0 } ∧ (∀ j, j ≠ i → t.presence j = s.presence j) ∧
      t = { s with lines := t.lines, ports := t.ports, layout := t.layout } := by
  obtain ⟨lines, ports, stations, hx, hothers, hexec⟩ := State.exec_of_reports hreports hrun hlt hi
  have hwindow : ((s.reportedIn lines ports stations).presence i).window = .closed := by
    rw [hx, (State.window_and_echo_of_reports hreports).1, hclosed]
  have hopens := State.lineArrival_opens (s := s.reportedIn lines ports stations) hboth hwindow hempty
  have hread : ((s.reportedIn lines ports stations).openWindow i .openLine).presence i = { x with window := .openLine, confirm := 0 } :=
    (State.presence_modPresence_self _ _ _ hlt).trans (by rw [hx])
  obtain ⟨q, hnext, hreported⟩ := hexec _ _ ((if_pos rfl).trans hopens) rfl rfl (by rw [hread])
  exact ⟨_, hnext, hreported, hread, fun j hj => (tget_tset_ne _ _ _ _ _ hj).trans (hothers j hj), rfl⟩

/-- O28: a departure from the line, from a COMPLETE station short of the last one. -/
theorem lineDeparture_complete (hreports : s.reports i false x cmd) {b : Body} {y : Presence}
    (hstate : (s.station i).state = .complete) (hk : (s.station i).body = some b.key) (hb : s.bodyOf b.key = some b)
    (hmore : i + 1 < s.stationCount)
    (hy : (s.station i).source = .line ∧ y = x ∨
      (s.station i).source = .both ∧ (s.presence i).window ≠ .openLine ∧ (s.presence i).echo ≠ .owedLine ∧
        y = { x with echo := .owedFrame, echoTimer := 0 }) :
    ∃ t, exec cmd s = .next t ∧ State.reported i (some ⟨b.tag, b.psn⟩) s t cmd ∧
      t.bodyOf b.key = some { b with state := .onLine (.before (i + 1)) } ∧
      (∀ k, k ≠ b.key → t.bodyOf k = s.bodyOf k) ∧
      t.station i = { s.station i with
        state := .empty, body := none, work := none, cause := none, running := false, abortWait := [] } ∧
      (∀ j, j ≠ i → t.station j = s.station j) ∧ t.presence i = y ∧
      (∀ j, j ≠ i → t.presence j = s.presence j) ∧
      (∀ d, d ∈ t.due ↔ d ∈ s.due ∨ ∃ r ∈ s.presentRobots, d = .recompute r) ∧
      t = { s with bodies := t.bodies, stations := t.stations, lines := t.lines, due := t.due, ports := t.ports,
                   layout := t.layout } := by
  obtain ⟨lines, ports, stations, hx, hothers, hexec⟩ := State.exec_of_reports hreports hrun hlt hi
  obtain ⟨hwindow, hecho⟩ := State.window_and_echo_of_reports hreports
  rw [← hwindow, ← hecho] at hy
  have hdeparture := State.departure_of_complete (s := s.reportedIn lines ports stations) hk hb hstate
  rw [State.departed_of_not_last (s := s.reportedIn lines ports stations) hlt hstate hmore.ne] at hdeparture
  obtain ⟨lines', hmoved, hpresence, haccepted, hothers'⟩ :=
    State.lineDeparture_moved (s := s.reportedIn lines ports stations) hlt hx hy hdeparture rfl
  obtain ⟨q, hnext, hreported⟩ := hexec _ _ ((if_neg Bool.false_ne_true).trans hmoved) rfl rfl
    ((congrArg Presence.accepted hpresence).trans haccepted)
  refine ⟨_, hnext, hreported,
    State.bodyOf_modBody_eq (s := s) (f := fun b => { b with state := .onLine (.before (i + 1)) }) (fun _ => rfl) hb,
    fun k hk => State.bodyOf_modBody_ne s _ _ _ (fun _ => rfl) hk, tget_tset_self _ _ _ _ hlt,
    fun j hj => tget_tset_ne _ _ _ _ _ hj, hpresence, fun j hj => (hothers' j hj).trans (hothers j hj), fun d => ?_, rfl⟩
  change d ∈ s.due ++ s.presentRobots.map .recompute ↔ _
  rw [List.mem_append, State.mem_recomputeAll]

/-- O28: a change to ABSENT that withdraws a window, or is discarded by an echo. -/
theorem lineDeparture_nothing (hreports : s.reports i false x cmd) (hboth : (s.station i).source = .both) {y : Presence}
    (hy : (s.presence i).window = .openLine ∧ y = { x with window := .closed, confirm := 0 } ∨
      (s.presence i).window ≠ .openLine ∧ (s.presence i).echo = .owedLine ∧ y = { x with echo := .none, echoTimer := 0 }) :
    ∃ t, exec cmd s = .next t ∧ State.reported i none s t cmd ∧ t.presence i = y ∧
      (∀ j, j ≠ i → t.presence j = s.presence j) ∧ t = { s with lines := t.lines, ports := t.ports, layout := t.layout } := by
  obtain ⟨lines, ports, stations, hx, hothers, hexec⟩ := State.exec_of_reports hreports hrun hlt hi
  obtain ⟨hwindow, hecho⟩ := State.window_and_echo_of_reports hreports
  rw [← hwindow, ← hecho] at hy
  obtain ⟨lines', hunmoved, hpresence, haccepted, hothers'⟩ :=
    State.lineDeparture_unmoved (s := s.reportedIn lines ports stations) hlt hx hboth hy
  obtain ⟨q, hnext, hreported⟩ := hexec _ _ ((if_neg Bool.false_ne_true).trans hunmoved) rfl rfl
    ((congrArg Presence.accepted hpresence).trans haccepted)
  exact ⟨_, hnext, hreported, hpresence, fun j hj => (hothers' j hj).trans (hothers j hj), rfl⟩

end

/-- O28: an accepted change that no unit is told of. -/
theorem acceptedChange_unreported {s : State} {i : Nat} {level : Level} (hreset : s.resetInput = false) (hlt : i < 16)
    (hnot : s.mode = .setup ∨ s.stationCount ≤ i ∨ (s.station i).source = .frame) :
    ∃ t, exec (.acceptedChange i level) s = .next t ∧
      t.presence i = { s.presence i with pin := level, accepted := level, filter := 0 } ∧
      (∀ j, j ≠ i → t.presence j = s.presence j) ∧ t = { s with lines := t.lines } := by
  have hreport : (s.accept i level).presenceReport i (s.present i) = (s.accept i level, none) := by
    obtain hsetup | hout | hframe := hnot
    · exact State.presenceReport_of_unreported (s := s.accept i level) (.inl hsetup)
    · exact State.presenceReport_of_unreported (s := s.accept i level) (.inr (.inl hout))
    · exact State.presenceReport_of_frame (s := s.accept i level) _ hframe
  refine ⟨s.accept i level, congrArg Host.Outcome.next ?_,
    State.presence_modPresence_self s i (fun x => { x with pin := level, accepted := level, filter := 0 }) hlt,
    fun j hj => tget_tset_ne _ _ _ _ _ hj, rfl⟩
  exact (s.whileWorking_of_working hreset _).trans (congrArg Prod.fst hreport)

section
variable {s : State} {h : Hdr} {i : Nat} (htakes : s.takes h .zone)
include htakes

/-- O28: a SET SENSE that changes the sense alone. -/
theorem setSense_unreported {x : Sense} (hlt : i < 16) (hi : i < s.stationCount) (hzone : s.inZone h.port i = true)
    (hnot : s.mode = .setup ∨ (s.station i).source = .frame ∨ x = (s.stationRec i).sense) :
    ∃ t, exec (.setSense h i (some x)) s = .next t ∧
      State.answered h 0x2B .done (.sense x ⟨(s.station i).state, none,
        decide (((s.presence i).accepted = .high) ↔ (x = .highPresent)), (s.presence i).window⟩) s t ∧
      t.stationRec i = { s.stationRec i with sense := x } ∧ (∀ j, j ≠ i → t.stationRec j = s.stationRec j) ∧
      t = { s with ports := t.ports, layout := { s.layout with stations := t.layout.stations } } := by
  obtain ⟨hlistens, hgrants, hlen⟩ := htakes
  have hrec : (s.writeSense i x).stationRec i = { s.stationRec i with sense := x } := tget_tset_self _ _ _ _ hlt
  have hpresent : (s.writeSense i x).present i = decide ((s.presence i).accepted = .high ↔ x = .highPresent) := by
    rw [State.present_eq_decide, hrec]
    rfl
  have hreport : (s.writeSense i x).presenceReport i (s.present i) = (s.writeSense i x, none) := by
    obtain hsetup | hframe | hsame := hnot
    · exact State.presenceReport_of_unreported (s := s.writeSense i x) (.inl hsetup)
    · exact State.presenceReport_of_frame (s := s.writeSense i x) _ hframe
    · refine State.presenceReport_of_unreported (s := s.writeSense i x) (.inr (.inr ?_))
      rw [hpresent, hsame, State.present_eq_decide]
  have hport : ((s.goodFrameOn h.port.val).writeSense i x).presenceReport i ((s.goodFrameOn h.port.val).present i) =
      ((s.goodFrameOn h.port.val).writeSense i x, none) := by
    obtain hsetup | hframe | hsame := hnot
    · exact State.presenceReport_of_unreported (s := (s.goodFrameOn h.port.val).writeSense i x) (.inl hsetup)
    · exact State.presenceReport_of_frame (s := (s.goodFrameOn h.port.val).writeSense i x) _ hframe
    · refine State.presenceReport_of_unreported (s := (s.goodFrameOn h.port.val).writeSense i x) (.inr (.inr ?_))
      refine hpresent.trans ?_
      rw [hsame]
      exact (State.present_eq_decide (s := s) i).symm
  have hblock := State.setSenseBlock_of_report (s := s.goodFrameOn h.port.val) hlen hi hzone hport
  have hview : ((s.goodFrameOn h.port.val).writeSense i x).reportView i none =
      ⟨(s.station i).state, none, decide ((s.presence i).accepted = .high ↔ x = .highPresent), (s.presence i).window⟩ := by
    refine Eq.trans ?_ (congrArg (fun p => ReportView.mk (s.station i).state none p (s.presence i).window) hpresent)
    rfl
  rw [hview] at hblock
  obtain ⟨hexec, hanswered⟩ := s.exec_request_of_block (i := .setSense h i (some x)) rfl hlistens hgrants hblock rfl
  exact ⟨_, hexec, hanswered, hrec, fun j hj => tget_tset_ne _ _ _ _ _ hj, rfl⟩

/-- O28: the refusals of SET SENSE. -/
theorem setSense_refused {c : Code} {x : Option Sense}
    (hc : s.stationCount ≤ i ∧ c = .range ∨ i < s.stationCount ∧ s.inZone h.port i = false ∧ c = .role ∨
      i < s.stationCount ∧ s.inZone h.port i = true ∧ x = none ∧ c = .range) :
    ∃ t, exec (.setSense h i x) s = .next t ∧ State.answered h 0x2B c .nothing s t ∧ t = { s with ports := t.ports } := by
  obtain ⟨hlistens, hgrants, hlen⟩ := htakes
  refine s.exec_request_of_block_unchanged (i := .setSense h i x) rfl hlistens hgrants ?_
  change setSenseBlock h i x (s.goodFrameOn h.port.val) = ⟨s.goodFrameOn h.port.val, c, .nothing⟩
  have hcount : (s.goodFrameOn h.port.val).stationCount = s.stationCount := rfl
  have hin : (s.goodFrameOn h.port.val).inZone h.port i = s.inZone h.port i := rfl
  unfold setSenseBlock
  rw [hcount, hin]
  obtain ⟨hout, rfl⟩ | ⟨hi, hzone, rfl⟩ | ⟨hi, hzone, rfl, rfl⟩ := hc
  · exact if_pos (.inr hout)
  · rw [if_neg (by simp [hlen, hi]), if_pos hzone]
    rfl
  · rw [if_neg (by simp [hlen, hi]), if_neg (by simp [hzone])]
    rfl

end

/-- Settles O28: the report of either command, by the arrival source of its station. -/
theorem presenceChangesAreReportedBySource : Obligations.PresenceChangesAreReportedBySource := by
  refine ⟨fun s i cmd x hrun hlt hi => ⟨fun hreports => ⟨fun tag y hy => ⟨?_, ?_, ?_⟩, ?_⟩, fun hreports => ⟨?_, ?_⟩⟩, ?_, ?_⟩
  · exact fun b hempty hhold hexpected hb htag hfrom =>
      lineArrival_taken hrun hlt hi hreports hy hempty hhold hexpected hb htag hfrom
  · exact fun c hempty hc => lineArrival_faulted hrun hlt hi hreports hy hempty hc
  · exact lineArrival_ignored hrun hlt hi hreports hy
  · exact lineArrival_openLine hrun hlt hi hreports
  · exact fun b y hstate hk hb hmore hy => lineDeparture_complete hrun hlt hi hreports hstate hk hb hmore hy
  · exact fun hboth y hy => lineDeparture_nothing hrun hlt hi hreports hboth hy
  · exact fun s i level hreset hlt hnot => acceptedChange_unreported hreset hlt hnot
  · exact fun s h i htakes hcount =>
      ⟨fun x hi hzone hnot => setSense_unreported htakes (hi.trans_le hcount) hi hzone hnot, fun c x hc => setSense_refused htakes hc⟩

end Machine
end Sys2Proof
end

section
/-!
SUPPORT. Replies on a drop bus (R161): the end of a transaction and the taking of its reply; SLOT REPORT (O46).
-/
namespace Sys2Proof
namespace Machine

/-- Writing an entry as it stands changes nothing. -/
theorem tset_tget_self {α : Type} {n : Nat} (d : α) (v : Vector α n) (i : Nat) : tset v i (tget d v i) = v := by
  by_cases hi : i < n
  · ext k hk
    simp only [tset, Vector.getElem_setIfInBounds]
    split
    · next h =>
      subst h
      exact tget_eq d v i hi
    · rfl
  · exact tset_of_ge _ _ _ (Nat.le_of_not_lt hi)

/-- An event on a module whose RESET input is not asserted. -/
theorem exec_event_of_working {i : Instr} (hr : requestOf i = none) (hi : isResetOrSent i = false) {s : State}
    (hreset : s.resetInput = false) : exec i s = .next (eventBlock i s) := by
  rw [exec_of_event hr hi, s.whileWorking_of_working hreset]

namespace State

variable {s : State} {b : Fin 4} {o : OnBus} {r : Nat}

/-! ### The end of a transaction (R160, R161) -/

theorem bus_endTx_self (s : State) (b : Fin 4) : (s.endTx b.val).bus b.val = { s.bus b.val with cur := none } :=
  tget_tset_self _ _ _ _ b.isLt

theorem bus_endTx_ne (s : State) {b c : Nat} (hc : c ≠ b) : (s.endTx b).bus c = s.bus c := tget_tset_ne _ _ _ _ _ hc

/-- A reply that fits ends its transaction and is taken. -/
theorem takeReply_of_fits {fits : OnBus → Bool} (take : OnBus → State → State) (hcur : (s.bus b.val).cur = some o)
    (hfits : fits o = true) (hpoll : o.tx.req ≠ .poll) :
    s.takeReply b o.drop fits take = take o (s.endTx b.val) := by
  simp only [takeReply, hcur, hfits, and_self, if_true, if_neg hpoll]

theorem takeReply_of_poll {fits : OnBus → Bool} (take : OnBus → State → State) (hcur : (s.bus b.val).cur = some o)
    (hfits : fits o = true) (hpoll : o.tx.req = .poll) :
    s.takeReply b o.drop fits take = take o ((s.endTx b.val).restartPoll o.robot) := by
  simp only [takeReply, hcur, hfits, and_self, if_true, if_pos hpoll]

/-! ### Slots (R112, R114) -/

theorem slot_setSlot_self (hr : r < 32) {i : Nat} (hi : i < 8) (c : SlotContent) :
    ((s.setSlot r i c).robot r).slot i =
      ⟨c, if c = .empty ∨ c = .unknown then 0 else ((s.robot r).slot i).lastUse⟩ := by
  have hrobot : (s.setSlot r i c).robot r = (s.robot r).modSlot i fun x =>
      { content := c, lastUse := if c = .empty ∨ c = .unknown then 0 else x.lastUse } := tget_tset_self _ _ _ _ hr
  rw [hrobot]
  exact tget_tset_self _ _ _ _ hi

theorem slot_setSlot_ne {i j : Nat} (hj : j ≠ i) (c : SlotContent) : ((s.setSlot r i c).robot r).slot j = (s.robot r).slot j := by
  by_cases hr : r < 32
  · have hrobot : (s.setSlot r i c).robot r = (s.robot r).modSlot i fun x =>
        { content := c, lastUse := if c = .empty ∨ c = .unknown then 0 else x.lastUse } := tget_tset_self _ _ _ _ hr
    rw [hrobot]
    exact tget_tset_ne _ _ _ _ _ hj
  · rw [setSlot, modRobot, robot, robot, tset_of_ge _ _ _ (Nat.le_of_not_lt hr)]

/-- A slot's content set changes the slots of the robot alone. -/
theorem setSlot_eq (s : State) (r i : Nat) (c : SlotContent) :
    s.setSlot r i c = { s with
      robots := tset s.robots r { s.robot r with
        slots := tset (s.robot r).slots i ⟨c, if c = .empty ∨ c = .unknown then 0 else ((s.robot r).slot i).lastUse⟩ } } := rfl

/-- The state an UNKNOWN slot takes from its record, by the program the library holds READY (R114). -/
theorem classify_eq (s : State) (x : SlotRecord) :
    s.classify x = if x.program = 0xFFFF#16 then .empty
      else if (s.ready x.program.toNat).map (·.1) = some x.stamp then .valid x.program.toNat x.stamp
      else .stale x.program.toNat x.stamp := by
  unfold classify
  split
  · rfl
  · cases s.ready x.program.toNat with
    | none => rfl
    | some p => simp

/-- The slot that a record classifies, where it is UNKNOWN (R114). -/
def classifiedSlot (s : State) (x : SlotRecord) (y : Slot) : Slot :=
  if y.content = .unknown then ⟨s.classify x, if s.classify x = .empty ∨ s.classify x = .unknown then 0 else y.lastUse⟩ else y

theorem classifiedSlot_eq (s : State) (x : SlotRecord) (y : Slot) :
    s.classifiedSlot x y =
      if y.content = .unknown then
        (if x.program = 0xFFFF#16 then ⟨.empty, 0⟩
        else ⟨if (s.ready x.program.toNat).map (·.1) = some x.stamp then .valid x.program.toNat x.stamp
          else .stale x.program.toNat x.stamp, y.lastUse⟩)
      else y := by
  unfold classifiedSlot
  rw [classify_eq]
  split_ifs <;> simp_all

/-- The classification of one slot. -/
def classifySlot (r i : Nat) (x : SlotRecord) (s : State) : State :=
  if ((s.robot r).slot i).content = .unknown then s.setSlot r i (s.classify x) else s

theorem classifyFrom_cons (i : Nat) (x : SlotRecord) (rest : List SlotRecord) :
    s.classifyFrom r i (x :: rest) = (s.classifySlot r i x).classifyFrom r (i + 1) rest := rfl

theorem slot_classifySlot_self (hr : r < 32) {i : Nat} (hi : i < 8) (x : SlotRecord) :
    ((s.classifySlot r i x).robot r).slot i = s.classifiedSlot x ((s.robot r).slot i) := by
  unfold classifySlot classifiedSlot
  split
  · exact slot_setSlot_self hr hi _
  · rfl

theorem slot_classifySlot_ne {i j : Nat} (hj : j ≠ i) (x : SlotRecord) :
    ((s.classifySlot r i x).robot r).slot j = (s.robot r).slot j := by
  unfold classifySlot
  split
  · exact slot_setSlot_ne hj _
  · rfl

/-- The slots changed, the library stays as it is: what a record makes of a slot is known ahead of the others. -/
theorem classifiedSlot_classifySlot (i : Nat) (x y : SlotRecord) : (s.classifySlot r i x).classifiedSlot y = s.classifiedSlot y := by
  unfold classifySlot
  split <;> rfl

theorem slot_classifyFrom_of_not {i j : Nat} (records : List SlotRecord) (hj : j < i ∨ i + records.length ≤ j) :
    ((s.classifyFrom r i records).robot r).slot j = (s.robot r).slot j := by
  induction records generalizing s i with
  | nil => rfl
  | cons x rest ih =>
    have hlen : (x :: rest).length = rest.length + 1 := rfl
    rw [classifyFrom_cons, ih (by omega), slot_classifySlot_ne (by omega)]

theorem slot_classifyFrom (hr : r < 32) {i n : Nat} {records : List SlotRecord} (hlen : i + records.length ≤ 8) {x : SlotRecord}
    (hx : records[n]? = some x) :
    ((s.classifyFrom r i records).robot r).slot (i + n) = s.classifiedSlot x ((s.robot r).slot (i + n)) := by
  induction records generalizing s i n with
  | nil => simp at hx
  | cons y rest ih =>
    have hlen' : i + (rest.length + 1) ≤ 8 := hlen
    rw [classifyFrom_cons]
    cases n with
    | zero =>
      cases hx
      rw [slot_classifyFrom_of_not _ (.inl (by omega)), Nat.add_zero, slot_classifySlot_self hr (by omega)]
    | succ n =>
      have hrest := ih (s := s.classifySlot r i y) (i := i + 1) (n := n) (by omega) hx
      rw [Nat.succ_add_eq_add_succ i n] at hrest
      rw [hrest, classifiedSlot_classifySlot, slot_classifySlot_ne (by omega)]

/-- A robot's slots replaced. -/
def withSlots (r : Nat) (slots : Vector Slot 8) (s : State) : State :=
  { s with robots := tset s.robots r { s.robot r with slots := slots } }

theorem withSlots_withSlots (x y : Vector Slot 8) : (s.withSlots r x).withSlots r y = s.withSlots r y := by
  unfold withSlots robot
  rw [tset_tset]
  by_cases hr : r < 32
  · rw [tget_tset_self _ _ _ _ hr]
  · simp only [tset_of_ge _ _ _ (Nat.le_of_not_lt hr)]

theorem withSlots_self : s.withSlots r (s.robot r).slots = s := by
  exact congrArg (fun v => { s with robots := v }) (tset_tget_self _ _ _)

/-- A SLOT REPORT changes the slots of its robot alone. -/
theorem classifyFrom_eq (i : Nat) (records : List SlotRecord) : ∃ slots, s.classifyFrom r i records = s.withSlots r slots := by
  induction records generalizing s i with
  | nil => exact ⟨_, withSlots_self.symm⟩
  | cons x rest ih =>
    obtain ⟨slots, hone⟩ : ∃ slots, s.classifySlot r i x = s.withSlots r slots := by
      unfold classifySlot
      split
      · exact ⟨_, setSlot_eq _ _ _ _⟩
      · exact ⟨_, withSlots_self.symm⟩
    rw [classifyFrom_cons, hone]
    obtain ⟨slots', hrest⟩ := ih (s := s.withSlots r slots) (i + 1)
    exact ⟨slots', hrest.trans (withSlots_withSlots _ _)⟩

end State

/-- Settles O46: the report is taken, each of its records classifying its slot. -/
theorem slotReportClassifiesUnknownSlots : Obligations.SlotReportClassifiesUnknownSlots := by
  intro s b o n r records hreset hr hcur hrobot hreq hlen
  subst hrobot
  have hexec : exec (.slotReport b o.drop records) s =
      .next ((State.classifyFrom o.robot 0 records (s.endTx b.val)).oweSlot o.robot) := by
    rw [exec_event_of_working rfl rfl hreset]
    refine congrArg Host.Outcome.next (State.takeReply_of_fits (taking (.slotReport b o.drop records)) hcur ?_ (by simp [hreq]))
    simp [hreq, hlen]
  obtain ⟨slots, heq⟩ := State.classifyFrom_eq (s := s.endTx b.val) (r := o.robot) 0 records
  have hcount : 0 + records.length ≤ 8 := by
    rw [hlen, Nat.zero_add]
    exact Nat.min_le_right _ _
  have hself : (State.classifyFrom o.robot 0 records (s.endTx b.val)).robot o.robot = { s.robot o.robot with slots := slots } := by
    rw [heq]
    exact tget_tset_self _ _ _ _ hr
  refine ⟨_, hexec, fun i x hx => ?_, fun i hi => State.slot_classifyFrom_of_not records (.inr ((Nat.zero_add _).trans_le hi)), ?_,
    fun q hq => ?_, ?_, fun c hc => ?_, ?_⟩
  · have hslot := State.slot_classifyFrom (s := s.endTx b.val) hr hcount hx
    rw [State.classifiedSlot_eq, Nat.zero_add] at hslot
    exact hslot
  · have hslots := congrArg Robot.slots hself
    exact hself.trans (congrArg (fun z => { s.robot o.robot with slots := z }) hslots.symm)
  · change (State.classifyFrom o.robot 0 records (s.endTx b.val)).robot q = _
    rw [heq]
    exact tget_tset_ne _ _ _ _ _ hq
  · change (State.classifyFrom o.robot 0 records (s.endTx b.val)).bus b.val = _
    rw [heq]
    exact State.bus_endTx_self s b
  · change (State.classifyFrom o.robot 0 records (s.endTx b.val)).bus c = _
    rw [heq]
    exact State.bus_endTx_ne s hc
  · rw [heq]
    rfl

end Machine
end Sys2Proof
end

section
/-!
SUPPORT. The arbiter (R164, R167, R168): what is eligible, and the choice among it (O44).
-/
namespace Sys2Proof
namespace Machine

/-- In a list with ascending keys, the first entry a search takes is the one with the least key that it takes at all. -/
theorem findSome?_of_ascending {α β : Type} {key : α → Nat} {l : List α} (hl : l.Pairwise fun x y => key x < key y)
    {f : α → Option β} {y : β} (h : l.findSome? f = some y) :
    ∃ x ∈ l, f x = some y ∧ ∀ z ∈ l, key z < key x → f z = none := by
  obtain ⟨front, x, back, rfl, hx, hfront⟩ := List.findSome?_eq_some_iff.mp h
  refine ⟨x, by simp, hx, fun z hz hlt => ?_⟩
  obtain ⟨-, hback, -⟩ := List.pairwise_append.mp hl
  obtain hz | hz := List.mem_append.mp hz
  · exact hfront z hz
  · obtain rfl | hz := List.mem_cons.mp hz
    · omega
    · have := (List.pairwise_cons.mp hback).1 z hz
      omega

namespace State

variable {s : State} {b : Fin 4} {c : TxClass} {r drop : Nat} {tx : Tx}

/-! ### Eligible transactions (R164, R167, R168) -/

theorem lt_of_place {p : RobotRec} (hp : s.place r = some p) : r < 32 := by
  by_contra hr
  have hnone : s.place r = none := by
    rw [place, Layout.robotRec, tget_of_ge _ _ _ (Nat.le_of_not_lt hr)]
    rfl
  cases hnone.symm.trans hp

theorem pendingTx_eq_some_iff : s.pendingTx r c = some tx ↔
    c = .abort ∧ (s.pendOf r).abort = some tx ∨ c = .select ∧ (s.pendOf r).select = some tx ∨
      c = .poll ∧ (s.pendOf r).poll = some tx ∨ c = .query ∧ (s.pendOf r).query = some tx ∨
      c = .load ∧ (s.stage r).channel.head? = some tx := by
  cases c <;> simp [pendingTx]

theorem isLoadData_eq_true_iff (req : DropRequest) :
    isLoadData req = true ↔ ∃ seq slot first points, req = .loadData seq slot first points := by
  cases req <;> simp [isLoadData]

theorem heldByPace_eq_false_iff : s.heldByPace b.val tx = false ↔
    ((∃ seq slot first points, tx.req = .loadData seq slot first points) → (s.busRec b.val).pacing = .paced →
      (s.busRec b.val).interval ≤ (s.bus b.val).pace) := by
  have htimer : s.paceTimer b.val = (s.busRec b.val).interval ↔ (s.busRec b.val).interval ≤ (s.bus b.val).pace := by
    rw [paceTimer]
    omega
  rw [← isLoadData_eq_true_iff, ← htimer]
  simp only [heldByPace, Bool.and_eq_false_iff, beq_eq_false_iff_ne, bne_eq_false_iff_eq]
  cases isLoadData tx.req <;> simp [or_iff_not_imp_left]

theorem eligibleTx_eq_some_iff : s.eligibleTx b c r = some (drop, tx) ↔
    (∃ p, s.place r = some p ∧ p.bus = b ∧ p.drop = drop) ∧ s.pendingTx r c = some tx ∧ s.heldByPace b.val tx = false := by
  unfold eligibleTx
  cases s.place r with
  | none => simp
  | some p =>
    cases s.pendingTx r c with
    | none => simp
    | some tx' =>
      simp only [Option.ite_none_right_eq_some, Option.ite_none_left_eq_some, Option.some.injEq, Prod.mk.injEq,
        Bool.not_eq_true, exists_eq_left']
      constructor
      · rintro ⟨hbus, hpace, hdrop, rfl⟩
        exact ⟨⟨hbus, hdrop⟩, rfl, hpace⟩
      · rintro ⟨⟨hbus, hdrop⟩, rfl, hpace⟩
        exact ⟨hbus, hpace, hdrop, rfl⟩

theorem exists_eligibleTx (h : s.eligibleTx b c r ≠ none) : ∃ drop tx, s.eligibleTx b c r = some (drop, tx) := by
  obtain ⟨⟨drop, tx⟩, h⟩ := Option.ne_none_iff_exists'.mp h
  exact ⟨drop, tx, h⟩

/-! ### The next robot of a class (R167, step 2) -/

/-- How far a drop address lies behind the pointer of a class, counting upward and wrapping. -/
def turnOf (s : State) (b : Fin 4) (c : TxClass) (drop : Nat) : Nat :=
  (drop + 7 - tget 7 (s.bus b.val).pointers (classIndex c) % 8) % 8

theorem turnOf_eq {ptr d drop : Nat} (hd : d < 8) (hdrop : drop = (ptr + 1 + d) % 8) : (drop + 7 - ptr % 8) % 8 = d := by omega

theorem eq_of_turnOf {ptr drop : Nat} (hdrop : drop < 8) : drop = (ptr + 1 + (drop + 7 - ptr % 8) % 8) % 8 := by omega

/-- The search for the robot of a class at the `d`-th drop address after its pointer. -/
def atTurn (s : State) (b : Fin 4) (c : TxClass) (d : Nat) : Option (Nat × Nat × Tx) :=
  (List.range 32).findSome? fun r =>
    match s.eligibleTx b c r with
    | some (drop, tx) => if drop = (tget 7 (s.bus b.val).pointers (classIndex c) + 1 + d) % 8 then some (r, drop, tx) else none
    | none => none

theorem nextOfClass_eq : s.nextOfClass b c = (List.range 8).findSome? (s.atTurn b c) := rfl

theorem eligible_of_atTurn {d : Nat} (h : s.atTurn b c d = some (r, drop, tx)) (hd : d < 8) :
    s.eligibleTx b c r = some (drop, tx) ∧ s.turnOf b c drop = d := by
  obtain ⟨q, -, hq⟩ := List.exists_of_findSome?_eq_some h
  split at hq
  · next drop' tx' heligible =>
    obtain ⟨hdrop, hsame⟩ := Option.ite_none_right_eq_some.mp hq
    cases hsame
    exact ⟨heligible, turnOf_eq hd hdrop⟩
  · cases hq

theorem atTurn_ne_none (hrange : ∀ r p, s.place r = some p → p.drop < 8) (h : s.eligibleTx b c r = some (drop, tx)) :
    s.atTurn b c (s.turnOf b c drop) ≠ none := by
  obtain ⟨⟨p, hplace, -, rfl⟩, -⟩ := eligibleTx_eq_some_iff.mp h
  intro hnone
  have hr := List.findSome?_eq_none_iff.mp hnone r (List.mem_range.mpr (lt_of_place hplace))
  simp only [h] at hr
  exact Option.some_ne_none _ ((if_pos (eq_of_turnOf (hrange r p hplace))).symm.trans hr)

theorem turnOf_lt : s.turnOf b c drop < 8 := Nat.mod_lt _ (by omega)

theorem nextOfClass_eq_none_iff (hrange : ∀ r p, s.place r = some p → p.drop < 8) :
    s.nextOfClass b c = none ↔ ∀ r, s.eligibleTx b c r = none := by
  rw [nextOfClass_eq, List.findSome?_eq_none_iff]
  constructor
  · intro hnone r
    by_contra hr
    obtain ⟨drop, tx, h⟩ := exists_eligibleTx hr
    exact atTurn_ne_none hrange h (hnone _ (List.mem_range.mpr turnOf_lt))
  · intro hnone d hd
    by_contra h
    obtain ⟨⟨r, drop, tx⟩, h⟩ := Option.ne_none_iff_exists'.mp h
    cases (hnone r).symm.trans (eligible_of_atTurn h (List.mem_range.mp hd)).1

theorem nextOfClass_eq_some (hrange : ∀ r p, s.place r = some p → p.drop < 8) (h : s.nextOfClass b c = some (r, drop, tx)) :
    s.eligibleTx b c r = some (drop, tx) ∧
      ∀ r' drop' tx', s.eligibleTx b c r' = some (drop', tx') → s.turnOf b c drop ≤ s.turnOf b c drop' := by
  obtain ⟨d, hd, hturn, hleast⟩ := findSome?_of_ascending (key := id) List.pairwise_lt_range (nextOfClass_eq ▸ h)
  obtain ⟨heligible, rfl⟩ := eligible_of_atTurn hturn (List.mem_range.mp hd)
  refine ⟨heligible, fun r' drop' tx' h' => ?_⟩
  by_contra hlt
  exact atTurn_ne_none hrange h' (hleast _ (List.mem_range.mpr turnOf_lt) (Nat.lt_of_not_le hlt))

/-! ### The arbiter's choice -/

theorem classes_ascending : classes.Pairwise fun x y => classIndex x < classIndex y := by decide

theorem mem_classes (c : TxClass) : c ∈ classes := by cases c <;> decide

theorem cls_of_pendingTx (hinv : s.pendInv) (h : s.pendingTx r c = some tx) : tx.cls = c := by
  obtain ⟨habort, hselect, hpoll, hquery, hload⟩ := hinv r
  cases c with
  | abort => exact habort tx h
  | select => exact hselect tx h
  | poll => exact hpoll tx h
  | query => exact hquery tx h
  | load => exact hload tx (List.mem_of_mem_head? h)

theorem arbiterPick_eq_none (h : ∀ c r, s.eligibleTx b c r = none) (hrange : ∀ r p, s.place r = some p → p.drop < 8) :
    s.arbiterPick b = none :=
  List.findSome?_eq_none_iff.mpr fun c _ => (nextOfClass_eq_none_iff hrange).mpr (h c)

/-- What the arbiter picks: of the highest class with something eligible, the first robot after the pointer (R167). -/
theorem arbiterPick_eq_some (hinv : s.pendInv) (hrange : ∀ r p, s.place r = some p → p.drop < 8)
    (hsome : ∃ c r, s.eligibleTx b c r ≠ none) :
    ∃ r drop tx, s.arbiterPick b = some (r, drop, tx) ∧ s.eligibleTx b tx.cls r = some (drop, tx) ∧
      (∀ c r, classIndex c < classIndex tx.cls → s.eligibleTx b c r = none) ∧
      ∀ r' drop' tx', s.eligibleTx b tx.cls r' = some (drop', tx') → s.turnOf b tx.cls drop ≤ s.turnOf b tx.cls drop' := by
  obtain ⟨c, r, hsome⟩ := hsome
  have hpick : s.arbiterPick b ≠ none := fun hnone =>
    hsome ((nextOfClass_eq_none_iff hrange).mp (List.findSome?_eq_none_iff.mp hnone c (mem_classes c)) r)
  obtain ⟨⟨r, drop, tx⟩, hpick⟩ := Option.ne_none_iff_exists'.mp hpick
  obtain ⟨c, -, hnext, hhighest⟩ := findSome?_of_ascending classes_ascending hpick
  obtain ⟨heligible, hfirst⟩ := nextOfClass_eq_some hrange hnext
  obtain rfl := cls_of_pendingTx hinv (eligibleTx_eq_some_iff.mp heligible).2.1
  exact ⟨r, drop, tx, hpick, heligible,
    fun c r hc => (nextOfClass_eq_none_iff hrange).mp (hhighest c (mem_classes c) hc) r, hfirst⟩

/-- Taking a transaction of class `c` leaves the robot's other ones, and every other robot's. -/
theorem takePending_spec (hr : r < 32) (c : TxClass) :
    (∀ c', c' ≠ c → (s.takePending r c).pendingTx r c' = s.pendingTx r c') ∧
      (c ≠ .load → (s.takePending r c).pendingTx r c = none) ∧
      (c = .load → ((s.takePending r c).stage r).channel = (s.stage r).channel.tail) ∧
      (∀ q, q ≠ r → (s.takePending r c).pendOf q = s.pendOf q ∧ (s.takePending r c).stage q = s.stage q) ∧
      s.takePending r c = { s with pend := (s.takePending r c).pend, staging := (s.takePending r c).staging } := by
  have hother (f : Pend → Pend) : ∀ q, q ≠ r → (s.modPend r f).pendOf q = s.pendOf q ∧ (s.modPend r f).stage q = s.stage q :=
    fun q hq => ⟨tget_tset_ne _ _ _ _ _ hq, rfl⟩
  have hself (f : Pend → Pend) : (s.modPend r f).pendOf r = f (s.pendOf r) := tget_tset_self _ _ _ _ hr
  cases c with
  | load =>
    have hchannel : ((s.takePending r .load).stage r).channel = (s.stage r).channel.tail :=
      congrArg Staging.channel (stage_modStage_self s r (fun g => { g with channel := g.channel.tail }) hr)
    refine ⟨fun c' hc' => ?_, fun h => absurd rfl h, fun _ => hchannel, fun q hq => ⟨rfl, tget_tset_ne _ _ _ _ _ hq⟩, rfl⟩
    cases c' with
    | load => exact absurd rfl hc'
    | abort | select | poll | query => rfl
  | abort | select | poll | query =>
    refine ⟨fun c' hc' => ?_, fun _ => ?_, nofun, hother _, rfl⟩
    · cases c' <;> simp only [takePending, pendingTx, hself, staging_modPend, stage, ne_eq, not_true_eq_false] at hc' ⊢
    · simp only [takePending, pendingTx, hself]

end State

/-- Settles O44: what is eligible, by its definition; and the choice, of the highest class and the first turn. -/
theorem arbiterServesHighestClassInTurn : Obligations.ArbiterServesHighestClassInTurn := by
  refine ⟨fun s b c r drop tx => ?_, fun s b hreset hidle hinv hrange => ⟨fun hnone => ?_, fun hsome => ?_⟩⟩
  · rw [State.eligibleTx_eq_some_iff, State.pendingTx_eq_some_iff, State.heldByPace_eq_false_iff]
  · rw [exec_event_of_working rfl rfl hreset]
    refine congrArg Host.Outcome.next ?_
    simp only [eventBlock, State.arbitrate, hidle, Option.isSome_none, Bool.false_eq_true, if_false,
      State.arbiterPick_eq_none hnone hrange]
  · obtain ⟨r, drop, tx, hpick, heligible, hhighest, hfirst⟩ := State.arbiterPick_eq_some hinv hrange hsome
    obtain ⟨⟨p, hplace, -⟩, -⟩ := State.eligibleTx_eq_some_iff.mp heligible
    obtain ⟨hkept, htaken, hload, hothers, hframe⟩ := State.takePending_spec (s := s) (State.lt_of_place hplace) tx.cls
    generalize hv : s.takePending r tx.cls = v at hkept htaken hload hothers hframe
    have hbus : v.bus b.val = s.bus b.val := by
      rw [hframe]
      rfl
    have harbitrate : s.arbitrate b = { v with
        buses := tset v.buses b.val ⟨some ⟨r, drop, tx, 1, 0⟩, tset (s.bus b.val).pointers (State.classIndex tx.cls) drop,
          if State.isLoadData tx.req then 0 else (s.bus b.val).pace⟩ } := by
      simp only [State.arbitrate, hidle, Option.isSome_none, Bool.false_eq_true, if_false, hpick, hv, State.putOnBus]
      rw [State.modBus_modBus, ← hbus]
      · rfl
      · exact b.isLt
    refine ⟨_, (exec_event_of_working rfl rfl hreset).trans (congrArg Host.Outcome.next harbitrate), ⟨r, drop, tx, 1, 0⟩,
      congrArg Bus.cur (tget_tset_self _ _ _ _ b.isLt), rfl, rfl, heligible, hhighest, hfirst, tget_tset_self _ _ _ _ b.isLt,
      fun c hc => (tget_tset_ne _ _ _ _ _ hc).trans ?_, hkept, htaken, hload, hothers, ?_⟩
    · rw [hframe]
      rfl
    · rw [hframe]

end Machine
end Sys2Proof
end

section
/-!
SUPPORT. A robot's return to IDLE, and the end and the cancel of a load, as records (R111, R130, R141); TRACK RESET (R187, O51).
-/
namespace Sys2Proof
namespace Machine
namespace State

variable {s : State} {r : Nat}

/-! ### A robot's return to IDLE (R111) -/

/-- The robot, back in IDLE (R111). -/
def idleRobot (b : Robot) : Robot := { b with motion := .idle, busy := none, pollTimer := 0 }

/-- A robot's return to IDLE, where R121 has nothing to skip. -/
theorem enterIdle_eq (hr : r < 32)
    (hkept : (s.robot r).enabled = true ∨ ∀ i, s.stationOf r = some i → s.owed i r = false) :
    s.enterIdle r = { s with robots := tset s.robots r (idleRobot (s.robot r)), due := s.due ++ [.recompute r, .selection r] } := by
  have hrobot : (s.modRobot r idleRobot).robot r = idleRobot (s.robot r) := robot_modRobot_self _ _ _ hr
  have hskip : (s.modRobot r idleRobot).skipDisabled r = s.modRobot r idleRobot := by
    cases hstation : s.stationOf r with
    | none =>
      have hstation' : (s.modRobot r idleRobot).stationOf r = none := hstation
      simp only [skipDisabled, hstation']
    | some i =>
      refine skipDisabled_of_not (i := i) hstation fun ⟨hdisabled, _, howed⟩ => ?_
      have howed' : s.owed i r = true := howed
      rw [hrobot] at hdisabled
      obtain henabled | hunowed := hkept
      · cases henabled.symm.trans hdisabled
      · cases howed'.symm.trans (hunowed i hstation)
  change ((s.modRobot r idleRobot).skipDisabled r).oweSlot r = _
  rw [hskip]
  rfl

/-! ### The end of a load, and its cancel (R130, R141) -/

/-- A program's entry with one reference less. -/
def unreferenced (p : Prog) : Prog := { p with refs := p.refs - 1 }

/-- The robot's staging with its load ended (R141). -/
def unloaded (g : Staging) : Staging := { g with load := none, jobs := g.jobs.map fun j => { j with active := false } }

theorem endLoad_of_none (hload : (s.stage r).load = none) : s.endLoad r = s := by simp only [endLoad, hload]

theorem endLoad_of_some {l : Load} (hload : (s.stage r).load = some l) :
    s.endLoad r =
      { s with
        library := { s.library with progs := tset s.library.progs l.program (unreferenced (s.prog l.program)) }
        staging := tset s.staging r (unloaded (s.stage r)) } := by
  simp only [endLoad, hload]
  rfl

/-- The channel of a load cancelled: its unsent transactions withdrawn, and a LOAD CANCEL at its end (R130). -/
def cancelledChannel (s : State) (l : Load) (g : Staging) : List Tx :=
  (g.channel.filter fun tx => tx.req.loadSeq != some l.seq) ++ [s.newTx .load (.loadCancel l.slot)]

theorem cancelLoad_of_none (hload : (s.stage r).load = none) : s.cancelLoad r = s := by simp only [cancelLoad, hload]

theorem cancelLoad_of_some (hr : r < 32) {l : Load} (hload : (s.stage r).load = some l) :
    s.cancelLoad r =
      { s with
        library := { s.library with progs := tset s.library.progs l.program (unreferenced (s.prog l.program)) }
        robots := tset s.robots r { s.robot r with slots := tset (s.robot r).slots l.slot ⟨.empty, 0⟩ }
        staging := tset s.staging r { unloaded (s.stage r) with channel := s.cancelledChannel l (s.stage r) }
        due := s.due ++ [.recompute r, .selection r] } := by
  have hstage : tget Staging.reset (tset s.staging r (unloaded (s.stage r))) r = unloaded (s.stage r) := tget_tset_self _ _ _ _ hr
  simp only [cancelLoad, hload]
  rw [endLoad_of_some hload]
  refine (eq_iff_fields _ _).mpr ⟨rfl, rfl, rfl, rfl, rfl, rfl, rfl, rfl, rfl, rfl, rfl, rfl, rfl, rfl, rfl, rfl, rfl, ?_, rfl, rfl,
    rfl, rfl⟩
  refine (tset_tset _ _ _ _).trans ?_
  exact congrArg (fun g => tset s.staging r { g with channel := s.cancelledChannel l g }) hstage

end State
end Machine
end Sys2Proof
end

section
/-!
SUPPORT. TRACK RESET robot by robot (R125, R143, R157, R170, R187): O51.
-/
namespace Sys2Proof
namespace Machine
namespace State

variable {s t : State} {r : Nat}

/-! ### The selection and the load of one robot -/

/-- The motion state as TRACK RESET leaves it (R125). -/
def resetMotion : Motion → Motion
  | .selecting _ => .idle
  | .selected sel => .aborting sel
  | .welding sel => .aborting sel
  | m => m

/-- A BUSY wait ends with the selection (R125, R150). -/
def resetBusy (m : Motion) (w : Option BusyWait) : Option BusyWait :=
  match m with
  | .selecting _ => none
  | .selected _ => none
  | .welding _ => none
  | _ => w

/-- The pending transactions: the SELECT withdrawn, and an ABORT queued for a SELECTED or WELDING robot (R125). -/
def resetPend (line : LineRec) (b : Robot) (p : Pend) : Pend :=
  match b.motion with
  | .selecting _ => { p with select := none }
  | .selected sel => { p with
      select := none
      abort := some ⟨.abort, .abort sel.slot b.dispatch false, line.replyTimeout, line.retryLimit⟩ }
  | .welding sel => { p with
      select := none
      abort := some ⟨.abort, .abort sel.slot b.dispatch false, line.replyTimeout, line.retryLimit⟩ }
  | _ => p

/-- The events a selection that ends owes (R128, R146). -/
def selectionDue (r : Nat) (m : Motion) : List Due :=
  match m with
  | .selecting _ => [.recompute r, .selection r]
  | .selected _ => [.recompute r]
  | .welding _ => [.recompute r]
  | _ => []

theorem mem_selectionDue (m : Motion) (d : Due) : d ∈ selectionDue r m ↔
    d = .recompute r ∧ (∃ sel, m = .selecting sel ∨ m = .selected sel ∨ m = .welding sel) ∨
      d = .selection r ∧ ∃ sel, m = .selecting sel := by
  cases m <;> simp [selectionDue]

/-- The robot's selection ended by TRACK RESET, its poll timer kept. -/
def deselected (b : Robot) : Robot := { b with motion := resetMotion b.motion, busy := resetBusy b.motion b.busy }

theorem resetSelection_eq (hr : r < 32) (hwork : ∀ i, (s.station i).work = none) :
    s.resetSelection r =
      { s with
        robots := tset s.robots r (deselected (s.robot r))
        pend := tset s.pend r (resetPend s.line (s.robot r) (s.pendOf r))
        due := s.due ++ selectionDue r (s.robot r).motion } := by
  have hunowed : ∀ i, s.owed i r = false := fun i => by simp [owed, workItem, hwork]
  have habort (sel : Selection) : s.keepPollTimer r (s.startAbort r sel) =
      { s with
        robots := tset s.robots r { s.robot r with motion := .aborting sel, busy := none }
        pend := tset s.pend r (s.abortingPend r sel (s.pendOf r))
        due := s.due ++ [.recompute r] } := by
    rw [startAbort_eq]
    refine (eq_iff_fields _ _).mpr ⟨rfl, rfl, rfl, rfl, rfl, rfl, rfl, rfl, rfl, rfl, rfl, rfl, rfl, rfl, rfl, rfl, ?_, rfl, rfl, rfl,
      rfl, rfl⟩
    refine (tset_tset _ _ _ _).trans ?_
    exact congrArg (fun b : Robot => tset s.robots r { b with pollTimer := (s.robot r).pollTimer }) (tget_tset_self _ _ _ _ hr)
  have hkept (hm : resetMotion (s.robot r).motion = (s.robot r).motion)
      (hb : resetBusy (s.robot r).motion (s.robot r).busy = (s.robot r).busy) :
      tset s.robots r (deselected (s.robot r)) = s.robots := by
    rw [deselected, hm, hb]
    exact tset_tget_self _ _ _
  have hsame : tset s.pend r (s.pendOf r) = s.pend := tset_tget_self _ _ _
  unfold resetSelection
  split
  · next sel hmotion =>
    set u := s.modPend r fun p => { p with select := none } with hu
    have henter := enterIdle_eq (s := u) hr (.inr fun i _ => hunowed i)
    rw [henter]
    refine (eq_iff_fields _ _).mpr ⟨rfl, ?_, rfl, rfl, rfl, rfl, rfl, rfl, rfl, rfl, rfl, rfl, rfl, rfl, rfl, rfl, ?_, rfl, ?_, rfl,
      rfl, rfl⟩
    · rw [hmotion]
      rfl
    · refine (tset_tset _ _ _ _).trans ?_
      rw [deselected, hmotion]
      exact congrArg (fun b : Robot => tset s.robots r { b with pollTimer := (s.robot r).pollTimer }) (tget_tset_self _ _ _ _ hr)
    · rw [resetPend, hmotion]
      rfl
  · next sel hmotion => rw [habort, deselected, resetPend, hmotion]; rfl
  · next sel hmotion => rw [habort, deselected, resetPend, hmotion]; rfl
  · next hselecting hselected hwelding =>
    cases hmotion : (s.robot r).motion with
    | selecting sel => exact absurd hmotion (hselecting sel)
    | selected sel => exact absurd hmotion (hselected sel)
    | welding sel => exact absurd hmotion (hwelding sel)
    | idle | aborting sel =>
      have hpend : resetPend s.line (s.robot r) (s.pendOf r) = s.pendOf r := by rw [resetPend, hmotion]
      rw [hkept (by rw [hmotion]; rfl) (by rw [hmotion]; rfl), hpend, hsame]
      simp only [selectionDue, List.append_nil]

/-- The slots with the one a load was filling EMPTY (R135). -/
def clearedSlots (l : Option Load) (slots : Vector Slot 8) : Vector Slot 8 :=
  match l with
  | some l => tset slots l.slot ⟨.empty, 0⟩
  | none => slots

/-- The staging of a robot after TRACK RESET: the channel keeps the LOAD CANCEL alone (R143). -/
def resetStage (line : LineRec) (g : Staging) : Staging :=
  { g with
    jobs := [], load := none, blocked := false
    channel := match g.load with
      | some l => [⟨.load, .loadCancel l.slot, line.replyTimeout, line.retryLimit⟩]
      | none => [] }

/-- The programs, the load's one with its reference less (R94). -/
def releasedProgs (l : Option Load) (progs : Vector Prog 512) : Vector Prog 512 :=
  match l with
  | some l => tset progs l.program (unreferenced (tget ⟨.empty, 0⟩ progs l.program))
  | none => progs

/-- The events a load that ends owes (R113, R146). -/
def loadDue (r : Nat) (l : Option Load) : List Due := if l = none then [] else [.recompute r, .selection r]

theorem resetStaging_eq (hr : r < 32) :
    s.resetStaging r =
      { s with
        library := { s.library with progs := releasedProgs (s.stage r).load s.library.progs }
        robots := tset s.robots r { s.robot r with slots := clearedSlots (s.stage r).load (s.robot r).slots }
        staging := tset s.staging r (resetStage s.line (s.stage r))
        due := s.due ++ loadDue r (s.stage r).load } := by
  unfold resetStaging
  cases hload : (s.stage r).load with
  | none =>
    have hrobots : tset s.robots r (s.robot r) = s.robots := tset_tget_self _ _ _
    have hstage : resetStage s.line (s.stage r) = { s.stage r with jobs := [], blocked := false, channel := [] } := by
      rw [resetStage, hload]
      exact congrArg (fun l => ({ s.stage r with jobs := [], load := l, blocked := false, channel := [] } : Staging)) hload.symm
    rw [cancelLoad_of_none hload, hstage]
    exact (eq_iff_fields _ _).mpr ⟨rfl, (List.append_nil _).symm, rfl, rfl, rfl, rfl, rfl, rfl, rfl, rfl, rfl, rfl, rfl, rfl, rfl, rfl,
      hrobots.symm, rfl, rfl, rfl, rfl, rfl⟩
  | some l =>
    rw [cancelLoad_of_some hr hload]
    refine (eq_iff_fields _ _).mpr ⟨rfl, rfl, rfl, rfl, rfl, rfl, rfl, rfl, rfl, rfl, rfl, rfl, rfl, rfl, rfl, rfl, rfl, ?_, rfl, rfl,
      rfl, rfl⟩
    refine (tset_tset _ _ _ _).trans ?_
    rw [resetStage, hload]
    exact congrArg (fun g : Staging => tset s.staging r { g with
      jobs := [], blocked := false, channel := [s.newTx .load (.loadCancel l.slot)] }) (tget_tset_self _ _ _ _ hr)

/-! ### The robots in turn -/

/-- The robot as TRACK RESET leaves it. -/
def resetRobot (b : Robot) (g : Staging) : Robot := { deselected b with slots := clearedSlots g.load b.slots }

/-- The events TRACK RESET owes for one robot. -/
def resetDue (r : Nat) (b : Robot) (g : Staging) : List Due := selectionDue r b.motion ++ loadDue r g.load

theorem mem_resetDue (b : Robot) (g : Staging) (d : Due) : d ∈ resetDue r b g ↔
    d = .recompute r ∧ (g.load ≠ none ∨ ∃ sel, b.motion = .selecting sel ∨ b.motion = .selected sel ∨ b.motion = .welding sel) ∨
      d = .selection r ∧ (g.load ≠ none ∨ ∃ sel, b.motion = .selecting sel) := by
  rw [resetDue, List.mem_append, mem_selectionDue, loadDue]
  split
  · next hnone => simp [hnone]
  · next hsome =>
    simp only [List.mem_cons, List.not_mem_nil, or_false, ne_eq, hsome, not_false_eq_true, true_or, and_true]
    constructor
    · rintro ((⟨hd, -⟩ | ⟨hd, -⟩) | hd | hd)
      · exact .inl hd
      · exact .inr hd
      · exact .inl hd
      · exact .inr hd
    · exact .inr

/-- TRACK RESET of one robot, its selection and its load. -/
theorem resetOne_eq (hr : r < 32) (hwork : ∀ i, (s.station i).work = none) :
    (s.resetSelection r).resetStaging r =
      { s with
        library := { s.library with progs := releasedProgs (s.stage r).load s.library.progs }
        robots := tset s.robots r (resetRobot (s.robot r) (s.stage r))
        pend := tset s.pend r (resetPend s.line (s.robot r) (s.pendOf r))
        staging := tset s.staging r (resetStage s.line (s.stage r))
        due := s.due ++ resetDue r (s.robot r) (s.stage r) } := by
  rw [resetSelection_eq hr hwork]
  refine (resetStaging_eq hr).trans ((eq_iff_fields _ _).mpr ⟨rfl, List.append_assoc _ _ _, rfl, rfl, rfl, rfl, rfl, rfl, rfl, rfl, rfl,
    rfl, rfl, rfl, rfl, rfl, ?_, rfl, rfl, rfl, rfl, rfl⟩)
  refine (tset_tset _ _ _ _).trans ?_
  exact congrArg (fun b : Robot => tset s.robots r { b with slots := clearedSlots (s.stage r).load b.slots })
    (tget_tset_self _ _ _ _ hr)

/-- What TRACK RESET of a list of robots leaves. -/
structure RobotsReset (l : List Nat) (s t : State) : Prop where
  robot : ∀ r, t.robot r = if r ∈ l then resetRobot (s.robot r) (s.stage r) else s.robot r
  pend : ∀ r, t.pendOf r = if r ∈ l then resetPend s.line (s.robot r) (s.pendOf r) else s.pendOf r
  stage : ∀ r, t.stage r = if r ∈ l then resetStage s.line (s.stage r) else s.stage r
  prog : ∀ n, n < 512 → t.prog n = { s.prog n with
    refs := (s.prog n).refs - (l.filter fun r => (s.stage r).load.map (·.program) == some n).length }
  due : ∀ d, d ∈ t.due ↔ d ∈ s.due ∨ ∃ r ∈ l, d ∈ resetDue r (s.robot r) (s.stage r)
  frame : t = { s with robots := t.robots, pend := t.pend, staging := t.staging, due := t.due,
                       library := { s.library with progs := t.library.progs } }

theorem prog_releasedProgs (l : Option Load) (progs : Vector Prog 512) {n : Nat} (hn : n < 512) :
    tget (⟨.empty, 0⟩ : Prog) (releasedProgs l progs) n = { tget (⟨.empty, 0⟩ : Prog) progs n with
      refs := (tget (⟨.empty, 0⟩ : Prog) progs n).refs - if l.map (·.program) = some n then 1 else 0 } := by
  cases l with
  | none => rfl
  | some l =>
    by_cases hl : l.program = n
    · subst hl
      rw [releasedProgs, tget_tset_self _ _ _ _ hn]
      simp [unreferenced]
    · rw [releasedProgs, tget_tset_ne _ _ _ _ _ (Ne.symm hl)]
      simp [hl]

theorem robotsReset_nil (s : State) : RobotsReset [] s s := by
  constructor <;> simp

theorem robotsReset_cons {l : List Nat} (hr : r < 32) (hnot : r ∉ l) (hwork : ∀ i, (s.station i).work = none)
    (hrest : RobotsReset l ((s.resetSelection r).resetStaging r) t) : RobotsReset (r :: l) s t := by
  have hone := resetOne_eq hr hwork
  generalize hu : (s.resetSelection r).resetStaging r = u at hrest hone
  have hself : u.robot r = resetRobot (s.robot r) (s.stage r) ∧ u.pendOf r = resetPend s.line (s.robot r) (s.pendOf r) ∧
      u.stage r = resetStage s.line (s.stage r) := by
    rw [hone]
    exact ⟨tget_tset_self _ _ _ _ hr, tget_tset_self _ _ _ _ hr, tget_tset_self _ _ _ _ hr⟩
  have hother : ∀ q, q ≠ r → u.robot q = s.robot q ∧ u.pendOf q = s.pendOf q ∧ u.stage q = s.stage q := by
    rw [hone]
    exact fun q hq => ⟨tget_tset_ne _ _ _ _ _ hq, tget_tset_ne _ _ _ _ _ hq, tget_tset_ne _ _ _ _ _ hq⟩
  have hne : ∀ q ∈ l, q ≠ r := fun q hq hqr => hnot (hqr ▸ hq)
  have hline : u.line = s.line := by rw [hone]; rfl
  have hat {α : Type} (x y : State → Nat → α) (hx : ∀ q, q ≠ r → x u q = x s q) (hy : ∀ q, q ≠ r → y u q = y s q)
      (hxr : y u r = x s r) (ht : ∀ q, y t q = if q ∈ l then x u q else y u q) (q : Nat) :
      y t q = if q ∈ r :: l then x s q else y s q := by
    rw [ht]
    by_cases hqr : q = r
    · subst hqr
      rw [if_neg hnot, if_pos List.mem_cons_self, hxr]
    · simp only [List.mem_cons, hqr, false_or, hx q hqr, hy q hqr]
  refine ⟨hat (fun v q => resetRobot (v.robot q) (v.stage q)) (fun v q => v.robot q) (fun q hq => ?_) (fun q hq => (hother q hq).1)
      hself.1 hrest.robot,
    hat (fun v q => resetPend v.line (v.robot q) (v.pendOf q)) (fun v q => v.pendOf q) (fun q hq => ?_)
      (fun q hq => (hother q hq).2.1) hself.2.1 hrest.pend,
    hat (fun v q => resetStage v.line (v.stage q)) (fun v q => v.stage q) (fun q hq => ?_) (fun q hq => (hother q hq).2.2)
      hself.2.2 hrest.stage, fun n hn => ?_, fun d => ?_, ?_⟩
  · simp only [(hother q hq).1, (hother q hq).2.2]
  · simp only [(hother q hq).1, (hother q hq).2.1, hline]
  · simp only [(hother q hq).2.2, hline]
  · have hprog : u.prog n = { s.prog n with
        refs := (s.prog n).refs - if (s.stage r).load.map (·.program) = some n then 1 else 0 } := by
      rw [hone]
      exact prog_releasedProgs _ _ hn
    have hfilter : (l.filter fun q => (u.stage q).load.map (·.program) == some n) =
        l.filter fun q => (s.stage q).load.map (·.program) == some n :=
      List.filter_congr fun q hq => by rw [(hother q (hne q hq)).2.2]
    rw [hrest.prog n hn, hprog, hfilter, List.filter_cons]
    simp only [beq_iff_eq]
    split
    · simp only [List.length_cons, Nat.sub_sub, Nat.add_comm]
    · rfl
  · have hdue : d ∈ u.due ↔ d ∈ s.due ∨ d ∈ resetDue r (s.robot r) (s.stage r) := by
      rw [hone]
      exact List.mem_append
    have hlater : (∃ q ∈ l, d ∈ resetDue q (u.robot q) (u.stage q)) ↔ ∃ q ∈ l, d ∈ resetDue q (s.robot q) (s.stage q) :=
      exists_congr fun q => and_congr_right fun hq => by rw [(hother q (hne q hq)).1, (hother q (hne q hq)).2.2]
    rw [hrest.due, hdue, hlater, or_assoc, List.exists_mem_cons_iff]
  · rw [hrest.frame, hone]

theorem robotsReset_foldl {l : List Nat} (hl : ∀ r ∈ l, r < 32) (hnodup : l.Nodup) (hwork : ∀ i, (s.station i).work = none) :
    RobotsReset l s (l.foldl (fun t r => (t.resetSelection r).resetStaging r) s) := by
  induction l generalizing s with
  | nil => exact robotsReset_nil s
  | cons r l ih =>
    obtain ⟨hnot, hnodup⟩ := List.nodup_cons.mp hnodup
    have hr := hl r List.mem_cons_self
    refine robotsReset_cons hr hnot hwork (ih (fun q hq => hl q (List.mem_cons_of_mem _ hq)) hnodup fun i => ?_)
    rw [resetOne_eq hr hwork]
    exact hwork i

end State
end Machine
end Sys2Proof
end

section
/-!
SUPPORT. TRACK RESET of the sequence, the tracker and the inputs (R33, R65, R187), and O51.
-/
namespace Sys2Proof
namespace Machine
namespace State

variable {s : State}

/-- The ring emptied, and judged by the low mark (R10). -/
theorem emptyRing_eq : s.emptyRing = { s.emptied with
    attention := (if s.line.lowMark < s.ringCount then s.raise .ringLow 0 else s).attention } := by
  rw [emptyRing]
  unfold judgeLow
  by_cases hlow : s.line.lowMark < s.ringCount
  · rw [if_pos hlow]
    exact if_pos ⟨hlow, Nat.zero_le _⟩
  · rw [if_neg hlow]
    exact if_neg fun h => hlow h.1

/-- The namings of a list of records dropped (R33). -/
def dropNamings (l : List Body) (s : State) : State := l.foldl (fun t b => t.dropNaming b.binding.setNo) s

theorem dropNamings_spec (l : List Body) : s.dropNamings l = { s with sets := (s.dropNamings l).sets } ∧
    ∀ k, (s.dropNamings l).dispatchSet k = { s.dispatchSet k with
      inUse := (s.dispatchSet k).inUse - (l.filter fun b => b.binding == .weld k).length } := by
  induction l generalizing s with
  | nil => exact ⟨rfl, fun k => rfl⟩
  | cons b l ih =>
    have hone : s.dropNaming b.binding.setNo = { s with sets := (s.dropNaming b.binding.setNo).sets } := by
      cases b.binding.setNo <;> rfl
    obtain ⟨hframe, hsets⟩ := ih (s := s.dropNaming b.binding.setNo)
    refine ⟨?_, fun k => (hsets k).trans ?_⟩
    · change (s.dropNaming b.binding.setNo).dropNamings l =
        { s with sets := ((s.dropNaming b.binding.setNo).dropNamings l).sets }
      generalize (s.dropNaming b.binding.setNo).dropNamings l = v at hframe
      exact hframe.trans (by rw [hone])
    rw [dispatchSet_dropNaming, List.filter_cons]
    simp only [binding_setNo_eq_some_iff, beq_iff_eq]
    split
    · simp only [List.length_cons, Nat.sub_sub, Nat.add_comm]
    · rfl

/-- The sequence, the tracker and the inputs as TRACK RESET leaves them, ahead of the robots. -/
def cleared (s : State) : State := s.emptyRing.freeAll.resetStations.closePresence

theorem cleared_eq : s.cleared =
    { s with
      ring := { s.ring with read := s.ring.write, loop := none, stalled := false }
      bodies := [], lineList := []
      sets := (s.dropNamings s.bodies).sets
      stations := s.stations.map fun x => Station.powerOn x.zone x.source x.budget
      lines := s.lines.map fun x => { x with window := .closed, confirm := 0, echo := .none, echoTimer := 0 }
      attention := (if s.line.lowMark < s.ringCount then s.raise .ringLow 0 else s).attention } := by
  have hsets : ∀ (l : List Body) (u : State), u.sets = s.sets → (u.dropNamings l).sets = (s.dropNamings l).sets := by
    intro l
    induction l generalizing s with
    | nil => exact fun u hu => hu
    | cons b l ih =>
      intro u hu
      refine ih (s := s.dropNaming b.binding.setNo) (u.dropNaming b.binding.setNo) ?_
      cases b.binding.setNo with
      | none => exact hu
      | some k =>
        change tset u.sets k { u.dispatchSet k with inUse := (u.dispatchSet k).inUse - 1 } =
          tset s.sets k { s.dispatchSet k with inUse := (s.dispatchSet k).inUse - 1 }
        rw [dispatchSet, dispatchSet, hu]
  rw [cleared, emptyRing_eq]
  generalize hv : ({ s.emptied with
    attention := (if s.line.lowMark < s.ringCount then s.raise .ringLow 0 else s).attention } : State) = v
  have hfree : v.freeAll = { v.dropNamings v.bodies with bodies := [], lineList := [] } := rfl
  have hvsets : (v.dropNamings v.bodies).sets = (s.dropNamings s.bodies).sets := by
    have hbodies : v.bodies = s.bodies := by rw [← hv]; rfl
    rw [hbodies]
    exact hsets s.bodies v (by rw [← hv]; rfl)
  rw [hfree, (dropNamings_spec v.bodies).1, hvsets, ← hv]
  rfl

theorem work_cleared (i : Nat) : (s.cleared.station i).work = none := by
  rw [cleared_eq]
  by_cases hi : i < 16
  · exact congrArg Station.work (tget_map (.powerOn 0 .line 6000) s.stations i
      (fun x => Station.powerOn x.zone x.source x.budget) (.powerOn 0 .line 6000) hi)
  · exact congrArg Station.work (tget_of_ge _ _ _ (Nat.le_of_not_lt hi))

/-- TRACK RESET's robots, after the rest. -/
theorem robotsReset_trackReset :
    ∃ t, RobotsReset (List.range 32) s.cleared t ∧
      s.trackReset = { t with due := t.due ++ t.presentRobots.map .recompute ++ [.admission] } :=
  ⟨(List.range 32).foldl (fun t r => (t.resetSelection r).resetStaging r) s.cleared,
    robotsReset_foldl (fun _ hr => List.mem_range.mp hr) List.nodup_range work_cleared, by
      rw [trackReset, cleared]
      generalize (List.range 32).foldl (fun t r => (t.resetSelection r).resetStaging r)
        s.emptyRing.freeAll.resetStations.closePresence = t
      rfl⟩

end State

/-- Settles O51: the sequence, the tracker and the inputs at once, then robot by robot. -/
theorem trackResetKeepsTheLibrary : Obligations.TrackResetKeepsTheLibrary := by
  intro s h ⟨hlistens, hgrants, hlen⟩ _
  obtain ⟨t, hreset, heq⟩ := State.robotsReset_trackReset (s := s.goodFrameOn h.port.val)
  have hblock : trackResetBlock h (s.goodFrameOn h.port.val) =
      State.done { t with due := t.due ++ t.presentRobots.map .recompute ++ [.admission] } := by
    rw [trackResetBlock, if_neg (by simp [hlen]), heq]
  have hframe := hreset.frame
  rw [State.cleared_eq] at hframe
  obtain ⟨hexec, hanswered⟩ := s.exec_request_of_block (i := .trackReset h) rfl hlistens hgrants hblock (by
    rw [hframe])
  have hrobots : t.presentRobots = s.presentRobots := by rw [hframe]; rfl
  rw [hrobots] at hexec hanswered
  have hmem : ∀ r, r < 32 → r ∈ List.range 32 := fun r hr => List.mem_range.mpr hr
  have hself : ∀ r, (s.goodFrameOn h.port.val).cleared.robot r = s.robot r ∧
      (s.goodFrameOn h.port.val).cleared.stage r = s.stage r ∧
      (s.goodFrameOn h.port.val).cleared.pendOf r = s.pendOf r := by
    intro r
    rw [State.cleared_eq]
    exact ⟨rfl, rfl, rfl⟩
  have hrest : (s.goodFrameOn h.port.val).cleared.line = s.line ∧ (s.goodFrameOn h.port.val).cleared.library = s.library ∧
      (s.goodFrameOn h.port.val).cleared.due = s.due := by
    rw [State.cleared_eq]
    exact ⟨rfl, rfl, rfl⟩
  obtain ⟨hline, hlibrary, hdue⟩ := hrest
  have hprogs : ∀ n, (s.goodFrameOn h.port.val).cleared.prog n = s.prog n := fun n => by
    rw [State.prog, State.prog, hlibrary]
  have hrobot : ∀ r, r < 32 → t.robot r = State.resetRobot (s.robot r) (s.stage r) := fun r hr => by
    rw [hreset.robot, if_pos (hmem r hr), (hself r).1, (hself r).2.1]
  have hslots : ∀ r, r < 32 → (t.robot r).slots = State.clearedSlots (s.stage r).load (s.robot r).slots := fun r hr => by
    rw [hrobot r hr]
    rfl
  refine ⟨_, hexec, hanswered, ?_, ?_, ?_, fun i hi => ?_, fun i hi => ?_, fun k _ => ?_, fun r hr => ?_, fun r hr => ⟨?_, ?_⟩,
    fun r i hr => ?_, fun n hn => ?_, ?_, fun d => ?_, ?_, ?_⟩
  · change t.ring = _
    rw [hframe]
    rfl
  · change t.bodies = _
    rw [hframe]
  · change t.lineList = _
    rw [hframe]
  · change t.station i = _
    rw [hframe]
    exact tget_map (.powerOn 0 .line 6000) s.stations i (fun x => Station.powerOn x.zone x.source x.budget) _ hi
  · change t.presence i = _
    rw [hframe]
    exact State.presence_closePresence (s := s) hi
  · change t.dispatchSet k = _
    rw [hframe]
    exact (State.dropNamings_spec (s := s.goodFrameOn h.port.val) s.bodies).2 k
  · change t.stage r = _
    rw [hreset.stage, if_pos (hmem r hr), (hself r).2.1, hline]
    rfl
  · refine (hrobot r hr).trans ?_
    exact congrArg (fun z => { State.deselected (s.robot r) with slots := z }) (hslots r hr).symm
  · change t.pendOf r = _
    rw [hreset.pend, if_pos (hmem r hr), (hself r).1, (hself r).2.2, hline]
    rfl
  · change tget ⟨.unknown, 0⟩ (t.robot r).slots i = _
    rw [hslots r hr]
    cases (s.stage r).load with
    | none => simp [State.clearedSlots, Robot.slot]
    | some l =>
      rw [State.clearedSlots, tget_tset]
      refine if_congr ⟨?_, ?_⟩ rfl rfl
      · rintro ⟨rfl, hi⟩
        exact ⟨rfl, hi⟩
      · rintro ⟨hslot, hi⟩
        cases hslot
        exact ⟨rfl, hi⟩
  · change t.prog n = _
    rw [hreset.prog n hn, hprogs]
    simp only [hself]
  · change t.library = _
    rw [hframe]
    rfl
  · change d ∈ t.due ++ s.presentRobots.map .recompute ++ [.admission] ↔ _
    rw [List.mem_append, List.mem_append, List.mem_singleton, hreset.due, hdue, State.mem_recomputeAll]
    simp only [hself, List.mem_range, State.mem_resetDue]
    constructor
    · rintro (((hd | hd) | hd) | hd)
      · exact .inl hd
      · exact .inr (.inr (.inr hd))
      · exact .inr (.inr (.inl hd))
      · exact .inr (.inl hd)
    · rintro (hd | hd | hd | hd)
      · exact .inl (.inl (.inl hd))
      · exact .inr hd
      · exact .inl (.inr hd)
      · exact .inl (.inl (.inr hd))
  · change t.attention = _
    rw [hframe]
    change (if s.line.lowMark < s.ringCount then _ else _ : State).attention = _
    split <;> rfl
  · rw [State.sendReply_eq, hframe]
    rfl

end Machine
end Sys2Proof
end

section
/-!
SUPPORT. A sending without reply, and the loss of a robot (R110, R161 to R163): O45.
-/
namespace Sys2Proof
namespace Machine
namespace State

variable {s : State} {r j : Nat}

/-! ### What a lost robot leaves on its station (R45, R56, R110) -/

/-- The station whose FAULT the loss of robot `r` is: the one that records the body it is SELECTED or WELDING for (R45, R110). -/
def LosesAt (s : State) (r j : Nat) : Prop :=
  s.stationOf r = some j ∧ (s.station j).state ≠ .fault ∧
    ∃ sel, ((s.robot r).motion = .selected sel ∨ (s.robot r).motion = .welding sel) ∧ (s.station j).body = some sel.key

theorem lt_of_body {k : Nat} (hk : (s.station j).body = some k) : j < 16 := by
  by_contra hj
  have hnone : (s.station j).body = none := by
    rw [station, tget_of_ge _ _ _ (Nat.le_of_not_lt hj)]
    rfl
  cases hnone.symm.trans hk

/-- The state once station `lost`, if any, has entered FAULT for the lost robot. -/
def faultLost (lost : Option Nat) (s : State) : State :=
  lost.elim s fun j =>
    { s with
      stations := tset s.stations j { s.station j with state := .fault, cause := some .robotLost }
      due := s.due ++ s.enterDue j .fault
      attention := (s.raise .stationFault j).attention }

theorem faultFor_lost {lost : Option Nat} {sel : Selection}
    (hmotion : (s.robot r).motion = .selected sel ∨ (s.robot r).motion = .welding sel)
    (hlost : ∀ j, lost = some j ↔ s.LosesAt r j) :
    ((s.stationOf r).elim s fun i => s.faultFor i sel .robotLost) = s.faultLost lost := by
  have hsel : ∀ sel', (s.robot r).motion = .selected sel' ∨ (s.robot r).motion = .welding sel' → sel' = sel := by
    intro sel' hsel'
    obtain h | h := hmotion <;> obtain h' | h' := hsel' <;> cases h.symm.trans h'
    · rfl
    · rfl
  cases lost with
  | some j =>
    obtain ⟨hstation, hstate, sel', hsel', hbody⟩ := (hlost j).mp rfl
    cases hsel sel' hsel'
    simp only [hstation, Option.elim, faultFor, hbody, if_true]
    exact faultStation_eq (lt_of_body hbody) hstate _
  | none =>
    cases hstation : s.stationOf r with
    | none => rfl
    | some i =>
      change s.faultFor i sel .robotLost = s
      unfold faultFor
      split
      · next hbody =>
        by_cases hstate : (s.station i).state = .fault
        · exact faultStation_of_fault hstate _
        · cases (hlost i).mpr ⟨hstation, hstate, sel, hmotion, hbody⟩
      · rfl

/-- A station left by a robot that was awaited there (R56). -/
def waitLeft (r : Nat) (x : Station) : Station :=
  { x with
    abortWait := x.abortWait.filter (· != r)
    state := if x.abortWait.filter (· != r) = [] then .empty else .clearing }

theorem station_leaveAbortWait (hj : j < 16) : (s.leaveAbortWait r).station j =
    if (s.station j).state = .clearing ∧ r ∈ (s.station j).abortWait then waitLeft r (s.station j) else s.station j := by
  refine (tget_map (Station.powerOn 0 .line 6000) s.stations j _ (Station.powerOn 0 .line 6000) hj).trans ?_
  simp only [List.contains_iff_mem]
  rfl

/-- The station of index `j` after robot `r` was lost. -/
def lostStation (s : State) (r : Nat) (lost : Option Nat) (j : Nat) : Station :=
  if lost = some j then { s.station j with state := .fault, cause := some .robotLost }
  else if (s.robot r).motion.name = .aborting ∧ (s.station j).state = .clearing ∧ r ∈ (s.station j).abortWait then
    waitLeft r (s.station j)
  else s.station j

theorem station_faultLost {lost : Option Nat} (hlost : ∀ j, lost = some j → j < 16) (j : Nat) :
    (s.faultLost lost).station j =
      if lost = some j then { s.station j with state := .fault, cause := some .robotLost } else s.station j := by
  cases lost with
  | none => rfl
  | some i =>
    by_cases hji : j = i
    · subst hji
      rw [if_pos rfl]
      exact tget_tset_self _ _ _ _ (hlost j rfl)
    · rw [if_neg (by simpa using Ne.symm hji)]
      exact tget_tset_ne _ _ _ _ _ hji

theorem mem_due_faultLost (lost : Option Nat) (d : Due) : d ∈ (s.faultLost lost).due ↔
    d ∈ s.due ∨ ∃ j, lost = some j ∧ (s.station j).state = .arrived ∧ ∃ q ∈ s.robotsAt j, d = .recompute q := by
  cases lost with
  | none => simp [faultLost]
  | some i =>
    change d ∈ s.due ++ s.enterDue i .fault ↔ _
    rw [List.mem_append, mem_enterDue]
    simp

/-- What the loss of robot `r` does to its motion state and its station (R110, step 5). -/
theorem loseMotion_spec (hr : r < 32) (henabled : (s.robot r).enabled = true ∨ (s.robot r).motion = .idle)
    (hrest : (s.robot r).busy = none ∧ (s.robot r).pollTimer = 0) {lost : Option Nat}
    (hlost : ∀ j, lost = some j ↔ s.LosesAt r j) :
    ∃ t : State, s.loseMotion r = { s with
        robots := tset s.robots r { s.robot r with motion := .idle }, stations := t.stations, due := t.due
        attention := (lost.elim s fun j => s.raise .stationFault j).attention } ∧
      (∀ j, j < 16 → t.station j = s.lostStation r lost j) ∧
      ∀ d, d ∈ t.due ∨ d = .recompute r ∨ d = .selection r ↔ d ∈ s.due ∨ d = .recompute r ∨ d = .selection r ∨
        ∃ j, lost = some j ∧ (s.station j).state = .arrived ∧ ∃ q ∈ s.robotsAt j, d = .recompute q := by
  have hnone (hmotion : ∀ sel, (s.robot r).motion ≠ .selected sel ∧ (s.robot r).motion ≠ .welding sel) : lost = none := by
    cases lost with
    | none => rfl
    | some j =>
      obtain ⟨-, -, sel, hsel, -⟩ := (hlost j).mp rfl
      exact (hsel.elim (hmotion sel).1 (hmotion sel).2).elim
  have hidle (t : State) (hrobots : t.robots = s.robots) (h : (s.robot r).enabled = true) : t.enterIdle r = { t with
      robots := tset s.robots r { s.robot r with motion := .idle }, due := t.due ++ [.recompute r, .selection r] } := by
    have hself : t.robot r = s.robot r := by rw [robot, robot, hrobots]
    rw [enterIdle_eq hr (.inl (by rw [hself]; exact h)), hself, idleRobot, hrobots]
    obtain ⟨hbusy, htimer⟩ := hrest
    have hback : ({ s.robot r with motion := .idle, busy := none, pollTimer := 0 } : Robot) = { s.robot r with motion := .idle } := by
      rw [← hbusy, ← htimer]
    rw [hback]
  have hmem (l : List Due) (d : Due) : d ∈ l ++ [.recompute r, .selection r] ∨ d = .recompute r ∨ d = .selection r ↔
      d ∈ l ∨ d = .recompute r ∨ d = .selection r := by
    simp only [List.mem_append, List.mem_cons, List.not_mem_nil, or_false, or_assoc]
    tauto
  have hlt : ∀ j, lost = some j → j < 16 := fun j hj => by
    obtain ⟨-, -, sel, -, hbody⟩ := (hlost j).mp hj
    exact lt_of_body hbody
  have hworking (sel : Selection) (hsel : (s.robot r).motion = .selected sel ∨ (s.robot r).motion = .welding sel) :
      ∃ t : State, ((s.stationOf r).elim s fun i => s.faultFor i sel .robotLost).enterIdle r = { s with
          robots := tset s.robots r { s.robot r with motion := .idle }, stations := t.stations, due := t.due
          attention := (lost.elim s fun j => s.raise .stationFault j).attention } ∧
        (∀ j, j < 16 → t.station j = s.lostStation r lost j) ∧
        ∀ d, d ∈ t.due ∨ d = .recompute r ∨ d = .selection r ↔ d ∈ s.due ∨ d = .recompute r ∨ d = .selection r ∨
          ∃ j, lost = some j ∧ (s.station j).state = .arrived ∧ ∃ q ∈ s.robotsAt j, d = .recompute q := by
    have henabled := henabled.resolve_right (by obtain h | h := hsel <;> simp [h])
    have hname : (s.robot r).motion.name ≠ .aborting := by obtain h | h := hsel <;> simp [h, Motion.name]
    have hrobots : (s.faultLost lost).robots = s.robots := by cases lost <;> rfl
    rw [faultFor_lost hsel hlost, hidle _ hrobots henabled]
    refine ⟨{ s.faultLost lost with due := (s.faultLost lost).due ++ [.recompute r, .selection r] }, ?_, fun j _ => ?_, fun d => ?_⟩
    · cases lost <;> rfl
    · refine (station_faultLost hlt j).trans ?_
      simp only [lostStation, hname, false_and, if_false]
    · refine (hmem (s.faultLost lost).due d).trans ?_
      rw [mem_due_faultLost]
      constructor
      · rintro ((hd | hd) | hd | hd)
        · exact .inl hd
        · exact .inr (.inr (.inr hd))
        · exact .inr (.inl hd)
        · exact .inr (.inr (.inl hd))
      · rintro (hd | hd | hd | hd)
        · exact .inl (.inl hd)
        · exact .inr (.inl hd)
        · exact .inr (.inr hd)
        · exact .inl (.inr hd)
  unfold loseMotion
  split
  · next hmotion =>
    obtain rfl := hnone (by simp [hmotion])
    refine ⟨s, ?_, fun j _ => ?_, fun d => by simp⟩
    · have hback : ({ s.robot r with motion := .idle } : Robot) = s.robot r := by rw [← hmotion]
      rw [hback, robot, tset_tget_self]
      rfl
    · simp [lostStation, hmotion, Motion.name]
  · next sel hmotion =>
    obtain rfl := hnone (by simp [hmotion])
    have henabled := henabled.resolve_right (by simp [hmotion])
    refine ⟨{ s with due := s.due ++ [.recompute r, .selection r] }, hidle s rfl henabled, fun j _ => ?_, fun d => (hmem s.due d).trans ?_⟩
    · simp [lostStation, hmotion, Motion.name, station]
    · simp only [reduceCtorEq, false_and, exists_false, or_false]
  · next sel hmotion => exact hworking sel (.inl hmotion)
  · next sel hmotion => exact hworking sel (.inr hmotion)
  · next sel hmotion =>
    obtain rfl := hnone (by simp [hmotion])
    have henabled := henabled.resolve_right (by simp [hmotion])
    refine ⟨{ s.leaveAbortWait r with due := s.due ++ [.recompute r, .selection r] }, hidle (s.leaveAbortWait r) rfl henabled,
      fun j hj => ?_, fun d => (hmem s.due d).trans ?_⟩
    · refine (station_leaveAbortWait hj).trans ?_
      simp [lostStation, hmotion, Motion.name]
    · simp only [reduceCtorEq, false_and, exists_false, or_false]

/-! ### A robot goes OFFLINE (R110) -/

/-- The staging of a robot that goes OFFLINE (R110, R141). -/
def offlineStage (g : Staging) : Staging :=
  { g with
    channel := [], blocked := false, load := none
    jobs := if g.load = none then g.jobs else g.jobs.map fun j => { j with active := false } }

/-- The context of a robot that goes OFFLINE, its motion state apart (R110). -/
def offlineRobot (b : Robot) : Robot :=
  { b with online := false, slots := .replicate 8 ⟨.unknown, 0⟩, fault := none, busy := none, pollTimer := 0 }

/-- The state with robot `r` OFFLINE, ahead of what it was doing (R110, steps 1 to 4). -/
def offlined (r : Nat) (s : State) : State :=
  { s with
    pend := tset s.pend r ⟨none, none, none, none⟩
    buses := (s.endOnBuses r).buses
    library := { s.library with progs := releasedProgs (s.stage r).load s.library.progs }
    staging := tset s.staging r (offlineStage (s.stage r))
    robots := tset s.robots r (offlineRobot (s.robot r)) }

/-- The staging with its load ended, if it has one (R141). -/
def endedStage (g : Staging) : Staging :=
  { g with load := none, jobs := if g.load = none then g.jobs else g.jobs.map fun j => { j with active := false } }

theorem endLoad_eq (s : State) (r : Nat) : s.endLoad r =
    { s with
      library := { s.library with progs := releasedProgs (s.stage r).load s.library.progs }
      staging := tset s.staging r (endedStage (s.stage r)) } := by
  cases hload : (s.stage r).load with
  | none =>
    have hnone : endedStage (s.stage r) = s.stage r := by
      rw [endedStage, if_pos hload]
      exact congrArg (fun l => ({ s.stage r with load := l } : Staging)) hload.symm
    rw [endLoad_of_none hload, hnone, stage, tset_tget_self]
    rfl
  | some l =>
    have hsome : endedStage (s.stage r) = unloaded (s.stage r) := by
      rw [endedStage, if_neg (by simp [hload])]
      rfl
    rw [endLoad_of_some hload, hsome]
    rfl

theorem modStage_endLoad (hr : r < 32) (s : State) :
    ((s.endLoad r).modStage r fun g => { g with channel := [], blocked := false }) =
      { s with
        library := { s.library with progs := releasedProgs (s.stage r).load s.library.progs }
        staging := tset s.staging r (offlineStage (s.stage r)) } := by
  rw [endLoad_eq]
  have hstage : tget Staging.reset (tset s.staging r (endedStage (s.stage r))) r = endedStage (s.stage r) := tget_tset_self _ _ _ _ hr
  have hfused : tset (tset s.staging r (endedStage (s.stage r))) r
      { tget Staging.reset (tset s.staging r (endedStage (s.stage r))) r with channel := [], blocked := false } =
        tset s.staging r (offlineStage (s.stage r)) := by
    rw [tset_tset, hstage]
    rfl
  exact congrArg (fun v => { s with
    library := { s.library with progs := releasedProgs (s.stage r).load s.library.progs }, staging := v }) hfused

theorem goOffline_eq (hr : r < 32) (notify : Bool) :
    s.goOffline r notify =
      (if notify then ((s.offlined r).loseMotion r).raise .robotOffline r else (s.offlined r).loseMotion r).oweSlot r := by
  have hoff : (((((s.modPend r fun _ => .reset).endOnBuses r).endLoad r).modStage r fun g =>
      { g with channel := [], blocked := false }).modRobot r offlineRobot) = s.offlined r := by
    rw [modStage_endLoad hr]
    rfl
  rw [← hoff]
  rfl

/-- What robot `r` going OFFLINE leaves. -/
theorem goOffline_spec (hr : r < 32) (henabled : (s.robot r).enabled = true ∨ (s.robot r).motion = .idle) {lost : Option Nat}
    (hlost : ∀ j, lost = some j ↔ s.LosesAt r j) (notify : Bool) :
    ∃ t : State, s.goOffline r notify = { s with
        pend := tset s.pend r ⟨none, none, none, none⟩
        buses := (s.endOnBuses r).buses
        library := { s.library with progs := releasedProgs (s.stage r).load s.library.progs }
        staging := tset s.staging r (offlineStage (s.stage r))
        robots := tset s.robots r { offlineRobot (s.robot r) with motion := .idle }
        stations := t.stations, due := t.due
        attention := (if notify then (lost.elim s fun j => s.raise .stationFault j).raise .robotOffline r
          else lost.elim s fun j => s.raise .stationFault j).attention } ∧
      (∀ j, j < 16 → t.station j = s.lostStation r lost j) ∧
      ∀ d, d ∈ t.due ↔ d ∈ s.due ∨ d = .recompute r ∨ d = .selection r ∨
        ∃ j, lost = some j ∧ (s.station j).state = .arrived ∧ ∃ q ∈ s.robotsAt j, d = .recompute q := by
  have hrobot : (s.offlined r).robot r = offlineRobot (s.robot r) := tget_tset_self _ _ _ _ hr
  have hlost' : ∀ j, lost = some j ↔ (s.offlined r).LosesAt r j := fun j => by
    rw [hlost, LosesAt, LosesAt, hrobot]
    rfl
  obtain ⟨t, hlose, hstation, hdue⟩ := loseMotion_spec (s := s.offlined r) hr (by rw [hrobot]; exact henabled)
    (by rw [hrobot]; exact ⟨rfl, rfl⟩) hlost'
  rw [goOffline_eq hr, hlose, hrobot]
  refine ⟨{ t with due := t.due ++ [.recompute r, .selection r] }, ?_, fun j hj => (hstation j hj).trans ?_, fun d => ?_⟩
  · have hrobots : tset (s.offlined r).robots r { offlineRobot (s.robot r) with motion := .idle } =
        tset s.robots r { offlineRobot (s.robot r) with motion := .idle } := tset_tset _ _ _ _
    rw [hrobots]
    cases notify <;> cases lost <;> rfl
  · rw [lostStation, hrobot]
    rfl
  · refine Iff.trans ?_ (hdue d)
    simp only [List.mem_append, List.mem_cons, List.not_mem_nil, or_false]

end State
end Machine
end Sys2Proof
end

section
/-!
SUPPORT. A sending without reply settled (O45).
-/
namespace Sys2Proof
namespace Machine
namespace State

variable {s : State} {b : Fin 4} {o : OnBus}

theorem bus_eq_getElem {c : Nat} (hc : c < 4) : s.bus c = s.buses[c] := tget_eq _ _ _ hc

theorem endOnBuses_of_absent {r : Nat} (habsent : ∀ c y, (s.bus c).cur = some y → y.robot ≠ r) :
    (s.endOnBuses r).buses = s.buses := by
  refine Vector.ext fun c hc => ?_
  rw [endOnBuses, Vector.getElem_map, ← bus_eq_getElem hc]
  split
  · next y hcur => exact if_neg (habsent c y hcur)
  · rfl

theorem prog_released (l : Option Load) (progs : Vector Prog 512) (n : Nat) :
    tget (⟨.empty, 0⟩ : Prog) (releasedProgs l progs) n = { tget (⟨.empty, 0⟩ : Prog) progs n with
      refs := (tget (⟨.empty, 0⟩ : Prog) progs n).refs - if l.map (·.program) = some n then 1 else 0 } := by
  by_cases hn : n < 512
  · exact prog_releasedProgs _ _ hn
  · simp only [tget_of_ge _ _ _ (Nat.le_of_not_lt hn), Nat.zero_sub]

theorem noReply_of_left (hcur : (s.bus b.val).cur = some o) (hleft : o.sendings ≤ o.tx.retries) :
    s.noReply b.val = { s with buses := tset s.buses b.val { s.bus b.val with
      cur := some { o with sendings := o.sendings + 1, waited := 0 }
      pace := if isLoadData o.tx.req then 0 else (s.bus b.val).pace } } := by
  simp only [noReply, hcur, hleft, if_true]
  rfl

theorem noReply_of_probe (hcur : (s.bus b.val).cur = some o) (hused : o.tx.retries < o.sendings) (hprobe : o.tx.cls = .query)
    (hpoll : o.tx.req = .poll) :
    s.noReply b.val = { s with
      buses := tset s.buses b.val { s.bus b.val with cur := none }
      robots := tset s.robots o.robot { s.robot o.robot with pollTimer := 0 } } := by
  simp only [noReply, hcur, Nat.not_le.mpr hused, if_false, hprobe, hpoll, and_self, if_true]
  rfl

theorem noReply_of_lost (hcur : (s.bus b.val).cur = some o) (hused : o.tx.retries < o.sendings)
    (hlost : o.tx.cls ≠ .query ∨ o.tx.req ≠ .poll) : s.noReply b.val = (s.endTx b.val).goOffline o.robot true := by
  have hnot : ¬ (o.tx.cls = .query ∧ o.tx.req = .poll) := fun h => hlost.elim (· h.1) (· h.2)
  simp only [noReply, hcur, Nat.not_le.mpr hused, if_false, hnot]

end State

/-- Settles O45: the sending is repeated, or the probe ends, or the robot is lost. -/
theorem noReplyRetriesThenLosesTheRobot : Obligations.NoReplyRetriesThenLosesTheRobot := by
  intro s b o i hreset hi hcur hr
  have hexec : exec i s = .next (s.noReply b.val) := by
    obtain rfl | rfl := hi <;> exact exec_event_of_working rfl rfl hreset
  refine ⟨fun hleft => ?_, fun hused hprobe hpoll => ?_, fun lost hused hother henabled hbuses hlost => ?_⟩
  · exact ⟨_, hexec.trans (congrArg _ (State.noReply_of_left hcur hleft)), tget_tset_self _ _ _ _ b.isLt,
      fun c hc => tget_tset_ne _ _ _ _ _ hc, rfl⟩
  · exact ⟨_, hexec.trans (congrArg _ (State.noReply_of_probe hcur hused hprobe hpoll)), tget_tset_self _ _ _ _ b.isLt,
      fun c hc => tget_tset_ne _ _ _ _ _ hc, tget_tset_self _ _ _ _ hr, fun q hq => tget_tset_ne _ _ _ _ _ hq, rfl⟩
  · obtain ⟨t, hoffline, hstation, hdue⟩ := State.goOffline_spec (s := s.endTx b.val) hr henabled hlost true
    have habsent : ((s.endTx b.val).endOnBuses o.robot).buses = (s.endTx b.val).buses :=
      State.endOnBuses_of_absent fun c y hy => by
        by_cases hc : c = b.val
        · subst hc
          rw [State.bus_endTx_self] at hy
          cases hy
        · rw [State.bus_endTx_ne s hc] at hy
          exact hbuses c y hc hy
    rw [habsent] at hoffline
    refine ⟨_, hexec.trans (congrArg _ ((State.noReply_of_lost hcur hused hother).trans hoffline)), tget_tset_self _ _ _ _ hr,
      fun q hq => tget_tset_ne _ _ _ _ _ hq, tget_tset_self _ _ _ _ hr, fun q hq => tget_tset_ne _ _ _ _ _ hq,
      tget_tset_self _ _ _ _ hr, fun q hq => tget_tset_ne _ _ _ _ _ hq, fun n => ?_, hstation, State.bus_endTx_self s b,
      fun c hc => State.bus_endTx_ne s hc, hdue, ?_⟩
    · exact State.prog_released _ _ n
    · cases lost <;> rfl

end Machine
end Sys2Proof
end

section
/-!
SUPPORT. One millisecond (R66, R70, R73, R150, R161, R165, R168): each timer family as a pass over its table (O29).
-/
namespace Sys2Proof
namespace Machine

/-! ### A pass over a table -/

/-- A pass of steps, each of which changes the entry of its own index alone, and that by what the entry and the rest of the state
hold: the entry of every index is changed once. -/
theorem foldl_pointwise {S α β : Type} {step : S → Nat → S} {get : S → Nat → α} {next : Nat → S → α} {rest : S → β}
    {ok : Nat → S → Prop} (hself : ∀ i s, ok i s → get (step s i) i = next i s)
    (hne : ∀ i j s, ok i s → j ≠ i → get (step s i) j = get s j) (hrest : ∀ i s, ok i s → rest (step s i) = rest s)
    (hlocal : ∀ i s t, get t i = get s i → rest t = rest s → next i t = next i s ∧ (ok i s → ok i t)) {l : List Nat}
    (hl : l.Nodup) {s : S} (hok : ∀ i ∈ l, ok i s) :
    (∀ j, get (l.foldl step s) j = if j ∈ l then next j s else get s j) ∧ rest (l.foldl step s) = rest s := by
  induction l generalizing s with
  | nil => exact ⟨fun j => by simp, rfl⟩
  | cons i l ih =>
    obtain ⟨hnot, hnodup⟩ := List.nodup_cons.mp hl
    have hi := hok i List.mem_cons_self
    have hother : ∀ j ∈ l, next j (step s i) = next j s ∧ (ok j s → ok j (step s i)) := fun j hj =>
      hlocal j s (step s i) (hne i j s hi fun hji => hnot (hji ▸ hj)) (hrest i s hi)
    obtain ⟨hget, hframe⟩ := ih hnodup fun j hj => (hother j hj).2 (hok j (List.mem_cons_of_mem _ hj))
    refine ⟨fun j => (hget j).trans ?_, hframe.trans (hrest i s hi)⟩
    by_cases hj : j ∈ l
    · rw [if_pos hj, if_pos (List.mem_cons_of_mem _ hj), (hother j hj).1]
    · rw [if_neg hj]
      by_cases hji : j = i
      · subst hji
        rw [if_pos List.mem_cons_self, hself j s hi]
      · rw [if_neg (by simp [hj, hji]), hne i j s hi hji]

namespace State

variable {s t : State} {i r : Nat}

/-! ### The stations' timers (R44, R70, R72, R73) -/

/-- A line's presence with its confirm and echo timers one millisecond on; `c` is the confirm time. -/
def tickedPresence (c : Nat) (x : Presence) : Presence :=
  { x with
    confirm := if x.window = .closed then x.confirm else x.confirm + 1
    echo := if c ≤ x.echoTimer + 1 then .none else x.echo
    echoTimer := if x.echo = .none then x.echoTimer else if c ≤ x.echoTimer + 1 then 0 else x.echoTimer + 1 }

/-- A station with its stopwatch one millisecond on. -/
def tickedStation (x : Station) : Station :=
  if x.running then { x with
    watch := if x.watchMs + 1 < 10 then x.watch else min 65535 (x.watch + 1)
    watchMs := if x.watchMs + 1 < 10 then x.watchMs + 1 else 0 }
  else x

/-- No window expires and no overrun is raised at station `i` in this millisecond. -/
def QuietStation (i : Nat) (s : State) : Prop :=
  i < 16 ∧ ((s.presence i).window = .closed ∨ (s.presence i).confirm + 1 < (s.stationRec i).confirm) ∧
    ((s.station i).running = true → (s.station i).watch + 1 < (s.station i).budget ∨ (s.station i).overrunRaised = true)

/-- A line's presence replaced. -/
def withPresence (i : Nat) (x : Presence) (s : State) : State := { s with lines := tset s.lines i x }

theorem withPresence_self : s.withPresence i (s.presence i) = s :=
  congrArg (fun v => { s with lines := v }) (tset_tget_self _ _ _)

theorem tickWindow_of_quiet (hi : QuietStation i s) : s.tickWindow i = s.withPresence i { s.presence i with
    confirm := if (s.presence i).window = .closed then (s.presence i).confirm else (s.presence i).confirm + 1 } := by
  obtain ⟨-, hwindow, -⟩ := hi
  by_cases hclosed : (s.presence i).window = .closed
  · rw [tickWindow, if_pos hclosed, if_pos hclosed]
    exact withPresence_self.symm
  · have hlt := hwindow.resolve_left hclosed
    rw [tickWindow, if_neg hclosed, if_neg (Nat.not_le.mpr hlt), if_neg hclosed]
    rfl

theorem tickEcho_eq : s.tickEcho i = s.withPresence i { s.presence i with
    echo := if (s.stationRec i).confirm ≤ (s.presence i).echoTimer + 1 then .none else (s.presence i).echo
    echoTimer := if (s.presence i).echo = .none then (s.presence i).echoTimer
      else if (s.stationRec i).confirm ≤ (s.presence i).echoTimer + 1 then 0 else (s.presence i).echoTimer + 1 } := by
  by_cases hnone : (s.presence i).echo = .none
  · simp only [tickEcho, hnone, if_true, ite_self]
    have hsame : ({ s.presence i with echo := .none } : Presence) = s.presence i := by rw [← hnone]
    rw [hsame, withPresence_self]
  · by_cases hdone : (s.stationRec i).confirm ≤ (s.presence i).echoTimer + 1
    · simp only [tickEcho, hnone, if_false, hdone, if_true, expireEcho]
      rfl
    · simp only [tickEcho, hnone, if_false, hdone]
      rfl

theorem advanceWatch_eq (x : Station) : advanceWatch x = { x with
    watch := if x.watchMs + 1 < 10 then x.watch else min 65535 (x.watch + 1)
    watchMs := if x.watchMs + 1 < 10 then x.watchMs + 1 else 0 } := by
  unfold advanceWatch
  split <;> rfl

theorem tickWatch_of_quiet (hlt : i < 16)
    (hwatch : (s.station i).running = true → (s.station i).watch + 1 < (s.station i).budget ∨ (s.station i).overrunRaised = true) :
    s.tickWatch i = { s with stations := tset s.stations i (tickedStation (s.station i)) } := by
  by_cases hrunning : (s.station i).running = true
  · have hread : (s.modStation i advanceWatch).station i = advanceWatch (s.station i) := station_modStation_self _ _ _ hlt
    have hquiet : (if (advanceWatch (s.station i)).budget ≤ (advanceWatch (s.station i)).watch
        then (s.modStation i advanceWatch).overrunAt i else s.modStation i advanceWatch) = s.modStation i advanceWatch := by
      obtain hbudget | hraised := hwatch hrunning
      · refine if_neg ?_
        rw [advanceWatch_eq]
        change ¬ (s.station i).budget ≤ if (s.station i).watchMs + 1 < 10 then (s.station i).watch else min 65535 ((s.station i).watch + 1)
        split <;> omega
      · have hover : (s.modStation i advanceWatch).overrunAt i = s.modStation i advanceWatch := by
          refine if_neg ?_
          rw [hread, advanceWatch_eq]
          simp [hraised]
        rw [hover, ite_self]
    have hadvance : advanceWatch (s.station i) = tickedStation (s.station i) := by
      rw [advanceWatch_eq, tickedStation, if_pos hrunning]
    rw [tickWatch, if_pos hrunning]
    simp only [hread]
    rw [hquiet, modStation, hadvance]
  · have hsame : tset s.stations i (s.station i) = s.stations := tset_tget_self _ _ _
    rw [tickWatch, if_neg hrunning, tickedStation, if_neg hrunning, hsame]

/-- One millisecond of a station's three timers. -/
def stationTick (s : State) (i : Nat) : State := ((s.tickWindow i).tickEcho i).tickWatch i

theorem stationTick_eq (hi : QuietStation i s) : s.stationTick i = { s with
    lines := tset s.lines i (tickedPresence (s.stationRec i).confirm (s.presence i))
    stations := tset s.stations i (tickedStation (s.station i)) } := by
  obtain ⟨hlt, -, hwatch⟩ := id hi
  rw [stationTick, tickWindow_of_quiet hi, tickEcho_eq]
  generalize hx : ({ s.presence i with
    confirm := if (s.presence i).window = .closed then (s.presence i).confirm else (s.presence i).confirm + 1 } : Presence) = x
  have hread : (s.withPresence i x).presence i = x := tget_tset_self _ _ _ _ hlt
  rw [hread]
  have hrec : (s.withPresence i x).stationRec i = s.stationRec i := rfl
  rw [hrec]
  generalize hy : ({ x with
    echo := if (s.stationRec i).confirm ≤ x.echoTimer + 1 then .none else x.echo
    echoTimer := if x.echo = .none then x.echoTimer
      else if (s.stationRec i).confirm ≤ x.echoTimer + 1 then 0 else x.echoTimer + 1 } : Presence) = y
  have hfused : (s.withPresence i x).withPresence i y = s.withPresence i y :=
    congrArg (fun v => { s with lines := v }) (tset_tset _ _ _ _)
  have hyt : y = tickedPresence (s.stationRec i).confirm (s.presence i) := by rw [← hy, ← hx]; rfl
  rw [hfused, tickWatch_of_quiet (s := s.withPresence i y) hlt hwatch, hyt]
  rfl

end State
end Machine
end Sys2Proof
end

section
/-!
SUPPORT. One millisecond of the stations, the robots, the buses and the lines (O29).
-/
namespace Sys2Proof
namespace Machine
namespace State

variable {s t : State} {i r : Nat}

/-! ### The stations -/

/-- The state with its stations and lines set aside. -/
def asideStations (s : State) : State :=
  { s with stations := .replicate 16 (.powerOn 0 .line 0), lines := .replicate 16 (.powerOn .low) }

theorem eq_of_asideStations (h : t.asideStations = s.asideStations) : t = { s with stations := t.stations, lines := t.lines } :=
  congrArg (fun v : State => { v with stations := t.stations, lines := t.lines }) h

theorem foldl_stationTick (hquiet : ∀ i, i < 16 → QuietStation i s) :
    ∃ t, (List.range 16).foldl stationTick s = t ∧
      (∀ i, i < 16 → t.station i = tickedStation (s.station i) ∧
        t.presence i = tickedPresence (s.stationRec i).confirm (s.presence i)) ∧
      t = { s with stations := t.stations, lines := t.lines } := by
  have hlocal (i : Nat) (s t : State) (hget : (t.station i, t.presence i) = (s.station i, s.presence i))
      (hrest : t.asideStations = s.asideStations) :
      (tickedStation (t.station i), tickedPresence (t.stationRec i).confirm (t.presence i)) =
        (tickedStation (s.station i), tickedPresence (s.stationRec i).confirm (s.presence i)) ∧
        (QuietStation i s → QuietStation i t) := by
    obtain ⟨hstation, hpresence⟩ := Prod.mk.inj hget
    have hrec : t.stationRec i = s.stationRec i := by
      rw [eq_of_asideStations hrest]
      rfl
    simp only [QuietStation, hstation, hpresence, hrec, and_self, imp_self]
  obtain ⟨hget, hrest⟩ := foldl_pointwise (step := stationTick) (ok := QuietStation) (rest := asideStations)
    (get := fun u j => (u.station j, u.presence j))
    (next := fun j u => (tickedStation (u.station j), tickedPresence (u.stationRec j).confirm (u.presence j)))
    (fun i s hi => by
      rw [stationTick_eq hi]
      exact Prod.ext (tget_tset_self _ _ _ _ hi.1) (tget_tset_self _ _ _ _ hi.1))
    (fun i j s hi hj => by
      rw [stationTick_eq hi]
      exact Prod.ext (tget_tset_ne _ _ _ _ _ hj) (tget_tset_ne _ _ _ _ _ hj))
    (fun i s hi => by
      rw [stationTick_eq hi]
      rfl)
    hlocal (List.nodup_range (n := 16)) (s := s) (fun i hi => hquiet i (List.mem_range.mp hi))
  refine ⟨_, rfl, fun i hi => ?_, eq_of_asideStations hrest⟩
  have hi' := hget i
  rw [if_pos (List.mem_range.mpr hi)] at hi'
  exact Prod.mk.inj hi'

/-! ### The robots (R150, R165) -/

/-- A robot's context with its poll timer and its BUSY wait one millisecond on. -/
def tickedRobot (runs : Bool) (interval busyTime : Nat) (b : Robot) : Robot :=
  { b with
    pollTimer := if runs then min interval (b.pollTimer + 1) else b.pollTimer
    busy := match b.busy with
      | none => none
      | some w => if busyTime ≤ w.timer + 1 then none else some ⟨w.frame, w.timer + 1⟩ }

/-- A robot's pending transactions after the millisecond: the SELECT of a BUSY wait that has run, and the poll or the probe. -/
def tickedPend (line : LineRec) (runs : Bool) (interval : Nat) (b : Robot) (p : Pend) : Pend :=
  { abort := p.abort
    select := match b.busy with
      | none => p.select
      | some w => if line.pollInterval ≤ w.timer + 1 then
          some ⟨.select, .select w.frame, line.replyTimeout, line.retryLimit⟩ else p.select
    poll := if runs = true ∧ b.online = true ∧ interval ≤ b.pollTimer + 1 then
        some ⟨.poll, .poll, line.replyTimeout, line.retryLimit⟩ else p.poll
    query := if runs = true ∧ b.online = false ∧ interval ≤ b.pollTimer + 1
        then some ⟨.query, .poll, line.replyTimeout, 0⟩ else p.query }

theorem newTx_eq {cls : TxClass} {req : DropRequest} (h : ¬ (cls = .query ∧ req = .poll)) :
    s.newTx cls req = ⟨cls, req, s.line.replyTimeout, s.line.retryLimit⟩ := by
  rw [newTx, if_neg h]

/-- A robot's context and its pending transactions replaced. -/
def withRobot (r : Nat) (b : Robot) (p : Pend) (s : State) : State :=
  { s with robots := tset s.robots r b, pend := tset s.pend r p }

theorem withRobot_self : s.withRobot r (s.robot r) (s.pendOf r) = s := by
  rw [withRobot, robot, pendOf, tset_tget_self, tset_tget_self]

theorem modRobot_eq_withRobot (f : Robot → Robot) : s.modRobot r f = s.withRobot r (f (s.robot r)) (s.pendOf r) := by
  rw [withRobot, pendOf, tset_tget_self]
  rfl

theorem withRobot_withRobot (b b' : Robot) (p p' : Pend) : (s.withRobot r b p).withRobot r b' p' = s.withRobot r b' p' := by
  simp only [withRobot, tset_tset]

/-- The expiry of a poll timer (R165). -/
theorem expirePoll_of_runs (hruns : s.pollTimerRuns r = true) : s.expirePoll r = s.withRobot r
    { s.robot r with pollTimer := s.pollInterval r }
    (if (s.robot r).online then { s.pendOf r with poll := some ⟨.poll, .poll, s.line.replyTimeout, s.line.retryLimit⟩ }
      else { s.pendOf r with query := some ⟨.query, .poll, s.line.replyTimeout, 0⟩ }) := by
  rw [expirePoll, if_pos hruns]
  rfl

theorem tickPoll_eq : s.tickPoll r = s.withRobot r
    { s.robot r with
      pollTimer := if s.pollTimerRuns r then min (s.pollInterval r) ((s.robot r).pollTimer + 1) else (s.robot r).pollTimer }
    { s.pendOf r with
      poll := if s.pollTimerRuns r = true ∧ (s.robot r).online = true ∧ s.pollInterval r ≤ (s.robot r).pollTimer + 1 then
          some ⟨.poll, .poll, s.line.replyTimeout, s.line.retryLimit⟩ else (s.pendOf r).poll
      query := if s.pollTimerRuns r = true ∧ (s.robot r).online = false ∧ s.pollInterval r ≤ (s.robot r).pollTimer + 1
          then some ⟨.query, .poll, s.line.replyTimeout, 0⟩ else (s.pendOf r).query } := by
  by_cases hruns : s.pollTimerRuns r = true
  · by_cases hdone : s.pollInterval r ≤ (s.robot r).pollTimer + 1
    · have hmin : min (s.pollInterval r) ((s.robot r).pollTimer + 1) = s.pollInterval r := min_eq_left hdone
      rw [tickPoll, if_pos hruns, if_pos hdone, expirePoll_of_runs hruns, if_pos hruns, hmin]
      refine congrArg (fun p => s.withRobot r { s.robot r with pollTimer := s.pollInterval r } p) ?_
      simp only [hruns, hdone, true_and, and_true]
      cases (s.robot r).online <;> rfl
    · have hmin : min (s.pollInterval r) ((s.robot r).pollTimer + 1) = (s.robot r).pollTimer + 1 := by omega
      simp only [tickPoll, hruns, hdone, hmin, if_true, if_false, and_false]
      exact modRobot_eq_withRobot _
  · simp only [tickPoll, hruns, Bool.false_eq_true, if_false, false_and]
    exact withRobot_self.symm

theorem tickBusy_eq : s.tickBusy r = s.withRobot r
    { s.robot r with
      busy := match (s.robot r).busy with
        | none => none
        | some w => if s.line.pollInterval ≤ w.timer + 1 then none else some ⟨w.frame, w.timer + 1⟩ }
    { s.pendOf r with
      select := match (s.robot r).busy with
        | none => (s.pendOf r).select
        | some w => if s.line.pollInterval ≤ w.timer + 1 then
            some ⟨.select, .select w.frame, s.line.replyTimeout, s.line.retryLimit⟩ else (s.pendOf r).select } := by
  unfold tickBusy
  cases hbusy : (s.robot r).busy with
  | none =>
    have hsame : ({ s.robot r with busy := none } : Robot) = s.robot r := by rw [← hbusy]
    dsimp only
    rw [hsame]
    exact withRobot_self.symm
  | some w =>
    by_cases hdone : s.line.pollInterval ≤ w.timer + 1
    · simp only [hdone, if_true, expireBusy, hbusy]
      rfl
    · simp only [hdone, if_false]
      exact modRobot_eq_withRobot _

/-- One millisecond of a robot's two timers. -/
def robotTick (s : State) (r : Nat) : State := (s.tickPoll r).tickBusy r

theorem robotTick_eq (hr : r < 32) : s.robotTick r = s.withRobot r
    (tickedRobot (s.pollTimerRuns r) (s.pollInterval r) s.line.pollInterval (s.robot r))
    (tickedPend s.line (s.pollTimerRuns r) (s.pollInterval r) (s.robot r) (s.pendOf r)) := by
  rw [robotTick, tickPoll_eq, tickBusy_eq, withRobot_withRobot]
  generalize hb : ({ s.robot r with
    pollTimer := if s.pollTimerRuns r then min (s.pollInterval r) ((s.robot r).pollTimer + 1) else (s.robot r).pollTimer } : Robot) = b
  generalize hp : ({ s.pendOf r with
    poll := if s.pollTimerRuns r = true ∧ (s.robot r).online = true ∧ s.pollInterval r ≤ (s.robot r).pollTimer + 1 then
        some ⟨.poll, .poll, s.line.replyTimeout, s.line.retryLimit⟩ else (s.pendOf r).poll
    query := if s.pollTimerRuns r = true ∧ (s.robot r).online = false ∧ s.pollInterval r ≤ (s.robot r).pollTimer + 1
        then some ⟨.query, .poll, s.line.replyTimeout, 0⟩ else (s.pendOf r).query } : Pend) = p
  have hrobot : (s.withRobot r b p).robot r = b := tget_tset_self _ _ _ _ hr
  have hpend : (s.withRobot r b p).pendOf r = p := tget_tset_self _ _ _ _ hr
  have hline : (s.withRobot r b p).line = s.line := rfl
  rw [hrobot, hpend, hline, ← hb, ← hp]
  rfl

theorem pollTimerRuns_congr (hlayout : t.layout = s.layout) (hbuses : t.buses = s.buses) (hrobot : t.robot r = s.robot r)
    (hpend : t.pendOf r = s.pendOf r) : t.pollTimerRuns r = s.pollTimerRuns r := by
  simp only [pollTimerRuns, place, hlayout, hrobot, hpend, probePending, pollOnBus, hbuses]

/-- The state with its robots and their pending transactions set aside. -/
def asideRobots (s : State) : State := { s with robots := .replicate 32 .reset, pend := .replicate 32 .reset }

theorem eq_of_asideRobots (h : t.asideRobots = s.asideRobots) : t = { s with robots := t.robots, pend := t.pend } :=
  congrArg (fun v : State => { v with robots := t.robots, pend := t.pend }) h

theorem foldl_robotTick :
    ∃ t, (List.range 32).foldl robotTick s = t ∧
      (∀ r, r < 32 → t.robot r = tickedRobot (s.pollTimerRuns r) (s.pollInterval r) s.line.pollInterval (s.robot r) ∧
        t.pendOf r = tickedPend s.line (s.pollTimerRuns r) (s.pollInterval r) (s.robot r) (s.pendOf r)) ∧
      t = { s with robots := t.robots, pend := t.pend } := by
  have hlocal (r : Nat) (s t : State) (hget : (t.robot r, t.pendOf r) = (s.robot r, s.pendOf r))
      (hrest : t.asideRobots = s.asideRobots) :
      (tickedRobot (t.pollTimerRuns r) (t.pollInterval r) t.line.pollInterval (t.robot r),
        tickedPend t.line (t.pollTimerRuns r) (t.pollInterval r) (t.robot r) (t.pendOf r)) =
        (tickedRobot (s.pollTimerRuns r) (s.pollInterval r) s.line.pollInterval (s.robot r),
          tickedPend s.line (s.pollTimerRuns r) (s.pollInterval r) (s.robot r) (s.pendOf r)) ∧ (r < 32 → r < 32) := by
    obtain ⟨hrobot, hpend⟩ := Prod.mk.inj hget
    have hframe := eq_of_asideRobots hrest
    have hlayout : t.layout = s.layout := by rw [hframe]
    have hbuses : t.buses = s.buses := by rw [hframe]
    simp only [pollTimerRuns_congr hlayout hbuses hrobot hpend, pollInterval, line, hlayout, hrobot, hpend, imp_self, and_self]
  obtain ⟨hget, hrest⟩ := foldl_pointwise (step := robotTick) (ok := fun r _ => r < 32) (rest := asideRobots)
    (get := fun u j => (u.robot j, u.pendOf j))
    (next := fun j u => (tickedRobot (u.pollTimerRuns j) (u.pollInterval j) u.line.pollInterval (u.robot j),
      tickedPend u.line (u.pollTimerRuns j) (u.pollInterval j) (u.robot j) (u.pendOf j)))
    (fun i s hi => by
      rw [robotTick_eq hi]
      exact Prod.ext (tget_tset_self _ _ _ _ hi) (tget_tset_self _ _ _ _ hi))
    (fun i j s hi hj => by
      rw [robotTick_eq hi]
      exact Prod.ext (tget_tset_ne _ _ _ _ _ hj) (tget_tset_ne _ _ _ _ _ hj))
    (fun i s hi => by
      rw [robotTick_eq hi]
      rfl)
    hlocal (List.nodup_range (n := 32)) (s := s) (fun i hi => List.mem_range.mp hi)
  refine ⟨_, rfl, fun r hr => ?_, eq_of_asideRobots hrest⟩
  have hr' := hget r
  rw [if_pos (List.mem_range.mpr hr)] at hr'
  exact Prod.mk.inj hr'

/-! ### The buses (R160 to R162, R168) -/

/-- A bus with its pace timer and its wait for a reply one millisecond on, the sending repeated where the wait has run. -/
def tickedBus (x : Bus) : Bus :=
  match x.cur with
  | none => { x with pace := min 250 (x.pace + 1) }
  | some o =>
    if o.tx.timeout ≤ o.waited + 1 then
      { x with
        cur := some { o with sendings := o.sendings + 1, waited := 0 }
        pace := if isLoadData o.tx.req then 0 else min 250 (x.pace + 1) }
    else { x with cur := some { o with waited := o.waited + 1 }, pace := min 250 (x.pace + 1) }

theorem tickedBus_of_idle {x : Bus} (hcur : x.cur = none) : tickedBus x = { x with pace := min 250 (x.pace + 1) } := by
  unfold tickedBus
  split
  · rfl
  · next o ho => cases hcur.symm.trans ho

/-- Bus `b` loses no robot in this millisecond. -/
def QuietBus (b : Nat) (s : State) : Prop :=
  b < 4 ∧ ∀ o, (s.bus b).cur = some o → o.waited + 1 < o.tx.timeout ∨ o.sendings ≤ o.tx.retries

/-- One millisecond of a bus's two timers. -/
def busTick (s : State) (b : Nat) : State := (s.tickPace b).tickReply b

theorem busTick_eq {b : Nat} (hb : QuietBus b s) : s.busTick b = { s with buses := tset s.buses b (tickedBus (s.bus b)) } := by
  obtain ⟨hlt, hquiet⟩ := hb
  generalize hx : ({ s.bus b with pace := min 250 ((s.bus b).pace + 1) } : Bus) = x
  have hpace : s.tickPace b = { s with buses := tset s.buses b x } := by rw [← hx]; rfl
  generalize hu : ({ s with buses := tset s.buses b x } : State) = u at hpace
  have hread : u.bus b = x := by
    rw [← hu]
    exact tget_tset_self _ _ _ _ hlt
  have hset (y : Bus) : ({ u with buses := tset u.buses b y } : State) = { s with buses := tset s.buses b y } := by
    rw [← hu]
    exact congrArg (fun v => { s with buses := v }) (tset_tset _ _ _ _)
  have hcur : x.cur = (s.bus b).cur := by rw [← hx]
  rw [busTick, hpace]
  unfold tickReply
  rw [hread, hcur]
  cases ho : (s.bus b).cur with
  | none =>
    have hnone : tickedBus (s.bus b) = x := (tickedBus_of_idle ho).trans hx
    rw [hnone, ← hu]
  | some o =>
    dsimp only
    by_cases hdone : o.tx.timeout ≤ o.waited + 1
    · have hleft : o.sendings ≤ o.tx.retries := (hquiet o ho).resolve_left (Nat.not_lt.mpr hdone)
      have hsent : u.noReply b = { u with buses := tset u.buses b { x with
          cur := some { o with sendings := o.sendings + 1, waited := 0 }
          pace := if isLoadData o.tx.req then 0 else x.pace } } := by
        rw [← hread]
        exact noReply_of_left (b := ⟨b, hlt⟩) ((congrArg Bus.cur hread).trans (hcur.trans ho)) hleft
      have hsome : tickedBus (s.bus b) = { x with
          cur := some { o with sendings := o.sendings + 1, waited := 0 }
          pace := if isLoadData o.tx.req then 0 else x.pace } := by
        rw [← hx, tickedBus, ho]
        exact if_pos hdone
      rw [if_pos hdone, hsent, hset, hsome]
    · have hsome : tickedBus (s.bus b) = { x with cur := some { o with waited := o.waited + 1 } } := by
        rw [← hx, tickedBus, ho]
        exact if_neg hdone
      rw [if_neg hdone, modBus, hread, hset, hsome]

/-- The state with its buses set aside. -/
def asideBuses (s : State) : State := { s with buses := .replicate 4 .reset }

theorem eq_of_asideBuses (h : t.asideBuses = s.asideBuses) : t = { s with buses := t.buses } :=
  congrArg (fun v : State => { v with buses := t.buses }) h

theorem foldl_busTick (hquiet : ∀ b, b < 4 → QuietBus b s) :
    ∃ t, (List.range 4).foldl busTick s = t ∧ (∀ b, b < 4 → t.bus b = tickedBus (s.bus b)) ∧ t = { s with buses := t.buses } := by
  obtain ⟨hget, hrest⟩ := foldl_pointwise (step := busTick) (ok := QuietBus) (rest := asideBuses) (get := bus)
    (next := fun j u => tickedBus (u.bus j))
    (fun i s hi => by
      rw [busTick_eq hi]
      exact tget_tset_self _ _ _ _ hi.1)
    (fun i j s hi hj => by
      rw [busTick_eq hi]
      exact tget_tset_ne _ _ _ _ _ hj)
    (fun i s hi => by
      rw [busTick_eq hi]
      rfl)
    (fun i s t hget hrest => by simp only [QuietBus, hget, imp_self, and_self])
    (List.nodup_range (n := 4)) (s := s) (fun i hi => hquiet i (List.mem_range.mp hi))
  exact ⟨_, rfl, fun b hb => (hget b).trans (if_pos (List.mem_range.mpr hb)), eq_of_asideBuses hrest⟩

/-! ### The lines (R66, R67) -/

/-- A line's presence after one sample; `f` is the filter time. -/
def sampledPresence (f : Nat) (x : Presence) : Presence :=
  { x with
    accepted := if f ≤ x.filter + 1 then x.pin else x.accepted
    filter := if x.pin = x.accepted ∨ f ≤ x.filter + 1 then 0 else x.filter + 1 }

/-- No change of line `i` is reported in this millisecond. -/
def QuietLine (i : Nat) (s : State) : Prop :=
  i < 16 ∧ ((s.presence i).pin = (s.presence i).accepted ∨ (s.presence i).filter + 1 < (s.stationRec i).filter ∨
    s.mode = .setup ∨ s.stationCount ≤ i ∨ (s.station i).source = .frame)

theorem sampleLine_eq (hi : QuietLine i s) :
    s.sampleLine i = s.withPresence i (sampledPresence (s.stationRec i).filter (s.presence i)) := by
  obtain ⟨-, hquiet⟩ := hi
  by_cases hsame : (s.presence i).pin = (s.presence i).accepted
  · have hticked : sampledPresence (s.stationRec i).filter (s.presence i) = { s.presence i with filter := 0 } := by
      have haccepted : (if (s.stationRec i).filter ≤ (s.presence i).filter + 1 then (s.presence i).pin
          else (s.presence i).accepted) = (s.presence i).accepted := by rw [hsame, ite_self]
      rw [sampledPresence, haccepted, if_pos (.inl hsame)]
    rw [hticked, sampleLine, if_pos hsame]
    rfl
  · by_cases hdone : (s.stationRec i).filter ≤ (s.presence i).filter + 1
    · have hnot : s.mode = .setup ∨ s.stationCount ≤ i ∨ (s.station i).source = .frame :=
        (hquiet.resolve_left hsame).resolve_left (Nat.not_lt.mpr hdone)
      have hreport : (s.accept i (s.presence i).pin).presenceReport i (s.present i) = (s.accept i (s.presence i).pin, none) := by
        obtain hsetup | hout | hframe := hnot
        · exact presenceReport_of_unreported (s := s.accept i (s.presence i).pin) (.inl hsetup)
        · exact presenceReport_of_unreported (s := s.accept i (s.presence i).pin) (.inr (.inl hout))
        · exact presenceReport_of_frame (s := s.accept i (s.presence i).pin) _ hframe
      rw [sampleLine, if_neg hsame, if_pos hdone, hreport, sampledPresence, if_pos hdone, if_pos (.inr hdone)]
      rfl
    · rw [sampleLine, if_neg hsame, if_neg hdone, sampledPresence, if_neg hdone, if_neg (not_or.mpr ⟨hsame, hdone⟩)]
      rfl

/-- The state with its lines set aside. -/
def asideLines (s : State) : State := { s with lines := .replicate 16 (.powerOn .low) }

theorem eq_of_asideLines (h : t.asideLines = s.asideLines) : t = { s with lines := t.lines } :=
  congrArg (fun v : State => { v with lines := t.lines }) h

theorem foldl_sampleLine (hquiet : ∀ i, i < 16 → QuietLine i s) :
    ∃ t, (List.range 16).foldl (fun t i => t.sampleLine i) s = t ∧
      (∀ i, i < 16 → t.presence i = sampledPresence (s.stationRec i).filter (s.presence i)) ∧ t = { s with lines := t.lines } := by
  have hlocal (i : Nat) (s t : State) (hget : t.presence i = s.presence i) (hrest : t.asideLines = s.asideLines) :
      sampledPresence (t.stationRec i).filter (t.presence i) = sampledPresence (s.stationRec i).filter (s.presence i) ∧
        (QuietLine i s → QuietLine i t) := by
    have hframe := eq_of_asideLines hrest
    have hrec : t.stationRec i = s.stationRec i := by rw [hframe]; rfl
    have hstation : t.station i = s.station i := by rw [hframe]; rfl
    have hmode : t.mode = s.mode ∧ t.stationCount = s.stationCount := by rw [hframe]; exact ⟨rfl, rfl⟩
    simp only [QuietLine, hget, hrec, hstation, hmode, imp_self, and_self]
  obtain ⟨hget, hrest⟩ := foldl_pointwise (step := fun (t : State) i => t.sampleLine i) (ok := QuietLine) (rest := asideLines)
    (get := presence) (next := fun j u => sampledPresence (u.stationRec j).filter (u.presence j))
    (fun i s hi => by
      rw [sampleLine_eq hi]
      exact tget_tset_self _ _ _ _ hi.1)
    (fun i j s hi hj => by
      rw [sampleLine_eq hi]
      exact tget_tset_ne _ _ _ _ _ hj)
    (fun i s hi => by
      rw [sampleLine_eq hi]
      rfl)
    hlocal (List.nodup_range (n := 16)) (s := s) (fun i hi => hquiet i (List.mem_range.mp hi))
  exact ⟨_, rfl, fun i hi => (hget i).trans (if_pos (List.mem_range.mpr hi)), eq_of_asideLines hrest⟩

end State
end Machine
end Sys2Proof
end

section
/-!
SUPPORT. The millisecond as one, the expiries of the timers, and O29.
-/
namespace Sys2Proof
namespace Machine
namespace State

variable {s : State} {i r : Nat}

/-! ### The millisecond -/

theorem source_tickedStation (x : Station) : (tickedStation x).source = x.source := by
  unfold tickedStation
  split <;> rfl

/-- A millisecond in which no window expires, no overrun is raised, no robot is lost and no change of a line is reported. -/
theorem tick_of_quiet (hstations : ∀ i, i < 16 → QuietStation i s) (hbuses : ∀ b, b < 4 → QuietBus b s)
    (hlines : ∀ i, i < 16 → QuietLine i s) :
    ∃ t, s.tick = t ∧
      (∀ i, i < 16 → t.presence i =
        sampledPresence (s.stationRec i).filter (tickedPresence (s.stationRec i).confirm (s.presence i))) ∧
      (∀ i, i < 16 → t.station i = tickedStation (s.station i)) ∧
      (∀ r, r < 32 → t.robot r = tickedRobot (s.pollTimerRuns r) (s.pollInterval r) s.line.pollInterval (s.robot r) ∧
        t.pendOf r = tickedPend s.line (s.pollTimerRuns r) (s.pollInterval r) (s.robot r) (s.pendOf r)) ∧
      (∀ b, b < 4 → t.bus b = tickedBus (s.bus b)) ∧
      t = { s with stations := t.stations, lines := t.lines, robots := t.robots, pend := t.pend, buses := t.buses } := by
  obtain ⟨t₁, h₁, hstation, hframe₁⟩ := foldl_stationTick hstations
  obtain ⟨t₂, h₂, hrobot, hframe₂⟩ := foldl_robotTick (s := t₁)
  have hbus₁ : ∀ b, t₁.bus b = s.bus b := fun b => by rw [hframe₁]; rfl
  have hbus₂ : ∀ b, t₂.bus b = s.bus b := fun b => by rw [← hbus₁, hframe₂]; rfl
  obtain ⟨t₃, h₃, hbus, hframe₃⟩ := foldl_busTick (s := t₂) fun b hb => ⟨hb, by rw [hbus₂]; exact (hbuses b hb).2⟩
  have hkept₃ : t₃.stations = t₁.stations ∧ t₃.lines = t₁.lines ∧ t₃.layout = s.layout ∧ t₃.mode = s.mode := by
    rw [hframe₃, hframe₂]
    refine ⟨rfl, rfl, ?_, ?_⟩ <;> rw [hframe₁]
  obtain ⟨hstations₃, hlines₃, hlayout₃, hmode₃⟩ := hkept₃
  have hpresence₃ : ∀ i, i < 16 → t₃.presence i = tickedPresence (s.stationRec i).confirm (s.presence i) := fun i hi => by
    rw [presence, hlines₃]
    exact (hstation i hi).2
  have hstation₃ : ∀ i, i < 16 → t₃.station i = tickedStation (s.station i) := fun i hi => by
    rw [station, hstations₃]
    exact (hstation i hi).1
  have hrec₃ : ∀ i, t₃.stationRec i = s.stationRec i := fun i => by rw [stationRec, stationRec, hlayout₃]
  obtain ⟨t₄, h₄, hpresence, hframe₄⟩ := foldl_sampleLine (s := t₃) fun i hi => by
    refine ⟨hi, ?_⟩
    rw [hpresence₃ i hi, hstation₃ i hi, hrec₃, hmode₃, source_tickedStation, stationCount, hlayout₃]
    exact (hlines i hi).2
  have htick : s.tick = t₄ := by
    rw [← h₄, ← h₃, ← h₂, ← h₁]
    rfl
  have hruns : ∀ r, t₁.pollTimerRuns r = s.pollTimerRuns r ∧ t₁.pollInterval r = s.pollInterval r ∧ t₁.line = s.line ∧
      t₁.robot r = s.robot r ∧ t₁.pendOf r = s.pendOf r := fun r => by
    rw [hframe₁]
    exact ⟨rfl, rfl, rfl, rfl, rfl⟩
  refine ⟨t₄, htick, fun i hi => ?_, fun i hi => ?_, fun r hr => ?_, fun b hb => ?_, ?_⟩
  · rw [hpresence i hi, hpresence₃ i hi, hrec₃]
  · rw [hframe₄]
    exact hstation₃ i hi
  · have hr' := hrobot r hr
    obtain ⟨hruns, hinterval, hline, hrobot₁, hpend₁⟩ := hruns r
    rw [hruns, hinterval, hline, hrobot₁, hpend₁] at hr'
    rw [hframe₄, hframe₃]
    exact hr'
  · have hb' := hbus b hb
    rw [hbus₂] at hb'
    rw [hframe₄]
    exact hb'
  · have hall : t₄ = { t₁ with lines := t₄.lines, robots := t₄.robots, pend := t₄.pend, buses := t₄.buses } := by
      rw [hframe₄, hframe₃, hframe₂]
    rw [hall, hframe₁]

theorem arbiterPick_of_nothing {b : Fin 4} (h : ∀ c r, s.eligibleTx b c r = none) : s.arbiterPick b = none := by
  simp [arbiterPick, nextOfClass, List.findSome?_eq_none_iff, h]

/-- With nothing to send, nothing owed and nothing to choose, an empty queue is a millisecond (log entry 1). -/
theorem step_of_tick (hpending : s.pending = []) (hreset : s.resetInput = false) (hdue : s.due = [])
    (hports : ∀ p, p < 4 → (s.port p).reply = none ∨ (s.port p).sending = true)
    (hbuses : ∀ b : Fin 4, (s.bus b.val).cur ≠ none ∨ ∀ c r, s.eligibleTx b c r = none) : step s = .next s.tick := by
  have hreplies : ([0, 1, 2, 3] : List (Fin 4)).find? (fun p => s.replyWaits p) = none := by
    rw [List.find?_eq_none]
    intro p _
    obtain hnone | hsending := hports p.val p.isLt
    · simp [replyWaits, hnone]
    · simp [replyWaits, hsending]
  have hchoices : ([0, 1, 2, 3] : List (Fin 4)).find? (fun b => s.mayArbitrate b) = none := by
    rw [List.find?_eq_none]
    intro b _
    obtain hbusy | hnothing := hbuses b
    · simp [mayArbitrate, hbusy]
    · simp [mayArbitrate, arbiterPick_of_nothing hnothing]
  simp only [step, hpending, idle, hreset, Bool.false_eq_true, if_false, hreplies, hdue, hchoices]

/-! ### When a poll timer runs (R165) -/

theorem shared_eq_false_iff {p : RobotRec} (hp : s.place r = some p) : s.layout.shared r = false ↔
    ∀ q p', q < 32 → q ≠ r → s.place q = some p' → p'.bus ≠ p.bus ∨ p'.drop ≠ p.drop := by
  have hrec : s.layout.robotRec r = some p := hp
  have haddress (p' : RobotRec) : p.sameAddress p' = false ↔ p'.bus ≠ p.bus ∨ p'.drop ≠ p.drop := by
    simp only [RobotRec.sameAddress, Bool.and_eq_false_iff, beq_eq_false_iff_ne, ne_comm]
  simp only [Layout.shared, hrec, List.any_eq_false, List.mem_range, Bool.not_eq_true, Bool.and_eq_false_iff,
    bne_eq_false_iff_eq]
  constructor
  · intro h q p' hq hqr hplace
    have hplace' : s.layout.robotRec q = some p' := hplace
    have hfalse := (h q hq).resolve_left hqr
    rw [hplace'] at hfalse
    exact (haddress p').mp hfalse
  · intro h q hq
    by_cases hqr : q = r
    · exact .inl hqr
    · refine .inr ?_
      cases hplace : s.layout.robotRec q with
      | none => rfl
      | some p' => exact (haddress p').mpr (h q p' hq hqr hplace)

theorem pollOnBus_eq_false_iff : s.pollOnBus r = false ↔
    ∀ b o, b < 4 → (s.bus b).cur = some o → o.robot = r → o.tx.req ≠ .poll := by
  simp only [pollOnBus, List.any_eq_false, Bool.not_eq_true]
  constructor
  · intro h b o hb hcur hrobot hpoll
    have hfalse := h s.buses[b] (Vector.mem_toList_iff.mpr (Vector.getElem_mem hb))
    rw [← bus_eq_getElem hb, hcur] at hfalse
    simp [hrobot, hpoll] at hfalse
  · intro h x hx
    obtain ⟨b, hb, rfl⟩ := Vector.getElem_of_mem (Vector.mem_toList_iff.mp hx)
    rw [← bus_eq_getElem hb]
    cases hcur : (s.bus b).cur with
    | none => rfl
    | some o =>
      have hnot := h b o hb hcur
      simpa [or_iff_not_imp_left] using hnot

theorem probePending_eq_false_iff : s.probePending r = false ↔ ∀ tx, (s.pendOf r).query = some tx → tx.req ≠ .poll := by
  unfold probePending
  cases (s.pendOf r).query <;> simp

theorem name_ne_selecting_iff (m : Motion) : m.name ≠ .selecting ↔ ∀ sel, m ≠ .selecting sel := by
  cases m <;> simp [Motion.name]

theorem pollTimerRuns_eq_true_iff : s.pollTimerRuns r = true ↔
    (∃ p, s.place r = some p ∧ ∀ q p', q < 32 → q ≠ r → s.place q = some p' → p'.bus ≠ p.bus ∨ p'.drop ≠ p.drop) ∧
      (∀ sel, (s.robot r).motion ≠ .selecting sel) ∧ (s.pendOf r).poll = none ∧
      (∀ tx, (s.pendOf r).query = some tx → tx.req ≠ .poll) ∧
      ∀ b o, b < 4 → (s.bus b).cur = some o → o.robot = r → o.tx.req ≠ .poll := by
  simp only [pollTimerRuns, Bool.and_eq_true, Bool.not_eq_true', bne_iff_ne, Option.isNone_iff_eq_none,
    probePending_eq_false_iff, pollOnBus_eq_false_iff, name_ne_selecting_iff]
  cases hp : s.place r with
  | none => simp
  | some p => simp [shared_eq_false_iff hp, and_assoc]

theorem pollInterval_eq (s : State) (r : Nat) : s.pollInterval r =
    if (s.robot r).online = true ∧ (s.robot r).motion ≠ .idle then s.line.pollInterval else s.line.probeInterval := rfl

end State

/-! ### The expiries -/

section
variable {s : State} {i : Nat} (hreset : s.resetInput = false)
include hreset

/-- O29: a confirm window that is not confirmed in time (R72). -/
theorem confirmWindow_expires (hlt : i < 16) (hopen : (s.presence i).window ≠ .closed) (hempty : (s.station i).state = .empty) :
    ∃ t, exec (.confirmWindowExpiry i) s = .next t ∧ t.presence i = { s.presence i with window := .closed, confirm := 0 } ∧
      (∀ j, j ≠ i → t.presence j = s.presence j) ∧
      t.station i = { s.station i with state := .fault, cause := some .unconfirmed } ∧
      (∀ j, j ≠ i → t.station j = s.station j) ∧
      t = { s with lines := t.lines, stations := t.stations, attention := (s.raise .stationFault i).attention } := by
  have hstate : ((s.closeWindow i).station i).state = .empty := hempty
  have hblock : eventBlock (.confirmWindowExpiry i) s = (s.closeWindow i).faultStation i .unconfirmed := if_neg hopen
  rw [State.faultStation_eq hlt (by simp [hstate]), State.enterDue_of_not_arrived (by simp [hstate]) (by simp),
    List.append_nil] at hblock
  exact ⟨_, (exec_event_of_working rfl rfl hreset).trans (congrArg _ hblock), tget_tset_self _ _ _ _ hlt,
    fun j hj => tget_tset_ne _ _ _ _ _ hj, tget_tset_self _ _ _ _ hlt, fun j hj => tget_tset_ne _ _ _ _ _ hj, rfl⟩

/-- O29: a departure echo that ends (R73). -/
theorem departureEcho_expires (hlt : i < 16) (hecho : (s.presence i).echo ≠ .none) :
    ∃ t, exec (.departureEchoExpiry i) s = .next t ∧ t.presence i = { s.presence i with echo := .none, echoTimer := 0 } ∧
      (∀ j, j ≠ i → t.presence j = s.presence j) ∧ t = { s with lines := t.lines } := by
  have hblock : eventBlock (.departureEchoExpiry i) s = s.setEcho i .none := if_neg hecho
  exact ⟨_, (exec_event_of_working rfl rfl hreset).trans (congrArg _ hblock), tget_tset_self _ _ _ _ hlt,
    fun j hj => tget_tset_ne _ _ _ _ _ hj, rfl⟩

/-- O29: a stopwatch at its budget (R44). -/
theorem overrun_raised (hlt : i < 16) (hrunning : (s.station i).running = true) (hclear : (s.station i).overrunRaised = false) :
    ∃ t, exec (.overrun i) s = .next t ∧
      t.station i = { s.station i with watch := max (s.station i).watch (s.station i).budget, overrunRaised := true } ∧
      (∀ j, j ≠ i → t.station j = s.station j) ∧
      t = { s with stations := t.stations, attention := (s.raise .overrun i).attention } := by
  have hblock : eventBlock (.overrun i) s =
      (s.modStation i fun x => { x with watch := max x.watch x.budget, overrunRaised := true }).raise .overrun i :=
    if_pos ⟨hrunning, hclear⟩
  exact ⟨_, (exec_event_of_working rfl rfl hreset).trans (congrArg _ hblock), tget_tset_self _ _ _ _ hlt,
    fun j hj => tget_tset_ne _ _ _ _ _ hj, rfl⟩

theorem overrun_of_not (hnot : (s.station i).running = false ∨ (s.station i).overrunRaised = true) : exec (.overrun i) s = .next s := by
  refine (exec_event_of_working rfl rfl hreset).trans (congrArg _ (if_neg ?_))
  rintro ⟨hrunning, hclear⟩
  obtain h | h := hnot
  · cases h.symm.trans hrunning
  · cases h.symm.trans hclear

/-- O29: a poll timer at its interval (R165). -/
theorem pollTimer_expires {r : Nat} (hr : r < 32) (hruns : s.pollTimerRuns r = true) :
    ∃ t, exec (.pollTimerExpiry r) s = .next t ∧ t.robot r = { s.robot r with pollTimer := s.pollInterval r } ∧
      (∀ q, q ≠ r → t.robot q = s.robot q) ∧
      t.pendOf r = (if (s.robot r).online then
          { s.pendOf r with poll := some ⟨.poll, .poll, s.line.replyTimeout, s.line.retryLimit⟩ }
        else { s.pendOf r with query := some ⟨.query, .poll, s.line.replyTimeout, 0⟩ }) ∧
      (∀ q, q ≠ r → t.pendOf q = s.pendOf q) ∧ t = { s with robots := t.robots, pend := t.pend } :=
  ⟨_, (exec_event_of_working rfl rfl hreset).trans (congrArg _ (State.expirePoll_of_runs hruns)), tget_tset_self _ _ _ _ hr,
    fun _ hq => tget_tset_ne _ _ _ _ _ hq, tget_tset_self _ _ _ _ hr, fun _ hq => tget_tset_ne _ _ _ _ _ hq, rfl⟩

/-- O29: a pace timer brought to its interval (R168). -/
theorem paceTimer_expires (b : Fin 4) :
    ∃ t, exec (.paceTimerExpiry b) s = .next t ∧
      t.bus b.val = { s.bus b.val with pace := max (s.bus b.val).pace (s.busRec b.val).interval } ∧
      (∀ c, c ≠ b.val → t.bus c = s.bus c) ∧ t = { s with buses := t.buses } :=
  ⟨_, exec_event_of_working rfl rfl hreset, tget_tset_self _ _ _ _ b.isLt, fun _ hc => tget_tset_ne _ _ _ _ _ hc, rfl⟩

end

/-- Settles O29: the millisecond, pass by pass, and each expiry. -/
theorem timersExpire : Obligations.TimersExpire := by
  refine ⟨fun s interval hpending hreset hdue hports hbuses hlines hsendings hinterval => ?_, fun s r => State.pollTimerRuns_eq_true_iff,
    fun s i hreset hlt => ⟨confirmWindow_expires hreset hlt, departureEcho_expires hreset hlt⟩,
    fun s i hreset hlt => ⟨overrun_raised hreset hlt, overrun_of_not hreset⟩,
    fun s hreset => ⟨fun r hr => pollTimer_expires hreset hr, paceTimer_expires hreset⟩⟩
  obtain ⟨t, htick, hpresence, hstation, hrobot, hbus, hframe⟩ := State.tick_of_quiet (s := s)
    (fun i hi => ⟨hi, (hlines i hi).1, (hlines i hi).2.1⟩) (fun b hb => ⟨hb, fun o => hsendings b o hb⟩)
    (fun i hi => ⟨hi, (hlines i hi).2.2⟩)
  have hinterval' : ∀ r, s.pollInterval r = interval r := fun r => (State.pollInterval_eq s r).trans (hinterval r).symm
  refine ⟨t, (State.step_of_tick hpending hreset hdue hports hbuses).trans (congrArg _ htick), hpresence, hstation,
    fun r hr => ?_, hbus, hframe⟩
  have hr' := hrobot r hr
  rw [hinterval'] at hr'
  exact hr'

end Machine
end Sys2Proof
end

section
/-!
SUPPORT. The answers of a robot to an ABORT and to a SELECT (R149, R150, R156, R157): O42.
-/
namespace Sys2Proof
namespace Machine
namespace State

variable {s : State} {r n : Nat} {sel : Selection}

/-! ### ABORTED (R56, R115, R156) -/

theorem abortedWelds_eq : s.abortedWelds r n sel = { s with bodies := (s.abortedWelds r n sel).bodies } := by
  unfold abortedWelds
  cases s.bodyOf sel.key with
  | none => rfl
  | some x =>
    dsimp only
    split <;> rfl

theorem bodyOf_abortedWelds {x : Body} (hx : s.bodyOf sel.key = some x) :
    (s.abortedWelds r n sel).bodyOf sel.key = some (if x.stay = sel.stay then { x with welds := tset x.welds r (some n) } else x) := by
  simp only [abortedWelds, hx]
  split
  · exact bodyOf_modBody_eq (f := fun b => { b with welds := tset b.welds r (some n) }) (fun _ => rfl) hx
  · exact hx

theorem bodyOf_abortedWelds_ne {k : Nat} (hk : k ≠ sel.key) : (s.abortedWelds r n sel).bodyOf k = s.bodyOf k := by
  unfold abortedWelds
  cases s.bodyOf sel.key with
  | none => rfl
  | some x =>
    dsimp only
    split
    · exact bodyOf_modBody_ne s _ _ _ (fun _ => rfl) hk
    · rfl

/-- A robot with welds counted (R115). -/
def countedRobot (n : Nat) (b : Robot) : Robot :=
  { b with wear := min 65535 (b.wear + n), totalWelds := (b.totalWelds + n) % 4294967296 }

/-- The abort of an enabled robot answered with its welds (R156). -/
theorem answerAbort_eq (hr : r < 32) (henabled : (s.robot r).enabled = true) :
    s.answerAbort r sel (some n) =
      { s with
        robots := tset s.robots r (idleRobot (countedRobot n (s.robot r)))
        pend := tset s.pend r { s.pendOf r with abort := none }
        stations := (s.leaveAbortWait r).stations
        bodies := (s.abortedWelds r n sel).bodies
        due := s.due ++ [.recompute r, .selection r] } := by
  have hwelds : (s.countWelds r n).abortedWelds r n sel =
      { s with robots := tset s.robots r (countedRobot n (s.robot r)), bodies := (s.abortedWelds r n sel).bodies } := by
    rw [abortedWelds_eq]
    have hbodies : ((s.countWelds r n).abortedWelds r n sel).bodies = (s.abortedWelds r n sel).bodies := by
      have hbody : (s.countWelds r n).bodyOf sel.key = s.bodyOf sel.key := rfl
      simp only [abortedWelds, hbody]
      cases s.bodyOf sel.key with
      | none => rfl
      | some x =>
        dsimp only
        split <;> rfl
    rw [hbodies]
    rfl
  simp only [answerAbort]
  rw [hwelds]
  generalize hu : (leaveAbortWait r (modPend r (fun p => { p with abort := none })
    ({ s with robots := tset s.robots r (countedRobot n (s.robot r)), bodies := (s.abortedWelds r n sel).bodies } : State))) = u
  have hrobot : u.robot r = countedRobot n (s.robot r) := by
    rw [← hu]
    exact tget_tset_self _ _ _ _ hr
  rw [enterIdle_eq hr (.inl (by rw [hrobot]; exact henabled)), hrobot, ← hu]
  exact (eq_iff_fields _ _).mpr ⟨rfl, rfl, rfl, rfl, rfl, rfl, rfl, rfl, rfl, rfl, rfl, rfl, rfl, rfl, rfl, rfl, tset_tset _ _ _ _,
    rfl, rfl, rfl, rfl, rfl⟩

end State

/-- Settles O42: the abort is answered, the welds counted and written, the wait left, the robot IDLE. -/
theorem abortedEndsTheAbort : Obligations.AbortedEndsTheAbort := by
  intro s b o r slot slot' dispatch dispatch' welds sel hreset hr hcur hrobot hreq hslot hdispatch hwelds hmotion henabled
  subst hrobot
  have htaken : taking (.aborted b o.drop slot' dispatch' welds) o (s.endTx b.val) =
      (s.endTx b.val).answerAbort o.robot sel (some welds) := by
    have hmotion' : ((s.endTx b.val).robot o.robot).motion = .aborting sel := hmotion
    simp only [taking, State.takeAborted, State.toLiveAbort, hreq, hmotion', Bool.not_false, Bool.not_true, Bool.false_eq_true, if_false]
  have hexec : exec (.aborted b o.drop slot' dispatch' welds) s = .next ((s.endTx b.val).answerAbort o.robot sel (some welds)) := by
    rw [exec_event_of_working rfl rfl hreset]
    refine congrArg Host.Outcome.next ((State.takeReply_of_fits (taking (.aborted b o.drop slot' dispatch' welds)) hcur ?_
      (by simp [hreq])).trans htaken)
    simp [hreq, State.slotInRange, hslot, hdispatch, hwelds]
  rw [State.answerAbort_eq (s := s.endTx b.val) hr henabled] at hexec
  refine ⟨_, hexec, tget_tset_self _ _ _ _ hr, fun q hq => tget_tset_ne _ _ _ _ _ hq, tget_tset_self _ _ _ _ hr,
    fun q hq => tget_tset_ne _ _ _ _ _ hq, fun j hj => State.station_leaveAbortWait (s := s) hj,
    fun x hx => State.bodyOf_abortedWelds (s := s.endTx b.val) hx, fun k hk => State.bodyOf_abortedWelds_ne (s := s.endTx b.val) hk,
    State.bus_endTx_self s b, fun c hc => State.bus_endTx_ne s hc, fun e => ?_, rfl⟩
  change e ∈ s.due ++ [.recompute o.robot, .selection o.robot] ↔ _
  simp only [List.mem_append, List.mem_cons, List.not_mem_nil, or_false]

end Machine
end Sys2Proof
end

section
/-!
SUPPORT. The answers to a SELECT (R149, R150, R157): O41.
-/
namespace Sys2Proof
namespace Machine
namespace State

variable {s : State} {r i n : Nat} {sel : Selection} {f : SelectFrame} {stamp : Word}

/-! ### NAK with reason SLOT (R113, R150) -/

/-- A slot refused by its robot. -/
def refusedSlots (n : Nat) (stamp : Word) (i : Nat) (b : Robot) : Robot :=
  { b with slots := tset b.slots i ⟨.invalid n stamp, (b.slot i).lastUse⟩ }

theorem refuseSlot_of_valid (hslot : ((s.robot r).slot i).content = .valid n stamp) :
    s.refuseSlot r i =
      { s with
        robots := tset s.robots r (refusedSlots n stamp i (s.robot r)), due := s.due ++ [.recompute r, .selection r] } := by
  have hkept : ¬ (SlotContent.invalid n stamp = .empty ∨ SlotContent.invalid n stamp = .unknown) := by simp
  simp only [refuseSlot, hslot]
  rw [setSlot_eq, if_neg hkept]
  rfl

theorem refuseSlot_of_not (hslot : ∀ n stamp, ((s.robot r).slot i).content ≠ .valid n stamp) : s.refuseSlot r i = s := by
  unfold refuseSlot
  split
  · next n stamp h => exact absurd h (hslot n stamp)
  · rfl

theorem takeNakSlot_of_not (hmotion : ∀ sel, (s.robot r).motion ≠ .selecting sel) : s.takeNakSlot r f = s.refuseSlot r f.slot := by
  unfold takeNakSlot
  split
  · next sel h => exact absurd h (hmotion sel)
  · rfl

theorem takeNakSlot_of_selecting (hr : r < 32) (hmotion : (s.robot r).motion = .selecting sel) (henabled : (s.robot r).enabled = true)
    (hslot : ((s.robot r).slot f.slot).content = .valid n stamp) :
    s.takeNakSlot r f =
      { s with
        robots := tset s.robots r (idleRobot (refusedSlots n stamp f.slot (s.robot r)))
        due := s.due ++ [.recompute r, .selection r] ++ [.recompute r, .selection r] } := by
  simp only [takeNakSlot, hmotion]
  rw [refuseSlot_of_valid hslot]
  generalize hu : ({ s with
    robots := tset s.robots r (refusedSlots n stamp f.slot (s.robot r)), due := s.due ++ [.recompute r, .selection r] } : State) = u
  have hrobot : u.robot r = refusedSlots n stamp f.slot (s.robot r) := by
    rw [← hu]
    exact tget_tset_self _ _ _ _ hr
  rw [enterIdle_eq hr (.inl (by rw [hrobot]; exact henabled)), hrobot, ← hu]
  exact (eq_iff_fields _ _).mpr ⟨rfl, rfl, rfl, rfl, rfl, rfl, rfl, rfl, rfl, rfl, rfl, rfl, rfl, rfl, rfl, rfl, tset_tset _ _ _ _,
    rfl, rfl, rfl, rfl, rfl⟩

/-! ### ACK (R149, R157) -/

theorem takeAck_of_idle (hmotion : (s.robot r).motion = .idle) : s.takeAck r f = s.orphanAbort r f := by
  simp only [takeAck, hmotion]

theorem takeAck_of_not (hselecting : ∀ sel, (s.robot r).motion ≠ .selecting sel) (hidle : (s.robot r).motion ≠ .idle) :
    s.takeAck r f = s := by
  unfold takeAck
  split
  · next sel h => exact absurd h (hselecting sel)
  · next h => exact absurd h hidle
  · rfl

theorem takeNakBusy_of_not (hselecting : ∀ sel, (s.robot r).motion ≠ .selecting sel) : s.takeNakBusy r f = s := by
  unfold takeNakBusy
  split
  · next sel h => exact absurd h (hselecting sel)
  · rfl

/-- The robot whose SELECT was acknowledged (R149). -/
def selectedRobot (sel : Selection) (b : Robot) : Robot :=
  { b with
    motion := .selected sel, busy := none, uses := min 4294967295 (b.uses + 1), pollTimer := 0
    slots := tset b.slots sel.slot ⟨(b.slot sel.slot).content, min 4294967295 (b.uses + 1)⟩ }

/-- The ACK of the one robot that its ARRIVED station is owed. -/
theorem takeAck_of_selecting (hr : r < 32) (hi : i < 16) (hmotion : (s.robot r).motion = .selecting sel)
    (hstation : s.stationOf r = some i) (hstate : (s.station i).state = .arrived) (hbody : (s.station i).body = some sel.key)
    {items : List WorkItem} (hwork : (s.station i).work = some items) (howed : ∀ w ∈ items, w.comp = .owed ↔ w.robot = r)
    (hsome : ∃ w ∈ items, w.robot = r) :
    s.takeAck r f =
      { s with
        robots := tset s.robots r (selectedRobot sel (s.robot r))
        stations := tset s.stations i { s.station i with state := .welding }
        due := s.due ++ [.recompute r] ++ s.enterDue i .welding } := by
  set u := (s.modRobot r (selectedRobot sel)).owe [.recompute r] with hu
  have hrobot : u.robot r = selectedRobot sel (s.robot r) := tget_tset_self _ _ _ _ hr
  have hjudged : JudgedTo u i sel.key items .welding := by
    refine .begins hstate ?_ fun w hw hcomp => ?_
    · obtain ⟨w, hw, hwr⟩ := hsome
      exact ⟨w, hw, (howed w hw).mpr hwr⟩
    · rw [(howed w hw).mp hcomp, selectedFor_eq_true_iff, hrobot]
      exact ⟨sel, rfl, .inl rfl⟩
  have hback : s.acknowledged r sel = u.judgeStation i := by
    have hstation' : u.stationOf r = some i := hstation
    change (u.stationOf r).elim u (fun i => u.judgeStation i) = _
    rw [hstation']
    rfl
  simp only [takeAck, hmotion]
  rw [hback, judgeStation_eq (s := u) hi hwork hbody hjudged]
  rfl

end State

section
variable {s : State} {b : Fin 4} {o : OnBus} {f : SelectFrame}
variable (hreset : s.resetInput = false) (hcur : (s.bus b.val).cur = some o) (hreq : o.tx.req = .select f)
include hreset hcur hreq

/-- An answer to the SELECT on a bus ends the transaction and is taken. -/
theorem exec_of_answer : exec (.ack b o.drop) s = .next ((s.endTx b.val).takeAck o.robot f) ∧
    exec (.nakSlot b o.drop) s = .next ((s.endTx b.val).takeNakSlot o.robot f) ∧
    exec (.nakBusy b o.drop) s = .next ((s.endTx b.val).takeNakBusy o.robot f) := by
  have hselect : State.selectOf o = some f := by simp only [State.selectOf, hreq]
  have hpoll : o.tx.req ≠ .poll := by simp [hreq]
  have hfits : (State.selectOf o).isSome = true := by rw [hselect]; rfl
  refine ⟨?_, ?_, ?_⟩ <;> rw [exec_event_of_working rfl rfl hreset]
  · refine congrArg Host.Outcome.next ((State.takeReply_of_fits (taking (.ack b o.drop)) hcur hfits hpoll).trans ?_)
    simp only [taking, hselect, Option.elim]
  · refine congrArg Host.Outcome.next ((State.takeReply_of_fits (taking (.nakSlot b o.drop)) hcur hfits hpoll).trans ?_)
    simp only [taking, hselect, Option.elim]
  · refine congrArg Host.Outcome.next ((State.takeReply_of_fits (taking (.nakBusy b o.drop)) hcur hfits hpoll).trans ?_)
    simp only [taking, hselect, Option.elim]

/-- O41: the answers taken while the robot is not SELECTING. -/
theorem answer_while_not_selecting (hr : o.robot < 32) :
    ((s.robot o.robot).motion = .idle →
      ∃ t, exec (.ack b o.drop) s = .next t ∧
        t.pendOf o.robot = { s.pendOf o.robot with
          abort := some ⟨.abort, .abort f.slot (s.robot o.robot).dispatch true, s.line.replyTimeout, s.line.retryLimit⟩ } ∧
        (∀ q, q ≠ o.robot → t.pendOf q = s.pendOf q) ∧ t.bus b.val = { s.bus b.val with cur := none } ∧
        (∀ c, c ≠ b.val → t.bus c = s.bus c) ∧ t = { s with pend := t.pend, buses := t.buses }) ∧
    ((∀ sel, (s.robot o.robot).motion ≠ .selecting sel) →
      (∀ i, i = .ack b o.drop ∧ (s.robot o.robot).motion ≠ .idle ∨ i = .nakBusy b o.drop ∨
          i = .nakSlot b o.drop ∧ (∀ n stamp, ((s.robot o.robot).slot f.slot).content ≠ .valid n stamp) →
        ∃ t, exec i s = .next t ∧ t.bus b.val = { s.bus b.val with cur := none } ∧
          (∀ c, c ≠ b.val → t.bus c = s.bus c) ∧ t = { s with buses := t.buses }) ∧
      ∀ n stamp, ((s.robot o.robot).slot f.slot).content = .valid n stamp →
        ∃ t, exec (.nakSlot b o.drop) s = .next t ∧
          t.robot o.robot = { s.robot o.robot with
            slots := tset (s.robot o.robot).slots f.slot ⟨.invalid n stamp, ((s.robot o.robot).slot f.slot).lastUse⟩ } ∧
          (∀ q, q ≠ o.robot → t.robot q = s.robot q) ∧ t.bus b.val = { s.bus b.val with cur := none } ∧
          (∀ c, c ≠ b.val → t.bus c = s.bus c) ∧
          t = { s with robots := t.robots, buses := t.buses, due := s.due ++ [.recompute o.robot, .selection o.robot] }) := by
  obtain ⟨hack, hnakSlot, hnakBusy⟩ := exec_of_answer hreset hcur hreq
  refine ⟨fun hidle => ?_, fun hselecting => ⟨fun i hi => ?_, fun n stamp hslot => ?_⟩⟩
  · rw [State.takeAck_of_idle (s := s.endTx b.val) hidle] at hack
    exact ⟨_, hack, tget_tset_self _ _ _ _ hr, fun q hq => tget_tset_ne _ _ _ _ _ hq, State.bus_endTx_self s b,
      fun c hc => State.bus_endTx_ne s hc, rfl⟩
  · have hexec : exec i s = .next (s.endTx b.val) := by
      obtain ⟨rfl, hidle⟩ | rfl | ⟨rfl, hslot⟩ := hi
      · rw [hack, State.takeAck_of_not (s := s.endTx b.val) hselecting hidle]
      · rw [hnakBusy, State.takeNakBusy_of_not (s := s.endTx b.val) hselecting]
      · rw [hnakSlot, State.takeNakSlot_of_not (s := s.endTx b.val) hselecting, State.refuseSlot_of_not (s := s.endTx b.val) hslot]
    exact ⟨_, hexec, State.bus_endTx_self s b, fun c hc => State.bus_endTx_ne s hc, rfl⟩
  · rw [State.takeNakSlot_of_not (s := s.endTx b.val) hselecting, State.refuseSlot_of_valid (s := s.endTx b.val) hslot] at hnakSlot
    exact ⟨_, hnakSlot, tget_tset_self _ _ _ _ hr, fun q hq => tget_tset_ne _ _ _ _ _ hq, State.bus_endTx_self s b,
      fun c hc => State.bus_endTx_ne s hc, rfl⟩

end

/-- Settles O41: the expiry of the wait, and each answer by the motion state. -/
theorem selectAnswersAreTaken : Obligations.SelectAnswersAreTaken := by
  refine ⟨fun s r w hreset hr hbusy => ?_, fun s b o f r hreset hr hcur hrobot hreq => ?_,
    fun s b o f sel r i hreset hr hi hcur hrobot hreq hmotion hslot hstation => ?_⟩
  · have hblock : eventBlock (.busyWaitExpiry r) s = (s.modRobot r fun b => { b with busy := none }).modPend r fun p =>
        { p with select := some (s.newTx .select (.select w.frame)) } := by
      simp only [eventBlock, State.expireBusy, hbusy]
    exact ⟨_, (exec_event_of_working rfl rfl hreset).trans (congrArg _ hblock), tget_tset_self _ _ _ _ hr,
      fun q hq => tget_tset_ne _ _ _ _ _ hq, tget_tset_self _ _ _ _ hr, fun q hq => tget_tset_ne _ _ _ _ _ hq, rfl⟩
  · subst hrobot
    exact answer_while_not_selecting hreset hcur hreq hr
  · subst hrobot
    obtain ⟨hack, hnakSlot, hnakBusy⟩ := exec_of_answer hreset hcur hreq
    refine ⟨fun items k hstate hbody hk hwork howed hsome => ?_, fun n stamp hvalid henabled => ?_, ?_⟩
    · subst hk
      rw [State.takeAck_of_selecting (s := s.endTx b.val) hr hi hmotion hstation hstate hbody hwork howed hsome] at hack
      refine ⟨_, hack, _, rfl, ?_, fun q hq => tget_tset_ne _ _ _ _ _ hq, tget_tset_self _ _ _ _ hi,
        fun j hj => tget_tset_ne _ _ _ _ _ hj, State.bus_endTx_self s b, fun c hc => State.bus_endTx_ne s hc, fun d => ?_, rfl⟩
      · refine (tget_tset_self _ _ _ _ hr).trans ?_
        rw [State.selectedRobot, hslot]
        rfl
      · change d ∈ s.due ++ [.recompute o.robot] ++ s.enterDue i .welding ↔ _
        rw [List.mem_append, List.mem_append, List.mem_singleton, State.mem_enterDue,
          and_iff_right (a := ¬ ((s.station i).state = .arrived ↔ StationState.welding = .arrived)) (by simp [hstate]), or_assoc]
    · rw [State.takeNakSlot_of_selecting (s := s.endTx b.val) hr hmotion henabled hvalid] at hnakSlot
      refine ⟨_, hnakSlot, tget_tset_self _ _ _ _ hr, fun q hq => tget_tset_ne _ _ _ _ _ hq, State.bus_endTx_self s b,
        fun c hc => State.bus_endTx_ne s hc, fun e => ?_, rfl⟩
      change e ∈ s.due ++ [.recompute o.robot, .selection o.robot] ++ [.recompute o.robot, .selection o.robot] ↔ _
      simp only [List.mem_append, List.mem_cons, List.not_mem_nil, or_false]
      exact or_iff_left_of_imp .inr
    · have htake : (s.endTx b.val).takeNakBusy o.robot f =
          (s.endTx b.val).modRobot o.robot fun b => { b with busy := some ⟨f, 0⟩ } := by
        have hmotion' : ((s.endTx b.val).robot o.robot).motion = .selecting sel := hmotion
        simp only [State.takeNakBusy, hmotion']
      exact ⟨_, hnakBusy.trans (congrArg _ htake), tget_tset_self _ _ _ _ hr, fun q hq => tget_tset_ne _ _ _ _ _ hq,
        State.bus_endTx_self s b, fun c hc => State.bus_endTx_ne s hc, rfl⟩

end Machine
end Sys2Proof
end

section
/-!
SUPPORT. The selection attempt (R100, R146 to R148): O40.
-/
namespace Sys2Proof
namespace Machine

/-- A filter map that drops nothing keeps length and places. -/
theorem filterMap_of_isSome {α β : Type} {f : α → Option β} {l : List α} (h : ∀ a ∈ l, f a ≠ none) :
    (l.filterMap f).length = l.length ∧ ∀ (j : Nat) a y, l[j]? = some a → f a = some y → (l.filterMap f)[j]? = some y := by
  induction l with
  | nil => simp
  | cons a l ih =>
    obtain ⟨hlen, hget⟩ := ih fun b hb => h b (List.mem_cons_of_mem _ hb)
    obtain ⟨y, hy⟩ := Option.ne_none_iff_exists'.mp (h a List.mem_cons_self)
    rw [List.filterMap_cons_some hy]
    refine ⟨congrArg Nat.succ hlen, fun j b z hb hz => ?_⟩
    cases j with
    | zero =>
      cases hb
      exact hy.symm.trans hz
    | succ j => exact hget j b z hb hz

theorem or_regroup {a b c d : Prop} : ((a ∨ b) ∨ d) ∨ b ∨ c ↔ a ∨ b ∨ c ∨ d := by tauto

namespace State

variable {s : State} {r i slot : Nat} {b : Body} {e : DispatchEntry} {stamp : Word} {d : ProgData}

/-! ### The attempt (R146) -/

theorem owed_eq_true_iff : s.owed i r = true ↔
    ∃ items w, (s.station i).work = some items ∧ items.find? (fun w => w.robot == r) = some w ∧ w.comp = .owed := by
  unfold owed workItem
  cases (s.station i).work with
  | none => simp
  | some items =>
    dsimp only [Option.getD_some]
    cases hfind : items.find? fun w => w.robot == r with
    | none => simp [hfind]
    | some w => simp [hfind]

section
variable (hstation : s.stationOf r = some i) (hrun : s.mode = .run) (hstate : (s.station i).state = .arrived)
  (howed : s.owed i r = true) (honline : (s.robot r).online = true) (hidle : (s.robot r).motion = .idle)
  (hfault : (s.robot r).fault = none) (hbody : s.bodyAt i = some b) (hresolve : s.resolve b r = some e)
include hstation hrun hstate howed honline hidle hfault hbody hresolve

/-- An attempt that meets its conditions begins a selection, or finds the program late. -/
theorem attemptSelection_eq :
    s.attemptSelection r = match s.stagedSlot r e.program with
      | none => s.programLate r i
      | some slot => s.beginSelection r i slot b e := by
  have hmay : s.maySelect r i = true := by
    simp [maySelect, hrun, hstate, howed, honline, hidle, hfault]
  cases hslot : s.stagedSlot r e.program with
  | none => simp only [attemptSelection, hstation, hmay, if_true, hbody, hresolve, hslot]
  | some slot => simp only [attemptSelection, hstation, hmay, if_true, hbody, hresolve, hslot]

end

theorem schedulesOf_of_ready {n : Nat} (hready : (s.prog n).state = .ready stamp d) : s.schedulesOf n = d.schedules := by
  simp only [schedulesOf, ready, hready]

/-! ### The calculation (R100) -/

/-- The rows of a list of schedules, each with whether its curve is saturated. -/
def rowsOf (s : State) (w : Nat) (trim : Int) (list : List Nat) : List (Row × Bool) := list.filterMap (s.rowOf w trim)

theorem calculate_of_undefined {list : List Nat} {trim : Int} (h : ∃ n ∈ list, s.schedule n = none) :
    ∃ n, s.calculate r list trim = (s, .undefined n) := by
  unfold calculate
  cases hfirst : s.firstUndefined list with
  | some n => exact ⟨n, rfl⟩
  | none =>
    obtain ⟨n, hn, hnone⟩ := h
    have hall := List.find?_eq_none.mp hfirst n hn
    simp [hnone] at hall

theorem calculate_of_defined {list : List Nat} {trim : Int} (h : ∀ n ∈ list, s.schedule n ≠ none) :
    s.calculate r list trim =
      ({ s with robots := tset s.robots r { s.robot r with
          dressDue := (s.robot r).dressDue || (s.rowsOf (s.robot r).wear trim list).any fun x => x.2
          clamps := min 65535 ((s.robot r).clamps +
            (((s.rowsOf (s.robot r).wear trim list).map (·.1)).filter (·.clamped)).length) } },
        .block ((s.rowsOf (s.robot r).wear trim list).map (·.1))) := by
  have hfirst : s.firstUndefined list = none := by
    refine List.find?_eq_none.mpr fun n hn => ?_
    simp [Option.isNone_iff_eq_none, h n hn]
  simp only [calculate, hfirst]
  rw [List.filter_map, List.length_map]
  rfl

theorem rowOf_eq (w : Nat) (trim : Int) (n : Nat) {sc : Schedule} (hsc : s.schedule n = some sc) :
    s.rowOf w trim n = some (scheduleRow s.line.rounding n sc (wearIncrement (sc.group.bind s.curve) w).1 trim,
      (wearIncrement (sc.group.bind s.curve) w).2) := by
  rw [rowOf, hsc]
  rfl

/-- One row for each schedule of the list, in its order, and whether a curve is saturated. -/
theorem rowsOf_spec (w : Nat) (trim : Int) {list : List Nat} (h : ∀ n ∈ list, s.schedule n ≠ none) :
    ((s.rowsOf w trim list).map (·.1)).length = list.length ∧
      (∀ (j n : Nat) (sc : Schedule), list[j]? = some n → s.schedule n = some sc → ((s.rowsOf w trim list).map (·.1))[j]? = some
        (scheduleRow s.line.rounding n sc (wearIncrement (sc.group.bind s.curve) w).1 trim)) ∧
      (((s.rowsOf w trim list).any fun x => x.2) = true ↔ ∃ n ∈ list, ∃ sc, s.schedule n = some sc ∧
        (wearIncrement (sc.group.bind s.curve) w).2 = true) := by
  have hrow : ∀ n ∈ list, s.rowOf w trim n ≠ none := fun n hn => by
    obtain ⟨sc, hsc⟩ := Option.ne_none_iff_exists'.mp (h n hn)
    rw [rowOf_eq w trim n hsc]
    exact Option.some_ne_none _
  obtain ⟨hlen, hget⟩ := filterMap_of_isSome hrow
  refine ⟨by rw [List.length_map, rowsOf, hlen], fun j n sc hn hsc => ?_, ?_⟩
  · rw [List.getElem?_map, rowsOf, hget j n _ hn (rowOf_eq w trim n hsc)]
    rfl
  · simp only [rowsOf, List.any_eq_true, List.mem_filterMap]
    constructor
    · rintro ⟨x, ⟨n, hn, hx⟩, hsat⟩
      obtain ⟨sc, hsc⟩ := Option.ne_none_iff_exists'.mp (h n hn)
      rw [rowOf_eq w trim n hsc] at hx
      cases hx
      exact ⟨n, hn, sc, hsc, hsat⟩
    · rintro ⟨n, hn, sc, hsc, hsat⟩
      exact ⟨_, ⟨n, hn, rowOf_eq w trim n hsc⟩, hsat⟩

/-! ### The selection begun (R148) -/

/-- The robot SELECTING, ahead of the calculation. -/
def selectingRobot (slot : Nat) (b : Body) (x : Robot) : Robot := { x with motion := .selecting ⟨slot, b.psn, b.tag, b.key, b.stay⟩ }

/-- The state in which the calculation for a selection runs (R148). -/
def calculating (r slot : Nat) (b : Body) (s : State) : State :=
  { s with
    robots := tset s.robots r (selectingRobot slot b (s.robot r))
    pend := tset s.pend r { s.pendOf r with poll := none }
    due := s.due ++ [.recompute r] }

/-- A selection that finds a schedule undefined (R45, R100). -/
theorem beginSelection_of_undefined (hr : r < 32) (hi : i < 16) (henabled : (s.robot r).enabled = true)
    (hidle : (s.robot r).motion = .idle) (hstate : (s.station i).state = .arrived) (hundefined : ∃ n ∈ s.schedulesOf e.program, s.schedule n = none) :
    s.beginSelection r i slot b e =
      { s with
        robots := tset s.robots r { s.robot r with busy := none, pollTimer := 0 }
        pend := tset s.pend r { s.pendOf r with poll := none }
        stations := tset s.stations i { s.station i with state := .fault, cause := some .scheduleUndefined }
        attention := (s.raise .stationFault i).attention
        due := s.due ++ [.recompute r] ++ s.enterDue i .fault ++ [.recompute r, .selection r] } := by
  obtain ⟨n, hcalc⟩ := calculate_of_undefined (s := s.calculating r slot b) (r := r) (trim := e.trim) hundefined
  have hbegin : s.beginSelection r i slot b e = ((s.calculating r slot b).faultStation i .scheduleUndefined).enterIdle r := by
    change (match ((s.calculating r slot b).calculate r (s.schedulesOf e.program) e.trim).2 with
      | .undefined _ => (((s.calculating r slot b).calculate r (s.schedulesOf e.program) e.trim).1.faultStation i
          .scheduleUndefined).enterIdle r
      | .block rows => _) = _
    rw [hcalc]
  have hne : ((s.calculating r slot b).station i).state ≠ .fault := by
    have hsame : ((s.calculating r slot b).station i).state = .arrived := hstate
    simp [hsame]
  rw [hbegin, faultStation_eq hi hne]
  generalize hu : ({ s.calculating r slot b with
    stations := tset (s.calculating r slot b).stations i
      { (s.calculating r slot b).station i with state := .fault, cause := some .scheduleUndefined }
    due := (s.calculating r slot b).due ++ (s.calculating r slot b).enterDue i .fault
    attention := ((s.calculating r slot b).raise .stationFault i).attention } : State) = u
  have hrobot : u.robot r = selectingRobot slot b (s.robot r) := by
    rw [← hu]
    exact tget_tset_self _ _ _ _ hr
  have hback : idleRobot (selectingRobot slot b (s.robot r)) = { s.robot r with busy := none, pollTimer := 0 } := by
    exact congrArg (fun m => ({ s.robot r with motion := m, busy := none, pollTimer := 0 } : Robot)) hidle.symm
  rw [enterIdle_eq hr (.inl (by rw [hrobot]; exact henabled)), hrobot, hback, ← hu]
  exact (eq_iff_fields _ _).mpr ⟨rfl, rfl, rfl, rfl, rfl, rfl, rfl, rfl, rfl, rfl, rfl, rfl, rfl, rfl, rfl, rfl, tset_tset _ _ _ _,
    rfl, rfl, rfl, rfl, rfl⟩

/-- The SELECT a selection places (R148). -/
def placedSelect (s : State) (r slot : Nat) (b : Body) (dressDue : Bool) (rows : List Row) : Tx :=
  ⟨.select, .select ⟨slot, b.tag, b.psn, ((s.robot r).dispatch + 1) % 8, b.dry, dressDue, rows⟩, s.line.replyTimeout,
    s.line.retryLimit⟩

/-- A selection whose schedules are all defined (R148). -/
theorem beginSelection_of_defined (hr : r < 32) (hdefined : ∀ n ∈ s.schedulesOf e.program, s.schedule n ≠ none)
    {rows : List Row} {saturated : Bool}
    (hrows : (s.rowsOf (s.robot r).wear e.trim (s.schedulesOf e.program)).map (·.1) = rows)
    (hsaturated : ((s.rowsOf (s.robot r).wear e.trim (s.schedulesOf e.program)).any fun x => x.2) = saturated) :
    s.beginSelection r i slot b e =
      { s with
        robots := tset s.robots r { s.robot r with
          motion := .selecting ⟨slot, b.psn, b.tag, b.key, b.stay⟩
          dispatch := ((s.robot r).dispatch + 1) % 8
          dressDue := (s.robot r).dressDue || saturated
          clamps := min 65535 ((s.robot r).clamps + (rows.filter (·.clamped)).length) }
        pend := tset s.pend r { s.pendOf r with
          poll := none, select := some (s.placedSelect r slot b ((s.robot r).dressDue || saturated) rows) }
        due := s.due ++ [.recompute r] } := by
  have hcalculating : (s.calculating r slot b).robot r = selectingRobot slot b (s.robot r) := tget_tset_self _ _ _ _ hr
  have hcalc := calculate_of_defined (s := s.calculating r slot b) (r := r) (trim := e.trim) hdefined
  rw [hcalculating] at hcalc
  have hrows' : ((s.calculating r slot b).rowsOf (selectingRobot slot b (s.robot r)).wear e.trim (s.schedulesOf e.program)).map (·.1) =
      rows := hrows
  have hsaturated' : (((s.calculating r slot b).rowsOf (selectingRobot slot b (s.robot r)).wear e.trim
      (s.schedulesOf e.program)).any fun x => x.2) = saturated := hsaturated
  rw [hrows', hsaturated'] at hcalc
  set x : Robot := { selectingRobot slot b (s.robot r) with
    dressDue := (selectingRobot slot b (s.robot r)).dressDue || saturated
    clamps := min 65535 ((selectingRobot slot b (s.robot r)).clamps + (rows.filter (·.clamped)).length) } with hx
  generalize hv : ({ s.calculating r slot b with robots := tset (s.calculating r slot b).robots r x } : State) = v at hcalc
  have hvrobot : v.robot r = x := by
    rw [← hv]
    exact tget_tset_self _ _ _ _ hr
  have hvpend : v.pendOf r = { s.pendOf r with poll := none } := by
    rw [← hv]
    exact tget_tset_self _ _ _ _ hr
  have hbegin : s.beginSelection r i slot b e =
      (let u := v.modRobot r fun y => { y with dispatch := ((v.robot r).dispatch + 1) % 8 }
       u.modPend r fun p => { p with
        select := some (u.newTx .select (.select (u.selectFrame r slot (((v.robot r).dispatch + 1) % 8) b rows))) }) := by
    change (match ((s.calculating r slot b).calculate r (s.schedulesOf e.program) e.trim).2 with
      | .undefined _ => _
      | .block rows =>
        let d := ((((s.calculating r slot b).calculate r (s.schedulesOf e.program) e.trim).1.robot r).dispatch + 1) % 8
        let u := ((s.calculating r slot b).calculate r (s.schedulesOf e.program) e.trim).1.modRobot r fun x => { x with dispatch := d }
        u.modPend r fun p => { p with select := some (u.newTx .select (.select (u.selectFrame r slot d b rows))) }) = _
    rw [hcalc]
  have hdispatch : (v.robot r).dispatch = (s.robot r).dispatch := by rw [hvrobot]; rfl
  rw [hbegin, hdispatch]
  dsimp only
  generalize hu : (v.modRobot r fun y => { y with dispatch := ((s.robot r).dispatch + 1) % 8 }) = u
  have hurobot : u.robot r = { x with dispatch := ((s.robot r).dispatch + 1) % 8 } := by
    rw [← hu, robot_modRobot_self _ _ _ hr, hvrobot]
  have hurobots : u.robots = tset s.robots r { x with dispatch := ((s.robot r).dispatch + 1) % 8 } := by
    rw [← hu, modRobot, hvrobot, ← hv]
    change tset (tset (tset s.robots r _) r x) r _ = _
    rw [tset_tset, tset_tset]
  have huframe : u = { s with
      robots := tset s.robots r { x with dispatch := ((s.robot r).dispatch + 1) % 8 }
      pend := tset s.pend r { s.pendOf r with poll := none }, due := s.due ++ [.recompute r] } := by
    rw [← hurobots, ← hu, ← hv]
    rfl
  have hupend : u.pendOf r = { s.pendOf r with poll := none } := by
    rw [← hu]
    exact hvpend
  have htx : u.newTx .select (.select (u.selectFrame r slot (((s.robot r).dispatch + 1) % 8) b rows)) =
      s.placedSelect r slot b ((s.robot r).dressDue || saturated) rows := by
    rw [newTx_eq (by simp), selectFrame, hurobot, huframe]
    rfl
  rw [modPend, htx, hupend, huframe]
  exact (eq_iff_fields _ _).mpr ⟨rfl, rfl, rfl, rfl, rfl, rfl, rfl, rfl, rfl, rfl, rfl, rfl, rfl, rfl, rfl, rfl, rfl, rfl,
    tset_tset _ _ _ _, rfl, rfl, rfl⟩

/-! ### A late program (R147) -/

theorem programLate_eq {items : List WorkItem} {w : WorkItem} (hwork : (s.station i).work = some items)
    (hfind : items.find? (fun w => w.robot == r) = some w) :
    s.programLate r i = if w.late then s else
      { s with
        stations := tset s.stations i { s.station i with
          work := some (items.map fun w => if w.robot = r then { w with late := true } else w) }
        attention := (s.raise .programLate r).attention } := by
  have hitem : s.workItem i r = some w := by
    rw [workItem, hwork]
    exact hfind
  have hlate : s.setLate i r = { s with stations := tset s.stations i { s.station i with
      work := some (items.map fun w => if w.robot = r then { w with late := true } else w) } } := by
    simp only [setLate, modStation, hwork, Option.map_some]
  simp only [programLate, hitem, hlate]
  rfl

end State

section
variable {s : State} {r i : Nat} {b : Body} {e : DispatchEntry}
variable (hreset : s.resetInput = false) (hr : r < 32) (hstation : s.stationOf r = some i) (hrun : s.mode = .run)
  (hstate : (s.station i).state = .arrived) (howed : s.owed i r = true) (honline : (s.robot r).online = true)
  (hidle : (s.robot r).motion = .idle) (hfault : (s.robot r).fault = none) (hbody : s.bodyAt i = some b)
  (hresolve : s.resolve b r = some e)
include hreset hstation hrun hstate howed honline hidle hfault hbody hresolve

/-- A selection attempt that meets its conditions. -/
theorem exec_of_selection : exec (.selectionAttempt r) s = .next (match s.stagedSlot r e.program with
    | none => (s.discharge (.selection r)).programLate r i
    | some slot => (s.discharge (.selection r)).beginSelection r i slot b e) := by
  refine (exec_event_of_working rfl rfl hreset).trans (congrArg _ ?_)
  have h := State.attemptSelection_eq (s := s.discharge (.selection r)) hstation hrun hstate howed honline hidle hfault hbody hresolve
  exact h

include hr

/-- O40: an attempt that finds a schedule undefined. -/
theorem selection_undefined {slot : Nat} {stamp : Word} {d : ProgData} (hslot : s.stagedSlot r e.program = some slot)
    (hready : (s.prog e.program).state = .ready stamp d) (hundefined : ∃ n ∈ d.schedules, s.schedule n = none)
    (henabled : (s.robot r).enabled = true) (hi : i < 16) :
    ∃ t, exec (.selectionAttempt r) s = .next t ∧
      t.station i = { s.station i with state := .fault, cause := some .scheduleUndefined } ∧
      (∀ j, j ≠ i → t.station j = s.station j) ∧ t.robot r = { s.robot r with busy := none, pollTimer := 0 } ∧
      (∀ q, q ≠ r → t.robot q = s.robot q) ∧ t.pendOf r = { s.pendOf r with poll := none } ∧
      (∀ q, q ≠ r → t.pendOf q = s.pendOf q) ∧
      (∀ x, x ∈ t.due ↔ x ∈ s.due.erase (.selection r) ∨ x = .recompute r ∨ x = .selection r ∨
        ∃ q ∈ s.robotsAt i, x = .recompute q) ∧
      t = { s with stations := t.stations, robots := t.robots, pend := t.pend, due := t.due
                   attention := (s.raise .stationFault i).attention } := by
  have hexec := exec_of_selection hreset hstation hrun hstate howed honline hidle hfault hbody hresolve
  rw [hslot] at hexec
  have hlist : (s.discharge (.selection r)).schedulesOf e.program = d.schedules := State.schedulesOf_of_ready hready
  have hbegin := State.beginSelection_of_undefined (s := s.discharge (.selection r)) (slot := slot) (b := b) (e := e) hr hi henabled hidle
    hstate (hlist ▸ hundefined)
  refine ⟨_, hexec.trans (congrArg _ hbegin), tget_tset_self _ _ _ _ hi, fun j hj => tget_tset_ne _ _ _ _ _ hj,
    tget_tset_self _ _ _ _ hr, fun q hq => tget_tset_ne _ _ _ _ _ hq, tget_tset_self _ _ _ _ hr,
    fun q hq => tget_tset_ne _ _ _ _ _ hq, fun x => ?_, rfl⟩
  change x ∈ s.due.erase (.selection r) ++ [.recompute r] ++ s.enterDue i .fault ++ [.recompute r, .selection r] ↔ _
  simp only [List.mem_append, List.mem_cons, List.not_mem_nil, or_false, State.mem_enterDue, hstate, reduceCtorEq, iff_false,
    not_true_eq_false, not_false_eq_true, true_and]
  exact or_regroup

/-- O40: an attempt that places its SELECT. -/
theorem selection_placed {slot : Nat} {stamp : Word} {d : ProgData} (hslot : s.stagedSlot r e.program = some slot)
    (hready : (s.prog e.program).state = .ready stamp d) (hdefined : ∀ n ∈ d.schedules, s.schedule n ≠ none) :
    ∃ t, exec (.selectionAttempt r) s = .next t ∧ ∃ (rows : List Row) (saturated : Bool),
      rows.length = d.schedules.length ∧
      (∀ (j n : Nat) (sc : Schedule), d.schedules[j]? = some n → s.schedule n = some sc → rows[j]? = some
        (scheduleRow s.line.rounding n sc (wearIncrement (sc.group.bind s.curve) (s.robot r).wear).1 e.trim)) ∧
      (saturated = true ↔ ∃ n ∈ d.schedules, ∃ sc, s.schedule n = some sc ∧
        (wearIncrement (sc.group.bind s.curve) (s.robot r).wear).2 = true) ∧
      t.robot r = { s.robot r with
        motion := .selecting ⟨slot, b.psn, b.tag, b.key, b.stay⟩
        dispatch := ((s.robot r).dispatch + 1) % 8
        dressDue := (s.robot r).dressDue || saturated
        clamps := min 65535 ((s.robot r).clamps + (rows.filter (·.clamped)).length) } ∧
      (∀ q, q ≠ r → t.robot q = s.robot q) ∧
      t.pendOf r = { s.pendOf r with
        poll := none
        select := some ⟨.select, .select ⟨slot, b.tag, b.psn, ((s.robot r).dispatch + 1) % 8, b.dry,
          (s.robot r).dressDue || saturated, rows⟩, s.line.replyTimeout, s.line.retryLimit⟩ } ∧
      (∀ q, q ≠ r → t.pendOf q = s.pendOf q) ∧
      t = { s with robots := t.robots, pend := t.pend, due := s.due.erase (.selection r) ++ [.recompute r] } := by
  have hexec := exec_of_selection hreset hstation hrun hstate howed honline hidle hfault hbody hresolve
  rw [hslot] at hexec
  have hlist : (s.discharge (.selection r)).schedulesOf e.program = d.schedules := State.schedulesOf_of_ready hready
  obtain ⟨hlen, hrows, hsaturated⟩ := State.rowsOf_spec (s := s) (s.robot r).wear e.trim hdefined
  have hbegin := State.beginSelection_of_defined (s := s.discharge (.selection r)) (i := i) (slot := slot) (b := b) (e := e) hr
    (by rw [hlist]; exact hdefined) rfl rfl
  rw [hlist] at hbegin
  exact ⟨_, hexec.trans (congrArg _ hbegin), _, _, hlen, hrows, hsaturated, tget_tset_self _ _ _ _ hr,
    fun q hq => tget_tset_ne _ _ _ _ _ hq, tget_tset_self _ _ _ _ hr, fun q hq => tget_tset_ne _ _ _ _ _ hq, rfl⟩

end

/-- Settles O40: the attempt that meets its conditions, by the staged slot and the schedules. -/
theorem selectionAttemptPlacesTheSelect : Obligations.SelectionAttemptPlacesTheSelect := by
  refine ⟨fun s r i slot b e stamp d hreset hr hstation hrun hstate howed honline hidle hfault hbody hresolve hslot hready =>
    ⟨fun hundefined henabled hi => ?_, fun hdefined => ?_⟩,
    fun s r i b e w items hreset hr hi hstation hrun hstate hwork hfind hcomp honline hidle hfault hbody hresolve hslot => ?_⟩
  · exact selection_undefined hreset hr hstation hrun hstate howed honline hidle hfault hbody hresolve hslot hready hundefined henabled hi
  · exact selection_placed hreset hr hstation hrun hstate howed honline hidle hfault hbody hresolve hslot hready hdefined
  · have howed := State.owed_eq_true_iff.mpr ⟨items, w, hwork, hfind, hcomp⟩
    have hexec := exec_of_selection hreset hstation hrun hstate howed honline hidle hfault hbody hresolve
    rw [hslot] at hexec
    have hlate := State.programLate_eq (s := s.discharge (.selection r)) hwork hfind
    refine ⟨fun hfirst => ?_, fun hagain => ?_⟩
    · rw [hfirst] at hlate
      exact ⟨_, hexec.trans (congrArg _ hlate), tget_tset_self _ _ _ _ hi, fun j hj => tget_tset_ne _ _ _ _ _ hj, rfl⟩
    · rw [hagain] at hlate
      exact hexec.trans (congrArg _ hlate)

end Machine
end Sys2Proof
end

section
/-!
SUPPORT. The STATUS report: the dress counter and the fault code (R116, R119, R151).
-/
namespace Sys2Proof
namespace Machine
namespace State

variable {s u v : State} {r : Nat} {x : StatusRecord}

/-! ### An activation attempt that begins nothing (R89, R131) -/

/-- Robot `r` has no head job, or one whose program is no longer READY with its stamp. -/
def NothingToLoad (s : State) (r : Nat) : Prop :=
  (s.stage r).jobs = [] ∨ ∃ j rest, (s.stage r).jobs = j :: rest ∧ ∀ d, (s.prog j.program).state ≠ .ready j.stamp d

theorem loadingOf_of_not_ready {j : Job} (h : ∀ d, (s.prog j.program).state ≠ .ready j.stamp d) : s.loadingOf j = none := by
  unfold loadingOf ready
  split
  · next stamp d hready =>
    split at hready
    · next stamp' d' hstate =>
      cases hready
      refine if_neg fun hsame => h d ?_
      rw [hstate, hsame]
    · cases hready
  · rfl

theorem activate_of_nothing (h : s.NothingToLoad r) : s.activate r = s := by
  obtain hnone | ⟨j, rest, hjobs, hready⟩ := h
  · exact activate_of_no_jobs hnone
  · have hload : s.loadable r j = none := by
      rw [loadable, loadingOf_of_not_ready hready, ite_self]
    unfold activate
    split
    · simp only [hjobs, hload]
    · rfl

/-! ### What a report raises (R116, R119) -/

theorem attention_raise_congr (h : u.attention = v.attention) (k : Kind) (n : Nat) :
    (u.raise k n).attention = (v.raise k n).attention := by
  simp only [raise, h]

theorem attention_withReportRaised_congr (h : u.attention = v.attention) :
    (s.withReportRaised u r x).attention = (s.withReportRaised v r x).attention := by
  have hdress : (if s.dressed r x then u.raise .dressDone r else u).attention =
      (if s.dressed r x then v.raise .dressDone r else v).attention := by
    split
    · exact attention_raise_congr h _ _
    · exact h
  unfold withReportRaised
  dsimp only
  split
  · exact attention_raise_congr hdress _ _
  · exact hdress

theorem withReportRaised_congr_robot (hrobot : (u.robot r).lastDress = (s.robot r).lastDress)
    (hfault : (u.robot r).fault = (s.robot r).fault) (w : State) : u.withReportRaised w r x = s.withReportRaised w r x := by
  unfold withReportRaised dressed
  rw [hrobot, hfault]

/-! ### The dress counter and the fault code -/

/-- The robot with the dress counter of the report (R116). -/
def dressedRobot (dressed : Bool) (x : StatusRecord) (b : Robot) : Robot :=
  { b with
    lastDress := some x.dress, wear := if dressed then 0 else b.wear, dressDue := b.dressDue && !dressed }

theorem takeDress_eq : s.takeDress r x =
    { s with
      robots := tset s.robots r (dressedRobot (s.dressed r x) x (s.robot r))
      attention := (if s.dressed r x then s.raise .dressDone r else s).attention } := by
  unfold takeDress dressed
  cases hlast : (s.robot r).lastDress with
  | none =>
    have hsame : dressedRobot false x (s.robot r) = { s.robot r with lastDress := some x.dress } := by
      rw [dressedRobot, Bool.not_false, Bool.and_true]
      rfl
    simp only [Option.any_none, Bool.false_eq_true, if_false, hsame]
    rfl
  | some d =>
    by_cases hd : d = x.dress
    · have hsame : dressedRobot false x (s.robot r) = s.robot r := by
        rw [dressedRobot, Bool.not_false, Bool.and_true, ← hd, ← hlast]
        rfl
      simp only [Option.any_some, hd, bne_self_eq_false, if_true, Bool.false_eq_true, if_false, hsame]
      rw [robot, tset_tget_self]
    · have hne : (d != x.dress) = true := by simpa using hd
      have hnew : dressedRobot true x (s.robot r) = { s.robot r with lastDress := some x.dress, wear := 0, dressDue := false } := by
        rw [dressedRobot, Bool.not_true, Bool.and_false]
        rfl
      simp only [Option.any_some, hne, if_true, if_neg hd, hnew]
      rfl

/-- The robot with the fault code as the report leaves it (R119). -/
def codedRobot (x : StatusRecord) (b : Robot) : Robot := { b with fault := if x.state = 4 then some (.robot x.faultNumber) else none }

theorem takeFaultCode_eq (hload : (s.robot r).fault = none ∨ x.state = 4 ∨ s.NothingToLoad r) :
    s.takeFaultCode r x =
      { s with
        robots := tset s.robots r (codedRobot x (s.robot r))
        due := s.due ++ if (s.robot r).fault = none ∨ x.state = 4 then [] else [.selection r]
        attention := (if x.state = 4 ∧ (s.robot r).fault ≠ some (.robot x.faultNumber) then s.raise .robotFault r else s).attention } := by
  unfold takeFaultCode
  by_cases hstate : x.state = 4
  · have hcoded : codedRobot x (s.robot r) = { s.robot r with fault := some (.robot x.faultNumber) } := by
      rw [codedRobot, if_pos hstate]
    simp only [hstate, if_true, or_true, List.append_nil, true_and, hcoded]
    by_cases hsame : (s.robot r).fault = some (.robot x.faultNumber)
    · simp only [hsame, if_true, ne_eq, not_true_eq_false, if_false]
      rfl
    · simp only [hsame, if_false, ne_eq, not_false_eq_true, if_true]
      rfl
  · have hcoded : codedRobot x (s.robot r) = { s.robot r with fault := none } := by
      rw [codedRobot, if_neg hstate]
    simp only [hstate, if_false, or_false, false_and, hcoded]
    cases hfault : (s.robot r).fault with
    | none =>
      have hkept : ({ s.robot r with fault := none } : Robot) = s.robot r := by rw [← hfault]
      simp only [Option.isSome_none, Bool.false_eq_true, if_false, if_true, List.append_nil, hkept]
      rw [robot, tset_tget_self]
    | some c =>
      have hnothing : s.NothingToLoad r := (hload.resolve_left (by simp [hfault])).resolve_left hstate
      have hactivate : (s.modRobot r fun b => { b with fault := none }).activate r = s.modRobot r fun b => { b with fault := none } :=
        activate_of_nothing hnothing
      simp only [Option.isSome_some, if_true, hactivate, reduceCtorEq, if_false]
      rfl

/-- Steps 2 and 3 of R151, of a robot whose poll timer stands at 0. -/
theorem takeReport_eq (hr : r < 32) (htimer : (s.robot r).pollTimer = 0)
    (hload : (s.robot r).fault = none ∨ x.state = 4 ∨ s.NothingToLoad r) :
    (s.takeDress r x).takeFaultCode r x =
      { s with
        robots := tset s.robots r (withReport (s.robot r) (s.dressed r x) x)
        due := s.due ++ if (s.robot r).fault = none ∨ x.state = 4 then [] else [.selection r]
        attention := (s.withReportRaised s r x).attention } := by
  rw [takeDress_eq]
  generalize hu : ({ s with
    robots := tset s.robots r (dressedRobot (s.dressed r x) x (s.robot r))
    attention := (if s.dressed r x then s.raise .dressDone r else s).attention } : State) = u
  have hrobot : u.robot r = dressedRobot (s.dressed r x) x (s.robot r) := by
    rw [← hu]
    exact tget_tset_self _ _ _ _ hr
  have hfault : (u.robot r).fault = (s.robot r).fault := by rw [hrobot]; rfl
  have hload' : (u.robot r).fault = none ∨ x.state = 4 ∨ u.NothingToLoad r := by
    rw [hfault, ← hu]
    exact hload
  have hfinal : codedRobot x (dressedRobot (s.dressed r x) x (s.robot r)) = withReport (s.robot r) (s.dressed r x) x :=
    congrArg (fun n => ({ withReport (s.robot r) (s.dressed r x) x with pollTimer := n } : Robot)) htimer
  have hattention : u.attention = (if s.dressed r x then s.raise .dressDone r else s).attention := by rw [← hu]
  rw [takeFaultCode_eq hload', hfault, hrobot, hfinal]
  refine (eq_iff_fields _ _).mpr ?_
  rw [← hu]
  refine ⟨rfl, rfl, rfl, rfl, rfl, rfl, rfl, rfl, rfl, rfl, rfl, rfl, rfl, rfl, rfl, rfl, tset_tset _ _ _ _, rfl, rfl, rfl, rfl, ?_⟩
  rw [hu]
  unfold withReportRaised
  dsimp only
  split
  · exact attention_raise_congr hattention _ _
  · exact hattention

end State
end Machine
end Sys2Proof
end

section
/-!
SUPPORT. The report against the motion state (R151 to R154).
-/
namespace Sys2Proof
namespace Machine
namespace State

variable {s : State} {r i : Nat} {x : StatusRecord} {sel : Selection}

/-! ### A station in FAULT (R45) -/

/-- The station once it has entered FAULT, its first cause kept. -/
def faulted (c : Cause) (x : Station) : Station := if x.state = .fault then x else { x with state := .fault, cause := some c }

/-- A station entering FAULT, whether it stood there or not. -/
theorem faultStation_any (hi : i < 16) (c : Cause) :
    s.faultStation i c =
      { s with
        stations := tset s.stations i (faulted c (s.station i))
        due := s.due ++ s.enterDue i .fault
        attention := (if (s.station i).state = .fault then s else s.raise .stationFault i).attention } := by
  by_cases hfault : (s.station i).state = .fault
  · have hdue : s.enterDue i .fault = [] := if_pos (by rw [hfault])
    rw [faultStation_of_fault hfault, faulted, if_pos hfault, if_pos hfault, hdue, List.append_nil, tset_station_self]
  · rw [faultStation_eq hi hfault, faulted, if_neg hfault, if_neg hfault]

/-! ### A matching DONE (R115, R153) -/

/-- The state with the welds of a report counted and written to the body (R115, R153). -/
def weldsTaken (r n k : Nat) (s : State) : State :=
  { s with
    robots := tset s.robots r (countedRobot n (s.robot r))
    bodies := (s.modBody k fun b => { b with welds := tset b.welds r (some n) }).bodies }

theorem enterIdle_of_robots {v : State} (hr : r < 32) {b : Robot} (hrobots : v.robots = tset s.robots r b)
    (henabled : b.enabled = true) :
    v.enterIdle r = { v with robots := tset s.robots r (idleRobot b), due := v.due ++ [.recompute r, .selection r] } := by
  have hrobot : v.robot r = b := by
    rw [robot, hrobots]
    exact tget_tset_self _ _ _ _ hr
  rw [enterIdle_eq hr (.inl (by rw [hrobot]; exact henabled)), hrobot, hrobots, tset_tset]

section
variable (hr : r < 32) (hi : i < 16) (henabled : (s.robot r).enabled = true) (hstation : s.stationOf r = some i)
  (hbody : (s.station i).body = some sel.key)
include hr hi henabled hstation hbody

/-- A matching DONE without weld faults of the one robot that its WELDING station is owed. -/
theorem matchingDone_of_last (hfaults : x.weldFaults = 0) (hstate : (s.station i).state = .welding) {items : List WorkItem}
    (hwork : (s.station i).work = some items) (howed : ∀ w ∈ items, w.comp = .owed ↔ w.robot = r) (hsome : ∃ w ∈ items, w.robot = r) :
    s.matchingDone r sel x =
      { s with
        robots := tset s.robots r (idleRobot (countedRobot x.welds (s.robot r)))
        bodies := (s.modBody sel.key fun b => { b with
          welds := tset b.welds r (some x.welds), results := tset b.results i .welded }).bodies
        stations := tset s.stations i { s.station i with
          state := .complete, running := false, lastCycle := (s.station i).watch, cause := none
          work := some (items.map fun w => if w.robot = r then { w with comp := .done } else w) }
        attention := (s.raise .stationComplete i).attention
        due := s.due ++ [.recompute r, .selection r] } := by
  set items' := items.map fun w => if w.robot = r then { w with comp := Component.done } else w with hitems'
  have hunowed : ∀ w ∈ items', w.comp ≠ .owed := by
    intro w hw
    obtain ⟨w', hw', rfl⟩ := List.mem_map.mp hw
    split
    · exact nofun
    · next hne => exact fun h => hne ((howed w' hw').mp h)
  have hdone : finishResult items' = .welded := by
    rw [finishResult_eq, if_pos]
    obtain ⟨w, hw, hwr⟩ := hsome
    exact ⟨_, List.mem_map.mpr ⟨w, hw, rfl⟩, by rw [if_pos hwr]⟩
  have howedr : (s.weldsTaken r x.welds sel.key).owed i r = true := by
    refine owed_eq_true_iff.mpr ?_
    obtain ⟨w, hw, hwr⟩ := hsome
    cases hfind : items.find? fun w => w.robot == r with
    | none =>
      have hall := List.find?_eq_none.mp hfind w hw
      simp [hwr] at hall
    | some w' =>
      have hw' : w'.robot = r := by simpa using List.find?_some hfind
      exact ⟨items, w', hwork, hfind, (howed w' (List.mem_of_find?_eq_some hfind)).mpr hw'⟩
  have htaken : s.matchingDone r sel x =
      (((s.weldsTaken r x.welds sel.key).setComponent i r .done).judgeStation i).enterIdle r := by
    have hstation' : (s.weldsTaken r x.welds sel.key).stationOf r = some i := hstation
    have hbody' : ((s.weldsTaken r x.welds sel.key).station i).body = some sel.key := hbody
    change enterIdle r (match (s.weldsTaken r x.welds sel.key).stationOf r with
      | none => s.weldsTaken r x.welds sel.key
      | some i =>
        if ((s.weldsTaken r x.welds sel.key).station i).body = some sel.key then
          if x.weldFaults = 0 then
            (if (s.weldsTaken r x.welds sel.key).owed i r then (s.weldsTaken r x.welds sel.key).setComponent i r .done
              else s.weldsTaken r x.welds sel.key).judgeStation i
          else (s.weldsTaken r x.welds sel.key).faultStation i .weldFaults
        else s.weldsTaken r x.welds sel.key) = _
    simp only [hstation', if_pos hbody', if_pos hfaults, if_pos howedr]
  set u := (s.weldsTaken r x.welds sel.key).setComponent i r .done with hu
  have hread : u.station i = { s.station i with work := some items' } := by
    refine (tget_tset_self _ _ _ _ hi).trans ?_
    exact congrArg (fun work : Option (List WorkItem) => { s.station i with
      work := work.map fun items : List WorkItem =>
        items.map fun w : WorkItem => if w.robot = r then { w with comp := .done } else w }) hwork
  have hjudged : JudgedTo u i sel.key items' .complete := .completes (.inr (by rw [hread]; exact hstate)) hunowed
  have hdue : u.enterDue i .complete = [] := enterDue_of_not_arrived (by rw [hread]; simp [hstate]) (by simp)
  rw [htaken, judgeStation_eq hi (by rw [hread]) (by rw [hread]; exact hbody) hjudged, hdone, judged, hdue, List.append_nil, hread]
  rw [enterIdle_of_robots (s := s) hr (b := countedRobot x.welds (s.robot r)) rfl henabled]
  have hbodies := congrArg bodies (modBody_modBody (s := s) (k := sel.key)
    (f := fun b => { b with welds := tset b.welds r (some x.welds) }) (fun _ => rfl) (Body.setResult i .welded))
  exact (eq_iff_fields _ _).mpr ⟨rfl, rfl, rfl, rfl, rfl, rfl, rfl, rfl, hbodies, rfl, rfl, tset_tset _ _ _ _, rfl, rfl, rfl, rfl,
    rfl, rfl, rfl, rfl, rfl, rfl⟩

/-- A matching DONE with weld faults (R45, R153). -/
theorem matchingDone_of_faults (hfaults : x.weldFaults ≠ 0) :
    s.matchingDone r sel x =
      { s with
        robots := tset s.robots r (idleRobot (countedRobot x.welds (s.robot r)))
        bodies := (s.modBody sel.key fun b => { b with welds := tset b.welds r (some x.welds) }).bodies
        stations := tset s.stations i (faulted .weldFaults (s.station i))
        attention := (if (s.station i).state = .fault then s else s.raise .stationFault i).attention
        due := s.due ++ s.enterDue i .fault ++ [.recompute r, .selection r] } := by
  have htaken : s.matchingDone r sel x = ((s.weldsTaken r x.welds sel.key).faultStation i .weldFaults).enterIdle r := by
    have hstation' : (s.weldsTaken r x.welds sel.key).stationOf r = some i := hstation
    have hbody' : ((s.weldsTaken r x.welds sel.key).station i).body = some sel.key := hbody
    change enterIdle r (match (s.weldsTaken r x.welds sel.key).stationOf r with
      | none => s.weldsTaken r x.welds sel.key
      | some i =>
        if ((s.weldsTaken r x.welds sel.key).station i).body = some sel.key then
          if x.weldFaults = 0 then
            (if (s.weldsTaken r x.welds sel.key).owed i r then (s.weldsTaken r x.welds sel.key).setComponent i r .done
              else s.weldsTaken r x.welds sel.key).judgeStation i
          else (s.weldsTaken r x.welds sel.key).faultStation i .weldFaults
        else s.weldsTaken r x.welds sel.key) = _
    simp only [hstation', if_pos hbody', if_neg hfaults]
  rw [htaken, faultStation_any hi, enterIdle_of_robots (s := s) hr (b := countedRobot x.welds (s.robot r)) rfl henabled]
  refine (eq_iff_fields _ _).mpr ⟨rfl, rfl, rfl, rfl, rfl, rfl, rfl, rfl, rfl, rfl, rfl, rfl, rfl, rfl, rfl, rfl,
    rfl, rfl, rfl, rfl, rfl, ?_⟩
  change (if (s.station i).state = .fault then _ else _ : State).attention = _
  split <;> rfl

/-- A FAULT report of a robot with a selection (R45, R154). -/
theorem robotFault_eq :
    ((s.stationOf r).elim s fun i => s.faultFor i sel .robotFault).enterIdle r =
      { s with
        robots := tset s.robots r (idleRobot (s.robot r))
        stations := tset s.stations i (faulted .robotFault (s.station i))
        attention := (if (s.station i).state = .fault then s else s.raise .stationFault i).attention
        due := s.due ++ s.enterDue i .fault ++ [.recompute r, .selection r] } := by
  rw [hstation]
  change (s.faultFor i sel .robotFault).enterIdle r = _
  rw [faultFor, if_pos hbody, faultStation_any hi, enterIdle_eq hr (.inl (by exact henabled))]
  rfl

end

/-! ### The report against the motion state (R151) -/

theorem statusAgainstMotion_of_done {toAbort : Bool} (hmotion : (s.robot r).motion = .selected sel ∨ (s.robot r).motion = .welding sel)
    (hstate : x.state = 3) (hecho : x.echo = (s.robot r).dispatch) (htag : x.tag = sel.tag) :
    s.statusAgainstMotion r x toAbort = s.matchingDone r sel x := by
  obtain hmotion | hmotion := hmotion <;>
    simp only [statusAgainstMotion, hmotion, hstate, if_true, hecho, htag, and_self]

theorem statusAgainstMotion_of_fault {toAbort : Bool} (hmotion : (s.robot r).motion = .selected sel ∨ (s.robot r).motion = .welding sel)
    (hstate : x.state = 4) : s.statusAgainstMotion r x toAbort =
      ((s.stationOf r).elim s fun i => s.faultFor i sel .robotFault).enterIdle r := by
  have h43 : ¬ (4 = 3) := by omega
  obtain hmotion | hmotion := hmotion <;>
    simp only [statusAgainstMotion, hmotion, hstate, if_neg h43, if_true]

theorem statusAgainstMotion_of_welding {toAbort : Bool} (hmotion : (s.robot r).motion = .selected sel)
    (hstate : x.state = 2 ∨ x.state = 5) (hecho : x.echo = (s.robot r).dispatch) :
    s.statusAgainstMotion r x toAbort = (s.modRobot r fun x => { x with motion := .welding sel }).owe [.recompute r] := by
  have h3 : ¬ x.state = 3 := by omega
  have h4 : ¬ x.state = 4 := by omega
  simp only [statusAgainstMotion, hmotion, if_neg h3, if_neg h4, if_pos (And.intro hstate hecho)]

/-- A report that changes nothing of the cycle (R151 to R154). -/
theorem statusAgainstMotion_of_nothing
    (h : (s.robot r).motion = .idle ∨ (∃ sel, (s.robot r).motion = .selecting sel) ∨
      (∃ sel, (s.robot r).motion = .aborting sel) ∧ x.state ≠ 3 ∨
      ∃ sel, ((s.robot r).motion = .selected sel ∨ (s.robot r).motion = .welding sel) ∧
        (x.state = 3 ∧ (x.echo ≠ (s.robot r).dispatch ∨ x.tag ≠ sel.tag) ∨ x.state ≤ 1 ∨
          (x.state = 2 ∨ x.state = 5) ∧ ((s.robot r).motion = .welding sel ∨ x.echo ≠ (s.robot r).dispatch))) :
    s.statusAgainstMotion r x false = s := by
  obtain hidle | ⟨sel, hselecting⟩ | ⟨⟨sel, haborting⟩, hstate⟩ | ⟨sel, hmotion, hreport⟩ := h
  · simp only [statusAgainstMotion, hidle]
  · simp only [statusAgainstMotion, hselecting]
  · simp only [statusAgainstMotion, haborting, if_neg hstate]
  · have h4 : ¬ x.state = 4 := by omega
    by_cases h3 : x.state = 3
    · have hstale : ¬ (x.echo = (s.robot r).dispatch ∧ x.tag = sel.tag) := by
        obtain ⟨-, hecho | htag⟩ | hlow | ⟨hwelding, -⟩ := hreport
        · exact fun h => hecho h.1
        · exact fun h => htag h.2
        · omega
        · omega
      obtain hmotion | hmotion := hmotion <;> simp only [statusAgainstMotion, hmotion, if_pos h3, if_neg hstale]
    · obtain hmotion | hmotion := hmotion
      · have hnot : ¬ ((x.state = 2 ∨ x.state = 5) ∧ x.echo = (s.robot r).dispatch) := by
          rintro ⟨hstate, hecho⟩
          obtain ⟨h, -⟩ | hlow | ⟨-, hwelding | hecho'⟩ := hreport
          · exact h3 h
          · omega
          · cases hmotion.symm.trans hwelding
          · exact hecho' hecho
        simp only [statusAgainstMotion, hmotion, if_neg h3, if_neg h4, if_neg hnot]
      · simp only [statusAgainstMotion, hmotion, if_neg h3, if_neg h4]

end State
end Machine
end Sys2Proof
end

section
/-!
SUPPORT. A STATUS reply to a poll (R151, R161, R165, R166): O43.
-/
namespace Sys2Proof
namespace Machine
namespace State

variable {s u v : State} {r i n : Nat} {x : StatusRecord} {b : Fin 4}

theorem statusInRange_of_inRange (h : inRange x) : statusInRange x = true := by
  obtain ⟨hstate, hecho, hwelds, hfaults, hdress, hnumber, hcode⟩ := h
  have hlast : (if x.state = 4 then decide (1 ≤ x.faultNumber ∧ x.faultNumber ≤ 255) else decide (x.faultNumber = 0)) = true := by
    split
    · next h4 => exact decide_eq_true ⟨hcode.mp h4, hnumber⟩
    · next h4 => exact decide_eq_true (Nat.eq_zero_of_not_pos fun h => h4 (hcode.mpr h))
  simp only [statusInRange, decide_eq_true hstate, decide_eq_true hecho, decide_eq_true hwelds, decide_eq_true hfaults,
    decide_eq_true hdress, hlast, Bool.and_self]

/-- The state with the poll of robot `r` on bus `n` answered. -/
def polled (n r : Nat) (s : State) : State := (s.endTx n).restartPoll r

theorem robot_polled_self (hr : r < 32) : (s.polled n r).robot r = { s.robot r with pollTimer := 0 } := tget_tset_self _ _ _ _ hr

/-- State `v` with the report of robot `r`, whose context was that of `s`, taken into its dress counter and fault code. -/
def withStatus (s : State) (r : Nat) (x : StatusRecord) (v : State) : State :=
  { v with
    robots := tset v.robots r (withReport (v.robot r) (s.dressed r x) x)
    due := v.due ++ if (s.robot r).fault = none ∨ x.state = 4 then [] else [.selection r]
    attention := (s.withReportRaised v r x).attention }

/-- The state with the poll of the OFFLINE robot `r` on bus `n` answered, the robot ONLINE and its SLOT QUERY queued. -/
def broughtOnline (n r : Nat) (s : State) : State :=
  (s.endTx n).withRobot r { s.robot r with online := true, pollTimer := 0 }
    { s.pendOf r with query := some ⟨.query, .slotQuery (s.slotCount r), s.line.replyTimeout, s.line.retryLimit⟩ }

theorem robot_broughtOnline_self (hr : r < 32) :
    (s.broughtOnline n r).robot r = { s.robot r with online := true, pollTimer := 0 } := tget_tset_self _ _ _ _ hr

theorem comeOnline_eq : s.comeOnline r x =
    ((((s.withRobot r { s.robot r with online := true, pollTimer := 0 } { s.pendOf r with
      query := some ⟨.query, .slotQuery (s.slotCount r), s.line.replyTimeout, s.line.retryLimit⟩ }).takeDress r x).takeFaultCode r x).owe
        [.recompute r, .selection r]) := by
  unfold comeOnline
  rw [newTx_eq (by simp)]
  rfl

theorem withRobot_restartPoll (c : Robot) (p : Pend) : (s.restartPoll r).withRobot r c p = s.withRobot r c p :=
  congrArg (fun robots => ({ s with robots := robots, pend := tset s.pend r p } : State)) (tset_tset _ _ _ _)

theorem comeOnline_polled (hr : r < 32) : (s.polled n r).comeOnline r x =
    (((s.broughtOnline n r).takeDress r x).takeFaultCode r x).owe [.recompute r, .selection r] := by
  rw [comeOnline_eq, robot_polled_self hr, polled, withRobot_restartPoll]
  rfl

theorem takeReport_eq_withStatus (hr : r < 32) (htimer : (v.robot r).pollTimer = 0) (hdress : (v.robot r).lastDress = (s.robot r).lastDress)
    (hfault : (v.robot r).fault = (s.robot r).fault) (hload : (s.robot r).fault = none ∨ x.state = 4 ∨ v.NothingToLoad r) :
    (v.takeDress r x).takeFaultCode r x = s.withStatus r x v := by
  have hdressed : v.dressed r x = s.dressed r x := by rw [dressed, dressed, hdress]
  rw [takeReport_eq hr htimer (by rw [hfault]; exact hload), withStatus, hdressed, hfault, withReportRaised_congr_robot hdress hfault]

section
variable {c : Robot} (hr : r < 32)
include hr

/-- The robots of a state whose context of robot `r` was written twice, last with the report. -/
theorem robot_withStatus_self (hv : v.robots = tset s.robots r c) :
    (s.withStatus r x v).robot r = withReport c (s.dressed r x) x := by
  have hrobot : v.robot r = c := by
    rw [robot, hv]
    exact tget_tset_self _ _ _ _ hr
  rw [← hrobot]
  exact tget_tset_self _ _ _ _ hr

omit hr in
theorem robot_withStatus_ne (hv : v.robots = tset s.robots r c) {q : Nat} (hq : q ≠ r) : (s.withStatus r x v).robot q = s.robot q := by
  refine (tget_tset_ne _ _ _ _ _ hq).trans ?_
  rw [hv]
  exact tget_tset_ne _ _ _ _ _ hq

end
end State

section
variable {s v : State} {b : Fin 4} {o : OnBus} {x : StatusRecord}
variable (hreset : s.resetInput = false) (hr : o.robot < 32) (hcur : (s.bus b.val).cur = some o) (hreq : o.tx.req = .poll)
  (hrange : State.inRange x)
include hreset hcur hreq hrange

theorem exec_statusReply_of_poll :
    exec (.statusReply b o.drop x) s = .next ((s.polled b.val o.robot).takeStatus o.robot x false) := by
  have htoAbort : State.toLiveAbort o = false := by simp only [State.toLiveAbort, hreq]
  rw [exec_event_of_working rfl rfl hreset]
  refine congrArg Host.Outcome.next ((State.takeReply_of_poll (taking (.statusReply b o.drop x)) hcur ?_ hreq).trans ?_)
  · simp only [State.statusFits, State.statusInRange_of_inRange hrange, hreq, Bool.and_self]
  · change ((s.endTx b.val).restartPoll o.robot).takeStatus o.robot x (State.toLiveAbort o) = _
    rw [htoAbort]
    rfl

include hr

/-- The report of an ONLINE robot: what it does against the motion state, then its dress counter and fault code (R151). -/
theorem exec_statusReply_of_online {c : Robot} (honline : (s.robot o.robot).online = true)
    (hmotion : (s.polled b.val o.robot).statusAgainstMotion o.robot x false = v) (hrobots : v.robots = tset s.robots o.robot c)
    (htimer : c.pollTimer = 0) (hdress : c.lastDress = (s.robot o.robot).lastDress) (hfault : c.fault = (s.robot o.robot).fault)
    (hload : (s.robot o.robot).fault = none ∨ x.state = 4 ∨ v.NothingToLoad o.robot) :
    exec (.statusReply b o.drop x) s = .next (s.withStatus o.robot x v) := by
  have hrobot : v.robot o.robot = c := by
    rw [State.robot, hrobots]
    exact tget_tset_self _ _ _ _ hr
  have honline' : ((s.polled b.val o.robot).robot o.robot).online = true := by
    rw [State.robot_polled_self hr]
    exact honline
  rw [exec_statusReply_of_poll hreset hcur hreq hrange, State.takeStatus, if_pos honline', hmotion]
  exact congrArg _ (State.takeReport_eq_withStatus hr (by rw [hrobot]; exact htimer) (by rw [hrobot]; exact hdress)
    (by rw [hrobot]; exact hfault) hload)

section
variable {i : Nat} {sel : Selection} (hi : i < 16) (honline : (s.robot o.robot).online = true)
  (henabled : (s.robot o.robot).enabled = true)
  (hmotion : (s.robot o.robot).motion = .selected sel ∨ (s.robot o.robot).motion = .welding sel)
  (hstation : s.stationOf o.robot = some i) (hbody : (s.station i).body = some sel.key)
include hi honline henabled hmotion hstation hbody

/-- A matching DONE without weld faults of the one robot that its WELDING station is owed. -/
theorem exec_statusReply_of_done {items : List WorkItem}
    (hload : (s.robot o.robot).fault = none ∨ (s.stage o.robot).jobs = []) (h3 : x.state = 3)
    (hecho : x.echo = (s.robot o.robot).dispatch) (htag : x.tag = sel.tag)
    (hfaults : x.weldFaults = 0) (hstate : (s.station i).state = .welding)
    (hwork : (s.station i).work = some items) (howed : ∀ w ∈ items, w.comp = .owed ↔ w.robot = o.robot)
    (hsome : ∃ w ∈ items, w.robot = o.robot) :
    exec (.statusReply b o.drop x) s = .next (s.withStatus o.robot x
      { s with
        robots := tset s.robots o.robot (State.idleRobot (State.countedRobot x.welds { s.robot o.robot with pollTimer := 0 }))
        bodies := (s.modBody sel.key fun y => { y with
          welds := tset y.welds o.robot (some x.welds), results := tset y.results i .welded }).bodies
        stations := tset s.stations i { s.station i with
          state := .complete, running := false, lastCycle := (s.station i).watch, cause := none
          work := some (items.map fun w => if w.robot = o.robot then { w with comp := .done } else w) }
        buses := tset s.buses b.val { s.bus b.val with cur := none }
        attention := (s.raise .stationComplete i).attention
        due := s.due ++ [.recompute o.robot, .selection o.robot] }) := by
  have hrobot := State.robot_polled_self (s := s) (n := b.val) hr
  refine exec_statusReply_of_online hreset hr hcur hreq hrange honline ?_ rfl rfl rfl rfl (hload.imp_right fun h => .inr (.inl h))
  rw [State.statusAgainstMotion_of_done (by rw [hrobot]; exact hmotion) h3 (by rw [hrobot]; exact hecho) htag,
    State.matchingDone_of_last (s := s.polled b.val o.robot) hr hi (by rw [hrobot]; exact henabled) hstation hbody hfaults hstate
      hwork howed hsome, hrobot]
  exact (State.eq_iff_fields _ _).mpr ⟨rfl, rfl, rfl, rfl, rfl, rfl, rfl, rfl, rfl, rfl, rfl, rfl, rfl, rfl, rfl, rfl,
    tset_tset _ _ _ _, rfl, rfl, rfl, rfl, rfl⟩

/-- A matching DONE with weld faults. -/
theorem exec_statusReply_of_done_faults
    (hload : (s.robot o.robot).fault = none ∨ (s.stage o.robot).jobs = []) (h3 : x.state = 3)
    (hecho : x.echo = (s.robot o.robot).dispatch) (htag : x.tag = sel.tag) (hfaults : x.weldFaults ≠ 0) :
    exec (.statusReply b o.drop x) s = .next (s.withStatus o.robot x
      { s with
        robots := tset s.robots o.robot (State.idleRobot (State.countedRobot x.welds { s.robot o.robot with pollTimer := 0 }))
        bodies := (s.modBody sel.key fun y => { y with welds := tset y.welds o.robot (some x.welds) }).bodies
        stations := tset s.stations i (State.faulted .weldFaults (s.station i))
        buses := tset s.buses b.val { s.bus b.val with cur := none }
        attention := (if (s.station i).state = .fault then s else s.raise .stationFault i).attention
        due := s.due ++ s.enterDue i .fault ++ [.recompute o.robot, .selection o.robot] }) := by
  have hrobot := State.robot_polled_self (s := s) (n := b.val) hr
  refine exec_statusReply_of_online hreset hr hcur hreq hrange honline ?_ rfl rfl rfl rfl (hload.imp_right fun h => .inr (.inl h))
  rw [State.statusAgainstMotion_of_done (by rw [hrobot]; exact hmotion) h3 (by rw [hrobot]; exact hecho) htag,
    State.matchingDone_of_faults (s := s.polled b.val o.robot) hr hi (by rw [hrobot]; exact henabled) hstation hbody hfaults, hrobot]
  refine (State.eq_iff_fields _ _).mpr ⟨rfl, rfl, rfl, rfl, rfl, rfl, rfl, rfl, rfl, rfl, rfl, rfl, rfl, rfl, rfl, rfl,
    tset_tset _ _ _ _, rfl, rfl, rfl, rfl, ?_⟩
  change (if (s.station i).state = .fault then _ else _ : State).attention = _
  split <;> rfl

/-- A FAULT report of a robot with a selection. -/
theorem exec_statusReply_of_fault (h4 : x.state = 4) :
    exec (.statusReply b o.drop x) s = .next (s.withStatus o.robot x
      { s with
        robots := tset s.robots o.robot (State.idleRobot { s.robot o.robot with pollTimer := 0 })
        stations := tset s.stations i (State.faulted .robotFault (s.station i))
        buses := tset s.buses b.val { s.bus b.val with cur := none }
        attention := (if (s.station i).state = .fault then s else s.raise .stationFault i).attention
        due := s.due ++ s.enterDue i .fault ++ [.recompute o.robot, .selection o.robot] }) := by
  have hrobot := State.robot_polled_self (s := s) (n := b.val) hr
  refine exec_statusReply_of_online hreset hr hcur hreq hrange honline ?_ rfl rfl rfl rfl (.inr (.inl h4))
  rw [State.statusAgainstMotion_of_fault (by rw [hrobot]; exact hmotion) h4,
    State.robotFault_eq (s := s.polled b.val o.robot) hr hi (by rw [hrobot]; exact henabled) hstation hbody, hrobot]
  refine (State.eq_iff_fields _ _).mpr ⟨rfl, rfl, rfl, rfl, rfl, rfl, rfl, rfl, rfl, rfl, rfl, rfl, rfl, rfl, rfl, rfl,
    tset_tset _ _ _ _, rfl, rfl, rfl, rfl, ?_⟩
  change (if (s.station i).state = .fault then _ else _ : State).attention = _
  split <;> rfl

end

/-- The reply of an OFFLINE robot (R109, R166). -/
theorem exec_statusReply_of_offline (honline : (s.robot o.robot).online = false)
    (hload : (s.robot o.robot).fault = none ∨ x.state = 4 ∨ (s.stage o.robot).jobs = []) :
    exec (.statusReply b o.drop x) s =
      .next ((s.withStatus o.robot x (s.broughtOnline b.val o.robot)).owe [.recompute o.robot, .selection o.robot]) := by
  have hrobot := State.robot_polled_self (s := s) (n := b.val) hr
  rw [exec_statusReply_of_poll hreset hcur hreq hrange, State.takeStatus, if_neg (by rw [hrobot]; simp [honline]),
    State.comeOnline_polled hr]
  have hself := State.robot_broughtOnline_self (s := s) (n := b.val) hr
  exact congrArg (fun t => Host.Outcome.next (State.owe [.recompute o.robot, .selection o.robot] t))
    (State.takeReport_eq_withStatus hr (by rw [hself]) (by rw [hself]) (by rw [hself]) (hload.imp_right fun h => h.imp_right .inl))

end
end Machine
end Sys2Proof
end

section
/-!
A STATUS reply reports the cycle, the fault and the dress: O43.
-/
namespace Sys2Proof
namespace Machine

theorem or_rotate {a b c d : Prop} : (a ∨ d) ∨ b ∨ c ↔ a ∨ b ∨ c ∨ d := by tauto

theorem mem_faultDue {s : State} {r i : Nat} {d : Due} :
    d ∈ s.due ++ s.enterDue i .fault ++ [.recompute r, .selection r] ↔
      d ∈ s.due ∨ d = .recompute r ∨ d = .selection r ∨ (s.station i).state = .arrived ∧ ∃ q ∈ s.robotsAt i, d = .recompute q := by
  have harrived : ¬ ((s.station i).state = .arrived ↔ StationState.fault = .arrived) ↔ (s.station i).state = .arrived := by simp
  simp only [List.mem_append, List.mem_cons, List.not_mem_nil, or_false, State.mem_enterDue, harrived]
  exact or_rotate

section
variable {s : State} {b : Fin 4} {o : OnBus} {x : StatusRecord}
variable (hreset : s.resetInput = false) (hr : o.robot < 32) (hcur : (s.bus b.val).cur = some o) (hreq : o.tx.req = .poll)
  (hrange : State.inRange x)
include hreset hr hcur hreq hrange

/-- A report that changes nothing of the cycle (R151 to R154). -/
theorem statusReply_leaves_cycle (honline : (s.robot o.robot).online = true)
    (hcycle : (s.robot o.robot).motion = .idle ∨ (∃ sel, (s.robot o.robot).motion = .selecting sel) ∨
      (∃ sel, (s.robot o.robot).motion = .aborting sel) ∧ x.state ≠ 3 ∨
      ∃ sel, ((s.robot o.robot).motion = .selected sel ∨ (s.robot o.robot).motion = .welding sel) ∧
        (x.state = 3 ∧ (x.echo ≠ (s.robot o.robot).dispatch ∨ x.tag ≠ sel.tag) ∨ x.state ≤ 1 ∨
          (x.state = 2 ∨ x.state = 5) ∧ ((s.robot o.robot).motion = .welding sel ∨ x.echo ≠ (s.robot o.robot).dispatch)))
    (hload : (s.robot o.robot).fault = none ∨ x.state = 4 ∨ s.NothingToLoad o.robot) :
    ∃ t, exec (.statusReply b o.drop x) s = .next t ∧
      t.robot o.robot = State.withReport (s.robot o.robot) (s.dressed o.robot x) x ∧
      (∀ q, q ≠ o.robot → t.robot q = s.robot q) ∧ t.bus b.val = { s.bus b.val with cur := none } ∧
      (∀ c, c ≠ b.val → t.bus c = s.bus c) ∧
      t = { s with
        robots := t.robots, buses := t.buses
        due := s.due ++ if (s.robot o.robot).fault = none ∨ x.state = 4 then [] else [.selection o.robot]
        attention := (s.withReportRaised s o.robot x).attention } := by
  have hrobot := State.robot_polled_self (s := s) (n := b.val) hr
  have hnothing : (s.polled b.val o.robot).statusAgainstMotion o.robot x false = s.polled b.val o.robot :=
    State.statusAgainstMotion_of_nothing (by rw [hrobot]; exact hcycle)
  have hexec := exec_statusReply_of_online hreset hr hcur hreq hrange honline hnothing rfl rfl rfl rfl hload
  exact ⟨_, hexec, State.robot_withStatus_self (v := s.polled b.val o.robot) (c := { s.robot o.robot with pollTimer := 0 }) hr rfl,
    fun _ hq => State.robot_withStatus_ne (v := s.polled b.val o.robot) (c := { s.robot o.robot with pollTimer := 0 }) rfl hq,
    State.bus_endTx_self s b,
    fun _ hc => State.bus_endTx_ne s hc, (State.eq_iff_fields _ _).mpr ⟨rfl, rfl, rfl, rfl, rfl, rfl, rfl, rfl, rfl, rfl, rfl, rfl,
      rfl, rfl, rfl, rfl, rfl, rfl, rfl, rfl, rfl, State.attention_withReportRaised_congr rfl⟩⟩

theorem exec_statusReply_of_welding {sel : Selection} (honline : (s.robot o.robot).online = true)
    (hmotion : (s.robot o.robot).motion = .selected sel) (hstate : x.state = 2 ∨ x.state = 5)
    (hecho : x.echo = (s.robot o.robot).dispatch) (hload : (s.robot o.robot).fault = none ∨ (s.stage o.robot).jobs = []) :
    exec (.statusReply b o.drop x) s = .next (s.withStatus o.robot x
      { s with
        robots := tset s.robots o.robot { s.robot o.robot with motion := .welding sel, pollTimer := 0 }
        buses := tset s.buses b.val { s.bus b.val with cur := none }
        due := s.due ++ [.recompute o.robot] }) := by
  have hrobot := State.robot_polled_self (s := s) (n := b.val) hr
  refine exec_statusReply_of_online hreset hr hcur hreq hrange honline ?_ rfl rfl rfl rfl (hload.imp_right fun h => .inr (.inl h))
  rw [State.statusAgainstMotion_of_welding (s := s.polled b.val o.robot) (by rw [hrobot]; exact hmotion) hstate (by rw [hrobot]; exact hecho)]
  rw [State.polled, State.restartPoll, State.modRobot_modRobot _ _ _ _ hr]
  rfl

/-- A SELECTED robot that reports WELDING or DRESSING with its dispatch number (R152). -/
theorem statusReply_begins_welding {sel : Selection} (honline : (s.robot o.robot).online = true)
    (hmotion : (s.robot o.robot).motion = .selected sel) (hstate : x.state = 2 ∨ x.state = 5)
    (hecho : x.echo = (s.robot o.robot).dispatch) (hload : (s.robot o.robot).fault = none ∨ (s.stage o.robot).jobs = []) :
    ∃ t, exec (.statusReply b o.drop x) s = .next t ∧
      t.robot o.robot = State.withReport { s.robot o.robot with motion := .welding sel } (s.dressed o.robot x) x ∧
      (∀ q, q ≠ o.robot → t.robot q = s.robot q) ∧ t.bus b.val = { s.bus b.val with cur := none } ∧
      (∀ c, c ≠ b.val → t.bus c = s.bus c) ∧
      t = { s with
        robots := t.robots, buses := t.buses
        due := s.due ++ [.recompute o.robot] ++ if (s.robot o.robot).fault = none then [] else [.selection o.robot]
        attention := (s.withReportRaised s o.robot x).attention } := by
  have h4 : ¬ x.state = 4 := by omega
  refine ⟨_, exec_statusReply_of_welding hreset hr hcur hreq hrange honline hmotion hstate hecho hload,
    State.robot_withStatus_self (c := { s.robot o.robot with motion := .welding sel, pollTimer := 0 }) hr rfl,
    fun _ hq => State.robot_withStatus_ne (c := { s.robot o.robot with motion := .welding sel, pollTimer := 0 }) rfl hq,
    State.bus_endTx_self s b, fun _ hc => State.bus_endTx_ne s hc, (State.eq_iff_fields _ _).mpr ⟨rfl, ?_, rfl, rfl, rfl, rfl,
      rfl, rfl, rfl, rfl, rfl, rfl, rfl, rfl, rfl, rfl, rfl, rfl, rfl, rfl, rfl, State.attention_withReportRaised_congr rfl⟩⟩
  change s.due ++ [.recompute o.robot] ++ (if (s.robot o.robot).fault = none ∨ x.state = 4 then _ else _) = _
  simp only [h4, or_false]

/-- The report of an OFFLINE robot (R109, R166). -/
theorem statusReply_brings_online (honline : (s.robot o.robot).online = false)
    (hload : (s.robot o.robot).fault = none ∨ x.state = 4 ∨ (s.stage o.robot).jobs = []) :
    ∃ t, exec (.statusReply b o.drop x) s = .next t ∧
      t.robot o.robot = { State.withReport (s.robot o.robot) (s.dressed o.robot x) x with online := true } ∧
      (∀ q, q ≠ o.robot → t.robot q = s.robot q) ∧
      t.pendOf o.robot = { s.pendOf o.robot with
        query := some ⟨.query, .slotQuery (s.slotCount o.robot), s.line.replyTimeout, s.line.retryLimit⟩ } ∧
      (∀ q, q ≠ o.robot → t.pendOf q = s.pendOf q) ∧ t.bus b.val = { s.bus b.val with cur := none } ∧
      (∀ c, c ≠ b.val → t.bus c = s.bus c) ∧
      t = { s with
        robots := t.robots, pend := t.pend, buses := t.buses
        due := s.due ++ (if (s.robot o.robot).fault = none ∨ x.state = 4 then [] else [.selection o.robot]) ++
          [.recompute o.robot, .selection o.robot]
        attention := (s.withReportRaised s o.robot x).attention } :=
  ⟨_, exec_statusReply_of_offline hreset hr hcur hreq hrange honline hload,
    State.robot_withStatus_self (v := s.broughtOnline b.val o.robot) hr rfl,
    fun _ hq => State.robot_withStatus_ne (v := s.broughtOnline b.val o.robot) rfl hq,
    tget_tset_self _ _ _ _ hr, fun _ hq => tget_tset_ne _ _ _ _ _ hq, State.bus_endTx_self s b, fun _ hc => State.bus_endTx_ne s hc,
    (State.eq_iff_fields _ _).mpr ⟨rfl, rfl, rfl, rfl, rfl, rfl, rfl, rfl, rfl, rfl, rfl, rfl,
      rfl, rfl, rfl, rfl, rfl, rfl, rfl, rfl, rfl, State.attention_withReportRaised_congr rfl⟩⟩

end

/-- Settles O43: what the report does against the motion state, by the kind of report, and then its dress counter and fault
code. -/
theorem statusReplyReportsTheCycle : Obligations.StatusReplyReportsTheCycle := by
  rintro s b o x r hreset hr hcur rfl hreq hrange
  refine ⟨fun i sel hi honline henabled hmotion hstation hbody => ⟨?_, fun h4 => ?_⟩,
    fun honline hcycle hload => statusReply_leaves_cycle hreset hr hcur hreq hrange honline hcycle hload,
    fun sel honline hmotion hstate hecho hload =>
      statusReply_begins_welding hreset hr hcur hreq hrange honline hmotion hstate hecho hload,
    fun honline hload => statusReply_brings_online hreset hr hcur hreq hrange honline hload⟩
  · rintro y counted hy hload h3 hecho htag rfl
    have h4 : ¬ x.state = 4 := by omega
    have hwelded := State.bodyOf_modBody_self s sel.key (fun y => { y with
      welds := tset y.welds o.robot (some x.welds), results := tset y.results i .welded }) (fun _ => rfl) hy
    have hcounted := State.bodyOf_modBody_self s sel.key (fun y => { y with welds := tset y.welds o.robot (some x.welds) })
      (fun _ => rfl) hy
    refine ⟨fun items hfaults hstate hwork howed hsome => ⟨_, exec_statusReply_of_done hreset hr hcur hreq hrange hi honline henabled
        hmotion hstation hbody hload h3 hecho htag hfaults hstate hwork howed hsome, State.robot_withStatus_self
          (c := State.idleRobot (State.countedRobot x.welds { s.robot o.robot with pollTimer := 0 })) hr rfl,
        fun _ hq => State.robot_withStatus_ne (c := State.idleRobot (State.countedRobot x.welds { s.robot o.robot with pollTimer := 0 })) rfl hq,
        hwelded, fun k hk => State.bodyOf_modBody_ne s sel.key k (fun y => { y with
          welds := tset y.welds o.robot (some x.welds), results := tset y.results i .welded }) (fun _ => rfl) hk,
        tget_tset_self _ _ _ _ hi, fun j hj => tget_tset_ne _ _ _ _ _ hj, State.bus_endTx_self s b,
        fun _ hc => State.bus_endTx_ne s hc,
        (State.eq_iff_fields _ _).mpr ⟨rfl, ?_, rfl, rfl, rfl, rfl, rfl, rfl, rfl, rfl, rfl, rfl,
          rfl, rfl, rfl, rfl, rfl, rfl, rfl, rfl, rfl, State.attention_withReportRaised_congr rfl⟩⟩,
      fun hfaults => ⟨_, exec_statusReply_of_done_faults hreset hr hcur hreq hrange hi honline henabled
        hmotion hstation hbody hload h3 hecho htag hfaults, State.robot_withStatus_self
          (c := State.idleRobot (State.countedRobot x.welds { s.robot o.robot with pollTimer := 0 })) hr rfl,
        fun _ hq => State.robot_withStatus_ne (c := State.idleRobot (State.countedRobot x.welds { s.robot o.robot with pollTimer := 0 })) rfl hq,
        hcounted, fun k hk => State.bodyOf_modBody_ne s sel.key k (fun y => { y with
          welds := tset y.welds o.robot (some x.welds) }) (fun _ => rfl) hk,
        tget_tset_self _ _ _ _ hi, fun j hj => tget_tset_ne _ _ _ _ _ hj, State.bus_endTx_self s b,
        fun _ hc => State.bus_endTx_ne s hc, fun d => ?_,
        (State.eq_iff_fields _ _).mpr ⟨rfl, rfl, rfl, rfl, rfl, rfl, rfl, rfl, rfl, rfl, rfl, rfl,
          rfl, rfl, rfl, rfl, rfl, rfl, rfl, rfl, rfl, State.attention_withReportRaised_congr rfl⟩⟩⟩
    · change s.due ++ [.recompute o.robot, .selection o.robot] ++ (if (s.robot o.robot).fault = none ∨ x.state = 4 then _ else _) = _
      simp only [h4, or_false]
    · change d ∈ s.due ++ s.enterDue i .fault ++ [.recompute o.robot, .selection o.robot] ++
        (if (s.robot o.robot).fault = none ∨ x.state = 4 then [] else [.selection o.robot]) ↔ _
      rw [List.mem_append, mem_faultDue]
      refine or_iff_left_of_imp fun hd => .inr (.inr (.inl ?_))
      split at hd
      · exact absurd hd List.not_mem_nil
      · exact List.mem_singleton.mp hd
  · refine ⟨_, exec_statusReply_of_fault hreset hr hcur hreq hrange hi honline henabled hmotion hstation hbody h4,
      State.robot_withStatus_self (c := State.idleRobot { s.robot o.robot with pollTimer := 0 }) hr rfl,
      fun _ hq => State.robot_withStatus_ne (c := State.idleRobot { s.robot o.robot with pollTimer := 0 }) rfl hq,
      tget_tset_self _ _ _ _ hi, fun j hj => tget_tset_ne _ _ _ _ _ hj, State.bus_endTx_self s b,
      fun _ hc => State.bus_endTx_ne s hc, fun d => ?_,
      (State.eq_iff_fields _ _).mpr ⟨rfl, rfl, rfl, rfl, rfl, rfl, rfl, rfl, rfl, rfl, rfl, rfl,
        rfl, rfl, rfl, rfl, rfl, rfl, rfl, rfl, rfl, State.attention_withReportRaised_congr rfl⟩⟩
    change d ∈ s.due ++ s.enterDue i .fault ++ [.recompute o.robot, .selection o.robot] ++
      (if (s.robot o.robot).fault = none ∨ x.state = 4 then [] else [.selection o.robot]) ↔ _
    rw [if_pos (.inr h4), List.append_nil, mem_faultDue]

end Machine
end Sys2Proof
end

section
/-!
SUPPORT. The replies to a load (R136 to R141): O47, O48.
-/
namespace Sys2Proof
namespace Machine
namespace State

variable {s : State} {r next : Nat} {l : Load} {stamp : Word} {d : ProgData} {j : Job} {req : DropRequest}

/-- The phase of a load whose next index is `next`. -/
def nextPhase (l : Load) (next : Nat) : Phase := if next < l.count then .streaming else .closing

/-- The frame of a load whose next index is `next`, of a program in the blocks listed (R136). -/
def nextRequest (s : State) (l : Load) (blocks : List Nat) (next : Nat) : DropRequest :=
  if next < l.count then .loadData l.seq l.slot next ((List.range (min 16 (l.count - next))).map fun j => s.pointAt blocks (next + j))
  else .loadClose l.seq l.slot

theorem nextLoadFrame_eq (hr : r < 32) (hready : (s.prog l.program).state = .ready stamp d) :
    s.nextLoadFrame r l next =
      { s with
        staging := tset s.staging r { s.stage r with
          load := some { l with phase := nextPhase l next, next := next }
          channel := (s.stage r).channel ++
            [⟨.load, s.nextRequest l d.blocks next, s.line.replyTimeout, s.line.retryLimit⟩] } } := by
  have hentry : s.ready l.program = some (stamp, d) := by simp only [ready, hready]
  unfold nextLoadFrame nextPhase nextRequest
  split
  · rw [hentry, placeLoad, newTx_eq (by simp), modStage_modStage _ _ _ _ hr]
    rfl
  · rw [placeLoad, newTx_eq (by simp), modStage_modStage _ _ _ _ hr]
    rfl

theorem liveLoad_of_seq (hload : (s.stage r).load = some l) (hseq : req.loadSeq = some l.seq) : s.liveLoad r req = some l := by
  simp only [liveLoad, hload, if_pos hseq]

theorem liveLoad_eq_none {q : Nat} (hload : ∀ l, (s.stage r).load = some l → l.seq ≠ q) (hseq : req.loadSeq = some q) :
    s.liveLoad r req = none := by
  unfold liveLoad
  split
  · next l hl => exact if_neg fun h => hload l hl (Option.some.inj (h.symm.trans hseq))
  · rfl

section
variable (hr : r < 32) (hload : (s.stage r).load = some l) (hjobs : (s.stage r).jobs = [j]) (hprogram : j.program = l.program)
include hr hload hjobs hprogram

/-- A load whose check agrees, of the one job listed (R137). -/
theorem loadMatches_eq :
    s.loadMatches r l =
      { s with
        library := { s.library with progs := tset s.library.progs l.program (unreferenced (s.prog l.program)) }
        staging := tset s.staging r { s.stage r with load := none, jobs := [] }
        robots := tset s.robots r { s.robot r with
          slots := tset (s.robot r).slots l.slot ⟨.valid l.program l.stamp, ((s.robot r).slot l.slot).lastUse⟩ }
        attention := (s.raise .loadDone r).attention
        due := s.due ++ [.recompute r, .selection r] } := by
  have hread : tget Staging.reset (tset s.staging r (unloaded (s.stage r))) r = unloaded (s.stage r) := tget_tset_self _ _ _ _ hr
  have hleft : (unloaded (s.stage r)).jobs.filter (fun j => j.program != l.program) = [] := by
    simp [unloaded, hjobs, hprogram]
  have hkept : ¬ (SlotContent.valid l.program l.stamp = .empty ∨ SlotContent.valid l.program l.stamp = .unknown) := by simp
  unfold loadMatches
  rw [endLoad_of_some hload, setSlot_eq, if_neg hkept]
  refine (eq_iff_fields _ _).mpr ⟨rfl, rfl, rfl, rfl, rfl, rfl, rfl, rfl, rfl, rfl, rfl, rfl, rfl, rfl, rfl, rfl, rfl, ?_, rfl, rfl,
    rfl, rfl⟩
  refine (tset_tset _ _ _ _).trans (congrArg (tset s.staging r) ?_)
  refine (congrArg (fun g : Staging => { g with jobs := g.jobs.filter fun j => j.program != l.program }) hread).trans ?_
  rw [hleft]
  rfl

/-- The staging of a robot with the attempts of the load's job set. -/
def withAttempts (l : Load) (n : Nat) (g : Staging) : Staging :=
  { g with jobs := g.jobs.map fun j => if j.program = l.program then { j with attempts := n } else j }

/-- The state with a load whose check differs ended, its slot INVALID and its one job left with `n` attempts used. -/
def mismatched (r : Nat) (l : Load) (j : Job) (n : Nat) (s : State) : State :=
  { s with
    library := { s.library with progs := tset s.library.progs l.program (unreferenced (s.prog l.program)) }
    staging := tset s.staging r { s.stage r with load := none, jobs := [{ j with active := false, attempts := n }] }
    robots := tset s.robots r { s.robot r with
      slots := tset (s.robot r).slots l.slot ⟨.invalid l.program l.stamp, ((s.robot r).slot l.slot).lastUse⟩ } }

theorem mismatched_eq (n : Nat) :
    ((s.endLoad r).setSlot r l.slot (.invalid l.program l.stamp)).modStage r (withAttempts l n) = s.mismatched r l j n := by
  have hkept : ¬ (SlotContent.invalid l.program l.stamp = .empty ∨ SlotContent.invalid l.program l.stamp = .unknown) := by simp
  have hjob : (unloaded (s.stage r)).jobs.map (fun j => if j.program = l.program then { j with attempts := n } else j) =
      [{ j with active := false, attempts := n }] := by
    simp only [unloaded, hjobs, List.map_cons, List.map_nil, hprogram, if_true]
  have hstage : withAttempts l n (unloaded (s.stage r)) =
      { s.stage r with load := none, jobs := [{ j with active := false, attempts := n }] } := by
    rw [withAttempts, hjob]
    rfl
  rw [endLoad_of_some hload, setSlot_eq, if_neg hkept]
  refine (eq_iff_fields _ _).mpr ⟨rfl, rfl, rfl, rfl, rfl, rfl, rfl, rfl, rfl, rfl, rfl, rfl, rfl, rfl, rfl, rfl, rfl, ?_,
    rfl, rfl, rfl, rfl⟩
  refine (tset_tset _ _ _ _).trans (congrArg (tset s.staging r) ?_)
  exact (congrArg (withAttempts l n) (tget_tset_self Staging.reset s.staging r (unloaded (s.stage r)) hr)).trans hstage

/-- A load whose check differs, of the one job listed (R138). -/
theorem loadMismatch_eq (hactive : j.active = true) :
    s.loadMismatch r l =
      { s with
        library := { s.library with progs := tset s.library.progs l.program (unreferenced (s.prog l.program)) }
        staging := tset s.staging r { s.stage r with
          load := none
          jobs := [{ j with
            active := false, attempts := if s.line.checkAttempts ≤ j.attempts + 1 then 0 else j.attempts + 1 }] }
        robots := tset s.robots r { s.robot r with
          fault := if s.line.checkAttempts ≤ j.attempts + 1 then some .loadCheck else (s.robot r).fault
          slots := tset (s.robot r).slots l.slot ⟨.invalid l.program l.stamp, ((s.robot r).slot l.slot).lastUse⟩ }
        attention := (if s.line.checkAttempts ≤ j.attempts + 1 then s.raise .robotFault r else s).attention
        due := s.due ++ [.recompute r, .selection r] } := by
  have hfind : (s.stage r).jobs.find? (fun j => j.active) = some j := by rw [hjobs, List.find?_cons_of_pos hactive]
  by_cases hlast : s.line.checkAttempts ≤ j.attempts + 1
  · have hends : s.loadMismatch r l =
        (((s.mismatched r l j 0).modRobot r fun b => { b with fault := some .loadCheck }).raise .robotFault r).oweSlot r := by
      rw [← mismatched_eq hr hload hjobs hprogram 0]
      simp only [loadMismatch, hfind, decide_eq_true hlast, if_true]
      rfl
    rw [hends, if_pos hlast, if_pos hlast, if_pos hlast]
    have hrobots : (tset (s.mismatched r l j 0).robots r { (s.mismatched r l j 0).robot r with fault := some .loadCheck }) =
        tset s.robots r { s.robot r with
          fault := some .loadCheck
          slots := tset (s.robot r).slots l.slot ⟨.invalid l.program l.stamp, ((s.robot r).slot l.slot).lastUse⟩ } := by
      refine (tset_tset _ _ _ _).trans (congrArg (tset s.robots r) ?_)
      exact congrArg (fun b : Robot => { b with fault := some .loadCheck }) (tget_tset_self _ _ _ _ hr)
    exact congrArg (fun robots => ({ s.mismatched r l j 0 with
      robots := robots, attention := (s.raise .robotFault r).attention
      due := s.due ++ [.recompute r, .selection r] } : State)) hrobots
  · have hends : s.loadMismatch r l = (s.mismatched r l j (j.attempts + 1)).oweSlot r := by
      rw [← mismatched_eq hr hload hjobs hprogram (j.attempts + 1)]
      simp only [loadMismatch, hfind, decide_eq_false hlast, Bool.false_eq_true, if_false]
      rfl
    rw [hends, if_neg hlast, if_neg hlast, if_neg hlast]
    rfl

end

theorem lt_of_state_ready {n : Nat} (hready : (s.prog n).state = .ready stamp d) : n < 512 := by
  by_contra hn
  rw [prog, tget_of_ge _ _ _ (Nat.not_lt.mp hn)] at hready
  cases hready

end State

section
variable {s : State} {b : Fin 4} {o : OnBus} {slot : Nat}
variable (hreset : s.resetInput = false) (hcur : (s.bus b.val).cur = some o) (hslot : slot < s.slotCount o.robot)
include hreset hcur hslot

/-- A LOAD ACK of a LOAD OPEN or a LOAD DATA. -/
theorem exec_loadAck_of_stream (hreq : (∃ q sl n st c, o.tx.req = .loadOpen q sl n st c) ∨
    ∃ q sl first points, o.tx.req = .loadData q sl first points) :
    exec (.loadAck b o.drop slot) s = .next ((s.endTx b.val).takeLoadAck o.robot o.tx.req) := by
  rw [exec_event_of_working rfl rfl hreset]
  refine congrArg Host.Outcome.next (State.takeReply_of_fits (taking (.loadAck b o.drop slot)) hcur ?_ ?_)
  · obtain ⟨q, sl, n, st, c, hreq⟩ | ⟨q, sl, first, points, hreq⟩ := hreq <;> simp [hreq, State.slotInRange, hslot]
  · obtain ⟨q, sl, n, st, c, hreq⟩ | ⟨q, sl, first, points, hreq⟩ := hreq <;> simp [hreq]

/-- The check of the load on the bus returned (R137, R138). -/
theorem exec_loadCheckReply {l : Load} {slot' : Nat} {check stamp : Word} {d : ProgData} (hreq : o.tx.req = .loadClose l.seq slot')
    (hload : (s.stage o.robot).load = some l) (hready : (s.prog l.program).state = .ready stamp d) :
    exec (.loadCheckReply b o.drop slot check) s = .next (if check = d.check then (s.endTx b.val).loadMatches o.robot l
      else (s.endTx b.val).loadMismatch o.robot l) := by
  have hlive : (s.endTx b.val).liveLoad o.robot (.loadClose l.seq slot') = some l := State.liveLoad_of_seq hload rfl
  have hentry : (s.endTx b.val).declaredCheck l = some d.check := by
    have hready' : ((s.endTx b.val).prog l.program).state = .ready stamp d := hready
    simp only [State.declaredCheck, State.ready, hready', Option.map_some]
  rw [exec_event_of_working rfl rfl hreset]
  refine congrArg Host.Outcome.next ((State.takeReply_of_fits (taking (.loadCheckReply b o.drop slot check)) hcur ?_ ?_).trans ?_)
  · simp [hreq, State.slotInRange, hslot]
  · simp [hreq]
  · simp only [taking, hreq, State.takeLoadCheck, hlive, hentry, Option.some.injEq, eq_comm (a := d.check)]

end

/-- Settles O47: the live load's next frame enters the channel, and for an ended load the transaction ends alone. -/
theorem loadAckStreamsTheProgram : Obligations.LoadAckStreamsTheProgram := by
  rintro s b o slot r q hreset hr hcur rfl hslot
  refine ⟨fun l stamp d next hload hq hready hnext => ?_, fun hended hreq => ?_⟩
  · subst hq
    have hframe : exec (.loadAck b o.drop slot) s = .next ((s.endTx b.val).nextLoadFrame o.robot l next) := by
      obtain ⟨sl, n, st, c, hreq, rfl⟩ | ⟨sl, first, points, hreq, rfl⟩ := hnext
      · have hlive : (s.endTx b.val).liveLoad o.robot (.loadOpen l.seq sl n st c) = some l := State.liveLoad_of_seq hload rfl
        rw [exec_loadAck_of_stream hreset hcur hslot (.inl ⟨_, _, _, _, _, hreq⟩), hreq]
        simp only [State.takeLoadAck, hlive]
      · have hlive : (s.endTx b.val).liveLoad o.robot (.loadData l.seq sl first points) = some l := State.liveLoad_of_seq hload rfl
        rw [exec_loadAck_of_stream hreset hcur hslot (.inr ⟨_, _, _, _, hreq⟩), hreq]
        simp only [State.takeLoadAck, hlive]
    rw [State.nextLoadFrame_eq (s := s.endTx b.val) hr hready] at hframe
    refine ⟨_, hframe, s.nextRequest l d.blocks next, State.nextPhase l next, ?_, tget_tset_self _ _ _ _ hr,
      fun p hp => tget_tset_ne _ _ _ _ _ hp, State.bus_endTx_self s b, fun c hc => State.bus_endTx_ne s hc, rfl⟩
    unfold State.nextRequest State.nextPhase
    split
    · next h => exact .inl ⟨h, rfl, rfl⟩
    · next h => exact .inr ⟨Nat.le_of_not_lt h, rfl, rfl⟩
  · have hexec : exec (.loadAck b o.drop slot) s = .next (s.endTx b.val) := by
      obtain ⟨sl, n, st, c, hreq⟩ | ⟨sl, first, points, hreq⟩ := hreq
      · have hlive : (s.endTx b.val).liveLoad o.robot (.loadOpen q sl n st c) = none := State.liveLoad_eq_none hended rfl
        rw [exec_loadAck_of_stream hreset hcur hslot (.inl ⟨_, _, _, _, _, hreq⟩), hreq]
        simp only [State.takeLoadAck, hlive]
      · have hlive : (s.endTx b.val).liveLoad o.robot (.loadData q sl first points) = none := State.liveLoad_eq_none hended rfl
        rw [exec_loadAck_of_stream hreset hcur hslot (.inr ⟨_, _, _, _, hreq⟩), hreq]
        simp only [State.takeLoadAck, hlive]
    exact ⟨_, hexec, State.bus_endTx_self s b, fun c hc => State.bus_endTx_ne s hc, rfl⟩

/-- Settles O48: the load ends, its one job removed where the check agrees, and an attempt used where it differs. -/
theorem loadCheckReplyEndsTheLoad : Obligations.LoadCheckReplyEndsTheLoad := by
  rintro s b o slot slot' r check stamp l d j hreset hr hcur rfl hreq hslot hload hjobs hactive hprogram hready
  have hexec := exec_loadCheckReply (check := check) hreset hcur hslot hreq hload hready
  have hn := State.lt_of_state_ready hready
  by_cases hcheck : check = d.check
  · rw [if_pos hcheck, State.loadMatches_eq (s := s.endTx b.val) hr hload hjobs hprogram] at hexec
    exact ⟨_, hexec, tget_tset_self _ _ _ _ hn, fun m hm => tget_tset_ne _ _ _ _ _ hm, rfl,
      fun p hp => ⟨tget_tset_ne _ _ _ _ _ hp, tget_tset_ne _ _ _ _ _ hp⟩, State.bus_endTx_self s b, fun c hc => State.bus_endTx_ne s hc,
      fun _ => ⟨tget_tset_self _ _ _ _ hr, tget_tset_self _ _ _ _ hr, rfl⟩, fun h => absurd hcheck h, rfl⟩
  · rw [if_neg hcheck, State.loadMismatch_eq (s := s.endTx b.val) hr hload hjobs hprogram hactive] at hexec
    refine ⟨_, hexec, tget_tset_self _ _ _ _ hn, fun m hm => tget_tset_ne _ _ _ _ _ hm, rfl,
      fun p hp => ⟨tget_tset_ne _ _ _ _ _ hp, tget_tset_ne _ _ _ _ _ hp⟩, State.bus_endTx_self s b, fun c hc => State.bus_endTx_ne s hc,
      fun h => absurd h hcheck, fun _ => ⟨tget_tset_self _ _ _ _ hr, tget_tset_self _ _ _ _ hr, ?_⟩, rfl⟩
    change (if s.line.checkAttempts ≤ j.attempts + 1 then _ else _ : State).attention = _
    split <;> rfl

end Machine
end Sys2Proof
end

section
/-!
SUPPORT. A staging recomputation (R126, R128 to R135, R141): O39.
-/
namespace Sys2Proof
namespace Machine

/-! ### The programs of a window (R126) -/

/-- The distinct members of a list, each with its first place, as the window is folded. -/
def firstPlaces (l : List Nat) : List (Nat × Nat) :=
  l.zipIdx.foldl (fun acc w => if acc.any fun a => a.1 == w.1 then acc else acc ++ [w]) []

theorem firstPlaces_snoc (l : List Nat) (a : Nat) :
    firstPlaces (l ++ [a]) = if (firstPlaces l).any fun w => w.1 == a then firstPlaces l else firstPlaces l ++ [(a, l.length)] := by
  rw [firstPlaces, List.zipIdx_append, List.foldl_append]
  simp only [Nat.zero_add]
  rfl

theorem firstPlaces_spec (l : List Nat) :
    (∀ n pos, (n, pos) ∈ firstPlaces l ↔ n ∈ l ∧ l.idxOf n = pos) ∧ ((firstPlaces l).map (·.2)).Pairwise (· < ·) := by
  induction l using List.reverseRecOn with
  | nil => simp [firstPlaces]
  | append_singleton l a ih =>
    obtain ⟨hmem, hsorted⟩ := ih
    have hlisted : (firstPlaces l).any (fun w => w.1 == a) = true ↔ a ∈ l := by
      rw [List.any_eq_true]
      constructor
      · rintro ⟨⟨n, pos⟩, hw, hn⟩
        rw [← (beq_iff_eq.mp hn : n = a)]
        exact ((hmem n pos).mp hw).1
      · exact fun ha => ⟨(a, l.idxOf a), (hmem _ _).mpr ⟨ha, rfl⟩, beq_self_eq_true a⟩
    rw [firstPlaces_snoc]
    by_cases ha : a ∈ l
    · rw [if_pos (hlisted.mpr ha)]
      refine ⟨fun n pos => ?_, hsorted⟩
      rw [hmem, List.mem_append, List.mem_singleton, or_iff_left_of_imp (fun h => h ▸ ha)]
      exact and_congr_right fun hn => by rw [List.idxOf_append_of_mem hn]
    · rw [if_neg fun h => ha (hlisted.mp h)]
      refine ⟨fun n pos => ?_, ?_⟩
      · rw [List.mem_append, List.mem_append, List.mem_singleton, List.mem_singleton, hmem, Prod.mk.injEq]
        by_cases hn : n ∈ l
        · have hna : n ≠ a := fun h => ha (h ▸ hn)
          simp [hn, hna, List.idxOf_append_of_mem hn]
        · simp only [hn, false_and, false_or, List.idxOf_append_of_notMem hn]
          refine and_congr_right fun h => ?_
          rw [h, List.idxOf_cons_self, Nat.add_zero]
          exact eq_comm
      · rw [List.map_append]
        refine List.pairwise_append.mpr ⟨hsorted, List.pairwise_singleton _ _, fun i hi j hj => ?_⟩
        obtain ⟨⟨n, pos⟩, hw, rfl⟩ := List.mem_map.mp hi
        obtain ⟨hn, rfl⟩ := (hmem n pos).mp hw
        rw [List.mem_singleton.mp hj]
        exact List.idxOf_lt_length_of_mem hn

/-- The first place of a member of a list. -/
theorem mem_and_idxOf_eq_iff {l : List Nat} {n pos : Nat} :
    n ∈ l ∧ l.idxOf n = pos ↔ l[pos]? = some n ∧ ∀ k, k < pos → l[k]? ≠ some n := by
  constructor
  · rintro ⟨hn, rfl⟩
    refine ⟨List.getElem?_idxOf hn, fun k hk hget => ?_⟩
    obtain ⟨hlt, hk'⟩ := List.getElem?_eq_some_iff.mp hget
    have hfirst : (l[k] == n) = false := List.not_of_lt_findIdx hk
    rw [hk', beq_self_eq_true] at hfirst
    cases hfirst
  · rintro ⟨hget, hfirst⟩
    obtain ⟨hlt, hpos⟩ := List.getElem?_eq_some_iff.mp hget
    have hn : n ∈ l := List.mem_of_getElem? hget
    refine ⟨hn, (List.findIdx_eq hlt).mpr ⟨by rw [hpos]; exact beq_self_eq_true n, fun k hk => ?_⟩⟩
    rw [beq_eq_false_iff_ne]
    exact fun h => hfirst k hk (List.getElem?_eq_some_iff.mpr ⟨hk.trans hlt, h⟩)

namespace State

variable {s : State} {r n attempts slot : Nat} {stamp : Word} {d : ProgData}

theorem windowPrograms_of_none (h : s.place r = none ∨ (s.robot r).enabled = false) : s.windowPrograms r = [] := by
  have hwindow : s.window r = [] := by
    unfold window
    obtain hplace | hdisabled := h
    · rw [hplace]
    · cases s.place r with
      | none => rfl
      | some p => simp only [hdisabled, Bool.false_eq_true, if_false]
  rw [windowPrograms, hwindow]
  rfl

/-- The programs of the bodies in the window of a robot of the layout that is enabled. -/
def windowList (s : State) (r : Nat) (p : RobotRec) : List Nat :=
  ((s.waitingBody r p.station).toList ++ (s.lineBodies.filter (Body.notYetPast p.station)).take s.line.depth).filterMap
    fun b => (s.resolve b r).map (·.program)

theorem windowPrograms_eq {p : RobotRec} (hplace : s.place r = some p) (henabled : (s.robot r).enabled = true) :
    s.windowPrograms r = firstPlaces (s.windowList r p) := by
  have hwindow : (s.window r).map (·.2) = s.windowList r p := by
    simp only [window, hplace, henabled, if_true, List.map_filterMap, Option.map_map]
    rfl
  rw [firstPlaces, ← hwindow, List.zipIdx_map]
  rfl

theorem waitingBody_toList (i : Nat) : (s.waitingBody r i).toList =
    if (s.station i).state = .arrived ∧ (s.robot r).motion = .idle ∧ ((s.station i).work = none ∨ s.owed i r = true) then
      (s.bodyAt i).toList else [] := by
  unfold waitingBody
  split <;> rfl

/-! ### Slot choice and the staging (R132) -/

theorem leastUsed_congr {u : State} (hrobots : u.robots = s.robots) (l : List Nat) : u.leastUsed r l = s.leastUsed r l := by
  have hrobot (q : Nat) : u.robot q = s.robot q := by rw [robot, hrobots, robot]
  induction l with
  | nil => rfl
  | cons i l ih => simp only [leastUsed, ih, hrobot]

theorem chooseSlot_modStage (g : Staging → Staging) : (s.modStage r g).chooseSlot r = s.chooseSlot r := by
  have hleast : (s.modStage r g).leastUsed r = s.leastUsed r := funext fun l => leastUsed_congr (s := s) (by rfl) l
  unfold chooseSlot
  rw [hleast]
  rfl

theorem chooseSlot_discharge (x : Due) : (s.discharge x).chooseSlot r = s.chooseSlot r := by
  have hleast : (s.discharge x).leastUsed r = s.leastUsed r := funext fun l => leastUsed_congr (s := s) (by rfl) l
  unfold chooseSlot
  rw [hleast]
  rfl

/-! ### The job list (R129) -/

theorem loadingOf_of_ready {j : Job} (hready : (s.prog j.program).state = .ready stamp d) (hstamp : j.stamp = stamp) :
    s.loadingOf j = some d.count := by
  have hentry : s.ready j.program = some (stamp, d) := by simp only [ready, hready]
  simp only [loadingOf, hentry, if_pos hstamp.symm]

/-- The job for a READY program no slot holds: made anew, or kept with its attempts. -/
theorem jobFor_of_ready {pos' : Nat} (hready : (s.prog n).state = .ready stamp d) (hstaged : s.stagedSlot r n = none)
    (hjobs : (s.stage r).jobs = [] ∧ attempts = 0 ∨ ∃ pos, (s.stage r).jobs = [⟨n, stamp, pos, attempts, false⟩]) :
    s.jobFor r n pos' = some ⟨n, stamp, pos', attempts, false⟩ := by
  have hentry : s.ready n = some (stamp, d) := by simp only [ready, hready]
  obtain ⟨hnone, rfl⟩ | ⟨pos, hone⟩ := hjobs
  · simp only [jobFor, hnone, List.find?_nil, hstaged, Option.isSome_none, Bool.false_eq_true, if_false, hentry]
  · have hloading : s.loadingOf ⟨n, stamp, pos, attempts, false⟩ = some d.count := loadingOf_of_ready hready rfl
    have hfind : (s.stage r).jobs.find? (fun j => j.program == n && (j.active || (s.loadingOf j).isSome)) =
        some ⟨n, stamp, pos, attempts, false⟩ := by
      rw [hone]
      exact List.find?_cons_of_pos (by simp [hloading])
    simp only [jobFor, hfind, hstaged, Option.isSome_none, Bool.false_eq_true, false_and, if_false]

/-- A staged program whose job is not active has none. -/
theorem jobFor_of_staged {pos : Nat} (hstaged : s.stagedSlot r n ≠ none)
    (hidle : ∀ j ∈ (s.stage r).jobs, j.program = n → j.active = false) : s.jobFor r n pos = none := by
  have hsome : (s.stagedSlot r n).isSome = true := Option.isSome_iff_ne_none.mpr hstaged
  unfold jobFor
  dsimp only
  split
  · next j hj =>
    have hinactive : j.active = false := by
      have hprogram := List.find?_some hj
      simp only [Bool.and_eq_true, beq_iff_eq] at hprogram
      exact hidle j (List.mem_of_find?_eq_some hj) hprogram.1
    exact if_pos ⟨hsome, by simp [hinactive]⟩
  · exact if_pos hsome

end State
end Machine
end Sys2Proof
end

section
/-!
A staging recomputation begins, blocks or cancels a load (R130, R131, R133, R134): O39.
-/
namespace Sys2Proof
namespace Machine
namespace State

variable {s : State} {r n attempts slot : Nat} {stamp : Word} {d : ProgData} {j : Job}

/-- The robot's staging with its job list rebuilt (R129). -/
def rebuilt (jobs : List Job) (g : Staging) : Staging := { g with jobs := jobs, blocked := g.blocked && !jobs.isEmpty }

theorem recompute_of_kept (h : s.cancelsActive r = false) :
    s.recompute r = (s.modStage r (rebuilt (s.rebuiltJobs r))).activate r := by
  simp only [recompute, h, Bool.false_eq_true, if_false]
  rfl

theorem recompute_of_cancelled (h : s.cancelsActive r = true) :
    s.recompute r = ((s.cancelLoad r).modStage r (rebuilt (s.rebuiltJobs r))).activate r := by
  simp only [recompute, h, if_true]
  rfl

theorem cancelsActive_of_none (h : (s.stage r).load = none) : s.cancelsActive r = false := by
  simp only [cancelsActive, h, Option.isSome_none, Bool.false_and]

/-- A rebuilt list without jobs leaves nothing to activate. -/
theorem activate_of_rebuilt_nil (hr : r < 32) : (s.modStage r (rebuilt [])).activate r = s.modStage r (rebuilt []) :=
  activate_of_no_jobs (by rw [show (s.modStage r (rebuilt [])).stage r = rebuilt [] (s.stage r) from tget_tset_self _ _ _ _ hr]; rfl)

/-! ### A load begun or blocked -/

section
variable (hrun : s.mode = .run) (hplace : s.place r ≠ none) (honline : (s.robot r).online = true)
  (henabled : (s.robot r).enabled = true) (hfault : (s.robot r).fault = none) (hload : (s.stage r).load = none)
  (hjobs : (s.stage r).jobs = [j]) (hwindow : s.windowPrograms r = [(j.program, 0)])
  (hready : (s.prog j.program).state = .ready j.stamp d)
include hrun hplace honline henabled hfault hload hjobs hwindow hready

/-- An activation attempt of a head job that may be loaded. -/
theorem activate_of_head :
    s.activate r = match s.chooseSlot r with
      | some i => s.beginLoad r i d.count j
      | none => s.blockHead r := by
  have hmay : s.mayActivate r = true := by
    simp [mayActivate, hrun, Option.isSome_iff_ne_none.mpr hplace, honline, henabled, hfault, hload]
  have hloadable : s.loadable r j = some d.count := by
    have hlisted : (s.windowPrograms r).any (fun w => w.1 == j.program) = true := by
      rw [hwindow]
      simp
    rw [loadable, if_pos hlisted]
    exact loadingOf_of_ready hready rfl
  cases hslot : s.chooseSlot r with
  | some i => simp only [activate, hmay, if_true, hjobs, hloadable, hslot]
  | none => simp only [activate, hmay, if_true, hjobs, hloadable, hslot]

end

/-- The robot's staging with a load of its head job begun on a slot, and the transaction of its LOAD OPEN. -/
def begunStaging (slot count : Nat) (j : Job) (tx : Tx) (jobs : List Job) (g : Staging) : Staging :=
  ⟨jobs, some ⟨g.seq + 1, slot, j.program, j.stamp, count, .opening, 0⟩, g.channel ++ [tx], false, g.seq + 1⟩

/-- A job list with its head job made active. -/
def headActive : List Job → List Job
  | k :: rest => { k with active := true } :: rest
  | [] => []

/-- The load of a robot's one job on a slot (R134). -/
theorem beginLoad_eq (hjobs : (s.stage r).jobs = [j]) (count : Nat) :
    s.beginLoad r slot count j =
      { s with
        staging := tset s.staging r (begunStaging slot count j
          ⟨.load, .loadOpen ((s.stage r).seq + 1) slot j.program j.stamp count, s.line.replyTimeout, s.line.retryLimit⟩
          [{ j with active := true }] (s.stage r))
        robots := tset s.robots r { s.robot r with
          slots := tset (s.robot r).slots slot ⟨.loading j.program j.stamp, (s.robot r).uses⟩ }
        library := { s.library with
          progs := tset s.library.progs j.program { s.prog j.program with refs := (s.prog j.program).refs + 1 } }
        due := s.due ++ [.recompute r, .selection r] } := by
  have hstage : headActive (s.stage r).jobs = [{ j with active := true }] := by rw [hjobs, headActive]
  have hbegin : s.beginLoad r slot count j = (((s.modStage r fun g => begunStaging slot count j
      (s.newTx .load (.loadOpen ((s.stage r).seq + 1) slot j.program j.stamp count)) (headActive g.jobs) g).modRobot r
        fun b => b.modSlot slot fun _ => ⟨.loading j.program j.stamp, b.uses⟩).addRef j.program).oweSlot r := by
    unfold beginLoad
    rfl
  rw [hbegin, newTx_eq (by simp), modStage, hstage]
  rfl

theorem blockHead_eq : s.blockHead r =
    { s with
      staging := tset s.staging r { s.stage r with blocked := true }
      attention := (if (s.stage r).blocked then s else s.raise .stagingBlocked r).attention } := by
  unfold blockHead
  split
  · next h =>
    have hsame : ({ s.stage r with blocked := true } : Staging) = s.stage r := by rw [← h]
    rw [hsame, stage, tset_tget_self]
  · rfl

/-! ### The recomputation -/

section
variable (hr : r < 32) (hrun : s.mode = .run) (hplace : s.place r ≠ none) (honline : (s.robot r).online = true)
  (henabled : (s.robot r).enabled = true) (hfault : (s.robot r).fault = none) (hload : (s.stage r).load = none)
  (hjobs : (s.stage r).jobs = [] ∧ attempts = 0 ∨ ∃ pos, (s.stage r).jobs = [⟨n, stamp, pos, attempts, false⟩])
  (hwindow : s.windowPrograms r = [(n, 0)]) (hstaged : s.stagedSlot r n = none) (hready : (s.prog n).state = .ready stamp d)
include hr hrun hplace honline henabled hfault hload hjobs hwindow hstaged hready

/-- The job of a window's one program, READY and not staged, is put to the slot choice. -/
theorem recompute_of_one : s.recompute r = match s.chooseSlot r with
      | some i => (s.modStage r (rebuilt [⟨n, stamp, 0, attempts, false⟩])).beginLoad r i d.count ⟨n, stamp, 0, attempts, false⟩
      | none => (s.modStage r (rebuilt [⟨n, stamp, 0, attempts, false⟩])).blockHead r := by
  have hrebuilt : s.rebuiltJobs r = [⟨n, stamp, 0, attempts, false⟩] := by
    rw [rebuiltJobs, hwindow]
    exact List.filterMap_cons_some (jobFor_of_ready hready hstaged hjobs)
  have hstage : (s.modStage r (rebuilt [⟨n, stamp, 0, attempts, false⟩])).stage r =
      rebuilt [⟨n, stamp, 0, attempts, false⟩] (s.stage r) := tget_tset_self _ _ _ _ hr
  rw [recompute_of_kept (cancelsActive_of_none hload), hrebuilt, activate_of_head
    (s := s.modStage r (rebuilt [⟨n, stamp, 0, attempts, false⟩])) (j := ⟨n, stamp, 0, attempts, false⟩) hrun hplace honline henabled
    hfault (by rw [hstage]; exact hload) (by rw [hstage]; rfl) hwindow hready, chooseSlot_modStage]

theorem recompute_begins (hslot : s.chooseSlot r = some slot) :
    s.recompute r =
      { s with
        staging := tset s.staging r
          ⟨[⟨n, stamp, 0, attempts, true⟩], some ⟨(s.stage r).seq + 1, slot, n, stamp, d.count, .opening, 0⟩,
            (s.stage r).channel ++ [⟨.load, .loadOpen ((s.stage r).seq + 1) slot n stamp d.count, s.line.replyTimeout,
              s.line.retryLimit⟩], false, (s.stage r).seq + 1⟩
        robots := tset s.robots r { s.robot r with slots := tset (s.robot r).slots slot ⟨.loading n stamp, (s.robot r).uses⟩ }
        library := { s.library with progs := tset s.library.progs n { s.prog n with refs := (s.prog n).refs + 1 } }
        due := s.due ++ [.recompute r, .selection r] } := by
  have hstage : (s.modStage r (rebuilt [⟨n, stamp, 0, attempts, false⟩])).stage r =
      rebuilt [⟨n, stamp, 0, attempts, false⟩] (s.stage r) := tget_tset_self _ _ _ _ hr
  rw [recompute_of_one hr hrun hplace honline henabled hfault hload hjobs hwindow hstaged hready, hslot]
  dsimp only
  rw [beginLoad_eq (by rw [hstage]; rfl), hstage]
  exact (eq_iff_fields _ _).mpr ⟨rfl, rfl, rfl, rfl, rfl, rfl, rfl, rfl, rfl, rfl, rfl, rfl, rfl, rfl, rfl, rfl, rfl,
    tset_tset _ _ _ _, rfl, rfl, rfl, rfl⟩

theorem recompute_blocks (hslot : s.chooseSlot r = none) :
    s.recompute r =
      { s with
        staging := tset s.staging r { s.stage r with jobs := [⟨n, stamp, 0, attempts, false⟩], blocked := true }
        attention := (if (s.stage r).blocked then s else s.raise .stagingBlocked r).attention } := by
  have hstage : (s.modStage r (rebuilt [⟨n, stamp, 0, attempts, false⟩])).stage r =
      rebuilt [⟨n, stamp, 0, attempts, false⟩] (s.stage r) := tget_tset_self _ _ _ _ hr
  have hblocked : (rebuilt [⟨n, stamp, 0, attempts, false⟩] (s.stage r)).blocked = (s.stage r).blocked := Bool.and_true _
  rw [recompute_of_one hr hrun hplace honline henabled hfault hload hjobs hwindow hstaged hready, hslot]
  dsimp only
  rw [blockHead_eq, hstage, hblocked]
  refine (eq_iff_fields _ _).mpr ⟨rfl, rfl, rfl, rfl, rfl, rfl, rfl, rfl, rfl, rfl, rfl, rfl, rfl, rfl, rfl, rfl, rfl,
    tset_tset _ _ _ _, rfl, rfl, rfl, ?_⟩
  change (if (s.stage r).blocked = true then _ else _ : State).attention = _
  split <;> rfl

end

theorem recompute_cancels {l : Load} (hr : r < 32) (hload : (s.stage r).load = some l)
    (hleft : ∀ n pos, (n, pos) ∈ s.windowPrograms r → s.stagedSlot r n ≠ none ∧
      ∀ j ∈ (s.stage r).jobs, j.program = n → j.active = false) :
    s.recompute r =
      { s with
        library := { s.library with progs := tset s.library.progs l.program (unreferenced (s.prog l.program)) }
        robots := tset s.robots r { s.robot r with slots := tset (s.robot r).slots l.slot ⟨.empty, 0⟩ }
        staging := tset s.staging r ⟨[], none, s.cancelledChannel l (s.stage r), false, (s.stage r).seq⟩
        due := s.due ++ [.recompute r, .selection r] } := by
  have hrebuilt : s.rebuiltJobs r = [] := by
    refine List.filterMap_eq_nil_iff.mpr fun ⟨n, pos⟩ hw => ?_
    obtain ⟨hstaged, hidle⟩ := hleft n pos hw
    exact jobFor_of_staged hstaged hidle
  have hcancels : s.cancelsActive r = true := by
    rw [cancelsActive, hload, hrebuilt]
    rfl
  rw [recompute_of_cancelled hcancels, hrebuilt, activate_of_rebuilt_nil hr, cancelLoad_of_some hr hload]
  refine (eq_iff_fields _ _).mpr ⟨rfl, rfl, rfl, rfl, rfl, rfl, rfl, rfl, rfl, rfl, rfl, rfl, rfl, rfl, rfl, rfl, rfl, ?_, rfl, rfl,
    rfl, rfl⟩
  refine (tset_tset _ _ _ _).trans (congrArg (tset s.staging r) ?_)
  refine (congrArg (rebuilt []) (tget_tset_self Staging.reset s.staging r
    { unloaded (s.stage r) with channel := s.cancelledChannel l (s.stage r) } hr)).trans ?_
  exact congrArg (fun b => (⟨[], none, s.cancelledChannel l (s.stage r), b, (s.stage r).seq⟩ : Staging)) (Bool.and_false _)

theorem recompute_of_disabled (hr : r < 32) (hdisabled : (s.robot r).enabled = false) (hload : (s.stage r).load = none) :
    s.recompute r = { s with staging := tset s.staging r { s.stage r with jobs := [], blocked := false } } := by
  have hrebuilt : s.rebuiltJobs r = [] := by rw [rebuiltJobs, windowPrograms_of_none (.inr hdisabled), List.filterMap_nil]
  rw [recompute_of_kept (cancelsActive_of_none hload), hrebuilt, activate_of_rebuilt_nil hr]
  exact congrArg (fun b => ({ s with staging := tset s.staging r { s.stage r with jobs := [], blocked := b } } : State))
    (Bool.and_false _)

end State

section
variable {s : State} {r : Nat}

theorem exec_stagingRecomputation (hreset : s.resetInput = false) :
    exec (.stagingRecomputation r) s = .next ((s.discharge (.recompute r)).recompute r) :=
  exec_event_of_working rfl rfl hreset

end

/-- Settles O39: the window lists the first places of its programs, and the recomputation rebuilds the job list and then begins,
blocks or cancels. -/
theorem recomputationBeginsALoad : Obligations.RecomputationBeginsALoad := by
  refine ⟨fun s r p waiting programs hplace henabled hwaiting hprograms => ?_, fun s r h => State.windowPrograms_of_none h,
    fun s r hreset hr => ⟨fun n attempts stamp d hn hrun hplace honline henabled hfault hload hjobs hwindow hstaged hready =>
      ⟨fun slot hslot => ?_, fun hslot => ?_⟩, fun l hload hleft => ?_, fun hdisabled hload => ?_⟩⟩
  · have hlist : programs = s.windowList r p := by
      rw [hprograms, hwaiting, ← State.waitingBody_toList]
      rfl
    obtain ⟨hmem, hsorted⟩ := firstPlaces_spec (s.windowList r p)
    rw [State.windowPrograms_eq hplace henabled, hlist]
    exact ⟨fun n pos => (hmem n pos).trans mem_and_idxOf_eq_iff, hsorted⟩
  · have hexec := exec_stagingRecomputation (r := r) hreset
    rw [State.recompute_begins (s := s.discharge (.recompute r)) hr hrun hplace honline henabled hfault hload hjobs hwindow hstaged
      hready ((State.chooseSlot_discharge _).trans hslot)] at hexec
    exact ⟨_, hexec, tget_tset_self _ _ _ _ hr, fun q hq => tget_tset_ne _ _ _ _ _ hq, tget_tset_self _ _ _ _ hr,
      fun q hq => tget_tset_ne _ _ _ _ _ hq, tget_tset_self _ _ _ _ hn, fun m hm => tget_tset_ne _ _ _ _ _ hm, rfl⟩
  · have hexec := exec_stagingRecomputation (r := r) hreset
    rw [State.recompute_blocks (s := s.discharge (.recompute r)) hr hrun hplace honline henabled hfault hload hjobs hwindow hstaged
      hready ((State.chooseSlot_discharge _).trans hslot)] at hexec
    refine ⟨_, hexec, tget_tset_self _ _ _ _ hr, fun q hq => tget_tset_ne _ _ _ _ _ hq, (State.eq_iff_fields _ _).mpr
      ⟨rfl, rfl, rfl, rfl, rfl, rfl, rfl, rfl, rfl, rfl, rfl, rfl, rfl, rfl, rfl, rfl, rfl, rfl, rfl, rfl, rfl, ?_⟩⟩
    change (if (s.stage r).blocked = true then _ else _ : State).attention = _
    split <;> rfl
  · have hexec := exec_stagingRecomputation (r := r) hreset
    rw [State.recompute_cancels (s := s.discharge (.recompute r)) hr hload hleft] at hexec
    refine ⟨_, hexec, (tget_tset_self _ _ _ _ hr).trans ?_, fun q hq => tget_tset_ne _ _ _ _ _ hq, tget_tset_self _ _ _ _ hr,
      fun q hq => tget_tset_ne _ _ _ _ _ hq, fun m => ?_, rfl⟩
    · rw [State.cancelledChannel, State.newTx_eq (by simp)]
      rfl
    · refine (State.prog_released (some l) s.library.progs m).trans ?_
      simp only [Option.map_some, Option.some.injEq, eq_comm (a := l.program)]
      rfl
  · have hexec := exec_stagingRecomputation (r := r) hreset
    rw [State.recompute_of_disabled (s := s.discharge (.recompute r)) hr hdisabled hload] at hexec
    exact ⟨_, hexec, tget_tset_self _ _ _ _ hr, fun q hq => tget_tset_ne _ _ _ _ _ hq, rfl⟩

end Machine
end Sys2Proof
end

section
/-!
SUPPORT. The records of a LAYOUT WRITE (R184, 12.2), and its block.
-/
namespace Sys2Proof
namespace Machine

/-- A record's numbers lie in the ranges of 12.2, and its kind and index exist (R184). -/
def RecordInRange : RawRecord → Prop
  | .line r => (1 ≤ r.stations ∧ r.stations ≤ 16) ∧ r.m ≤ 8 ∧ r.n ≤ 8 ∧
      (r.ringLength = 64 ∨ r.ringLength = 128 ∨ r.ringLength = 256) ∧ r.lowMark ≤ 255 ∧ (1 ≤ r.lead ∧ r.lead ≤ 8) ∧
      r.policy ≠ none ∧ (1 ≤ r.depth ∧ r.depth ≤ 3) ∧ (1 ≤ r.checkAttempts ∧ r.checkAttempts ≤ 8) ∧ r.rounding ≠ none ∧
      (5 ≤ r.replyTimeout ∧ r.replyTimeout ≤ 250) ∧ r.retryLimit ≤ 3 ∧ (10 ≤ r.pollInterval ∧ r.pollInterval ≤ 1000) ∧
      100 ≤ r.probeInterval ∧ r.probeInterval ≤ 5000
  | .station i r => i < 16 ∧ r.zone ≤ 3 ∧ r.source ≠ none ∧ (10 ≤ r.budget ∧ r.budget ≤ 60000) ∧ r.filter ≤ 250 ∧
      r.sense ≠ none ∧ 50 ≤ r.confirm ∧ r.confirm ≤ 5000
  | .robot i .absent => i < 32
  | .robot i (.present r) => i < 32 ∧ r.bus ≤ 3 ∧ r.drop ≤ 7 ∧ r.station ≤ 15 ∧ 2 ≤ r.slots ∧ r.slots ≤ 8
  | .robot _ .unlisted => False
  | .bus i r => i < 4 ∧ r.pacing ≠ none ∧ 1 ≤ r.interval ∧ r.interval ≤ 250
  | .port i threshold => i < 4 ∧ 1 ≤ threshold ∧ threshold ≤ 254
  | .other _ _ => False

/-- A field outside its two bounds is no field within them. -/
theorem not_outside_iff {a b x : Nat} : ¬ (x < a ∨ b < x) ↔ a ≤ x ∧ x ≤ b := by omega

theorem ringLength_listed_iff {n : Nat} : ¬ (n ≠ 64 ∧ n ≠ 128 ∧ n ≠ 256) ↔ n = 64 ∨ n = 128 ∨ n = 256 := by omega

theorem not_isNone_iff {α : Type} {o : Option α} : ¬ (o.isNone = true) ↔ o ≠ none := by
  rw [Option.isNone_iff_eq_none]

theorem firstNamed_eq_none_iff {p : Prop} [Decidable p] {n : Nat × Nat × Nat} {rest : Option (Nat × Nat × Nat)} :
    (if p then some n else rest) = none ↔ ¬ p ∧ rest = none := by
  split <;> simp [*]

theorem firstNamed_names {p : Prop} [Decidable p] {k i v : Nat} {fault : Option Nat} {kind index field : Nat}
    (h : (if p then some (k, i, v) else fault.map fun f => (k, i, f)) = some (kind, index, field)) : kind = k ∧ index = i := by
  split at h
  · cases h
    exact ⟨rfl, rfl⟩
  · obtain ⟨f, -, hf⟩ := Option.map_eq_some_iff.mp h
    cases hf
    exact ⟨rfl, rfl⟩

/-- The checks of a record find nothing exactly where it is in range. -/
theorem recordFault_eq_none_iff (x : RawRecord) : recordFault x = none ↔ RecordInRange x := by
  cases x with
  | line r =>
    simp only [recordFault, Option.map_eq_none_iff, lineFault, firstFault_eq_none_iff, not_outside_iff, ringLength_listed_iff,
      not_isNone_iff, not_lt, RecordInRange, and_true]
  | station i r =>
    simp only [recordFault, firstNamed_eq_none_iff, Option.map_eq_none_iff, stationFault, firstFault_eq_none_iff, not_outside_iff,
      not_isNone_iff, not_lt, ← Nat.lt_succ_iff (n := 15), RecordInRange, and_true]
  | robot i r =>
    cases r with
    | absent => simp only [recordFault, firstNamed_eq_none_iff, robotFault, Option.map_none, not_lt, ← Nat.lt_succ_iff (n := 31), RecordInRange,
        and_true]
    | unlisted => simp only [recordFault, firstNamed_eq_none_iff, robotFault, Option.map_some, reduceCtorEq, RecordInRange, and_false]
    | present r =>
      simp only [recordFault, firstNamed_eq_none_iff, Option.map_eq_none_iff, robotFault, firstFault_eq_none_iff, not_outside_iff,
        not_lt, ← Nat.lt_succ_iff (n := 31), RecordInRange, and_true]
  | bus i r =>
    simp only [recordFault, firstNamed_eq_none_iff, Option.map_eq_none_iff, busFault, firstFault_eq_none_iff, not_outside_iff,
      not_isNone_iff, not_lt, ← Nat.lt_succ_iff (n := 3), RecordInRange, and_true]
  | port i t =>
    simp only [recordFault, firstNamed_eq_none_iff, not_outside_iff, not_lt, ← Nat.lt_succ_iff (n := 3), RecordInRange, and_true]
  | other k i => simp only [recordFault, reduceCtorEq, RecordInRange]

/-- The kind and the index a reply names are the faulty record's, and field 0 is a PORT record's only one. -/
theorem recordFault_names {x : RawRecord} {kind index field : Nat} (hx : recordFault x = some (kind, index, field)) :
    (∀ r, x = .line r → kind = 0 ∧ index = 0) ∧ (∀ i r, x = .station i r → kind = 1 ∧ index = i) ∧
      (∀ i r, x = .robot i r → kind = 2 ∧ index = i) ∧ (∀ i r, x = .bus i r → kind = 3 ∧ index = i) ∧
      (∀ i n, x = .port i n → kind = 4 ∧ index = i ∧ (i < 4 → field = 0)) ∧ ∀ k i, x = .other k i → kind = k ∧ index = i := by
  refine ⟨?_, ?_, ?_, ?_, ?_, ?_⟩
  · rintro r rfl
    obtain ⟨f, -, hf⟩ := Option.map_eq_some_iff.mp hx
    cases hf
    exact ⟨rfl, rfl⟩
  · rintro i r rfl
    exact firstNamed_names hx
  · rintro i r rfl
    exact firstNamed_names hx
  · rintro i r rfl
    exact firstNamed_names hx
  · rintro i n rfl
    simp only [recordFault] at hx
    split at hx
    · next hi =>
      cases hx
      exact ⟨rfl, rfl, fun h => absurd hi (by omega)⟩
    · split at hx
      · cases hx
        exact ⟨rfl, rfl, fun _ => rfl⟩
      · cases hx
  · rintro k i rfl
    cases hx
    exact ⟨rfl, rfl⟩

section
variable {s : State} {h : Hdr} {records : List RawRecord}

theorem layoutWriteBlock_of_run (hrun : s.mode = .run) : layoutWriteBlock h records s = s.refuse .mode := if_pos hrun

variable (hsetup : s.mode = .setup)
include hsetup

theorem layoutWriteBlock_of_fault {pre post : List RawRecord} {bad : RawRecord} {kind index field : Nat}
    (hpre : ∀ x ∈ pre, RecordInRange x) (hbad : recordFault bad = some (kind, index, field)) :
    layoutWriteBlock h (pre ++ bad :: post) s = s.refuse .range (.layoutFault kind index field) := by
  have hfault : (pre ++ bad :: post).findSome? recordFault = some (kind, index, field) := by
    rw [List.findSome?_append, List.findSome?_eq_none_iff.mpr fun x hx => (recordFault_eq_none_iff x).mpr (hpre x hx), Option.none_or,
      List.findSome?_cons_of_isSome (by rw [hbad]; rfl), hbad]
  simp only [layoutWriteBlock, hsetup, reduceCtorEq, if_false, hfault]

theorem layoutWriteBlock_of_inRange (hlen : h.lengthOk = true) (hrecords : ∀ x ∈ records, RecordInRange x) (hne : records ≠ []) :
    layoutWriteBlock h records s = (s.applyLayout (records.foldl Layout.write s.layout)).done (.written records.length) := by
  have hfault : records.findSome? recordFault = none :=
    List.findSome?_eq_none_iff.mpr fun x hx => (recordFault_eq_none_iff x).mpr (hrecords x hx)
  simp only [layoutWriteBlock, hsetup, reduceCtorEq, if_false, hfault, hlen, Bool.true_eq_false, hne, or_self]

end

end Machine
end Sys2Proof
end

section
/-!
SUPPORT. The robots under a change of layout (R125, R169), and the thresholds (R174).
-/
namespace Sys2Proof
namespace Machine

/-- A filter of an initial range that keeps one number. -/
theorem filter_range_eq_singleton {p : Nat → Bool} {n q : Nat} (hq : q < n) (h : ∀ r, r < n → (p r = true ↔ r = q)) :
    (List.range n).filter p = [q] := by
  have hcongr : (List.range n).filter p = (List.range n).filter (· == q) :=
    List.filter_congr fun r hr => by
      rw [Bool.eq_iff_iff, h r (List.mem_range.mp hr), beq_iff_eq]
  rw [hcongr, List.filter_beq, List.count_eq_one_of_mem List.nodup_range (List.mem_range.mpr hq)]
  rfl

theorem filter_range_eq_nil {p : Nat → Bool} {n : Nat} (h : ∀ r, p r = true → False) : (List.range n).filter p = [] :=
  List.filter_eq_nil_iff.mpr fun r _ hr => h r hr

theorem sameAddress_eq_true_iff (p q : RobotRec) : p.sameAddress q = true ↔ p.bus = q.bus ∧ p.drop = q.drop := by
  simp [RobotRec.sameAddress]

namespace Layout

variable {l new : Layout} {r : Nat} {x : RobotRec}

theorem shared_eq_true_iff : l.shared r = true ↔
    ∃ p q p', l.robotRec r = some p ∧ q < 32 ∧ q ≠ r ∧ l.robotRec q = some p' ∧ p.bus = p'.bus ∧ p.drop = p'.drop := by
  unfold shared
  cases l.robotRec r with
  | none => simp
  | some p =>
    simp only [List.any_eq_true, List.mem_range, Bool.and_eq_true, bne_iff_ne, Option.some.injEq]
    constructor
    · rintro ⟨q, hq, hne, hsame⟩
      cases hrec : l.robotRec q with
      | none => simp [hrec] at hsame
      | some p' =>
        simp only [hrec, sameAddress_eq_true_iff] at hsame
        exact ⟨p, q, p', rfl, hq, hne, hrec, hsame⟩
    · rintro ⟨_, q, p', rfl, hq, hne, hrec, hsame⟩
      refine ⟨q, hq, hne, ?_⟩
      simp only [hrec, sameAddress_eq_true_iff]
      exact hsame

/-- No two robots of the layout share an address (R169). -/
def Distinct (l : Layout) : Prop :=
  ∀ r q p p', l.robotRec r = some p → l.robotRec q = some p' → r ≠ q → p.bus ≠ p'.bus ∨ p.drop ≠ p'.drop

theorem Distinct.shared_eq_false (hl : l.Distinct) (r : Nat) : l.shared r = false := by
  refine Bool.eq_false_iff.mpr fun h => ?_
  obtain ⟨p, q, p', hr, -, hne, hq, hbus, hdrop⟩ := shared_eq_true_iff.mp h
  exact (hl r q p p' hr hq (Ne.symm hne)).elim (· hbus) (· hdrop)

/-- A change that leaves the ROBOT records loses and places none. -/
theorem Distinct.losesRobot_eq_false (hl : l.Distinct) (hrobots : new.robots = l.robots) (r : Nat) : l.losesRobot new r = false := by
  have hrec (q : Nat) : new.robotRec q = l.robotRec q := by rw [robotRec, robotRec, hrobots]
  have hnew : new.Distinct := fun r q p p' hr hq => hl r q p p' (hrec r ▸ hr) (hrec q ▸ hq)
  unfold losesRobot
  rw [hrec]
  cases l.robotRec r with
  | none => rfl
  | some p =>
    have hsame : p.sameAddress p = true := (sameAddress_eq_true_iff p p).mpr ⟨rfl, rfl⟩
    simp [hsame, hnew.shared_eq_false]

/-- The layout with robot `r`'s record replaced. -/
def withRobot (l : Layout) (r : Nat) (x : RobotRec) : Layout := { l with robots := tset l.robots r x }

theorem robotRec_withRobot_self (hr : r < 32) : (l.withRobot r x).robotRec r = if x.present then some x else none := by
  have hread : tget RobotRec.default (l.withRobot r x).robots r = x := tget_tset_self _ _ _ _ hr
  rw [robotRec, hread]

theorem robotRec_withRobot_ne {q : Nat} (hq : q ≠ r) : (l.withRobot r x).robotRec q = l.robotRec q := by
  have hread : tget RobotRec.default (l.withRobot r x).robots q = tget RobotRec.default l.robots q := tget_tset_ne _ _ _ _ _ hq
  rw [robotRec, robotRec, hread]

theorem placesRobot_withRobot (hr : r < 32) (q : Nat) :
    l.placesRobot (l.withRobot r x) q = true ↔ q = r ∧ l.robotRec r = none ∧ x.present = true := by
  unfold placesRobot
  by_cases hq : q = r
  · subst hq
    rw [robotRec_withRobot_self hr]
    cases x.present <;> simp
  · rw [robotRec_withRobot_ne hq]
    cases l.robotRec q <;> simp [hq]

/-- Under a record for robot `r` a robot that was in the layout is lost: `r` itself where it is removed, moved, resized or put at
the address of another, and another whose address `r` is given (R125). -/
theorem losesRobot_withRobot (hl : l.Distinct) (hr : r < 32) (q : Nat) :
    l.losesRobot (l.withRobot r x) q = true ↔ ∃ p, l.robotRec q = some p ∧
      (q = r ∧ (x.present = false ∨ (p.bus ≠ x.bus ∨ p.drop ≠ x.drop ∨ p.slots ≠ x.slots) ∨
          ∃ j y, j < 32 ∧ j ≠ r ∧ l.robotRec j = some y ∧ x.bus = y.bus ∧ x.drop = y.drop) ∨
        q ≠ r ∧ x.present = true ∧ p.bus = x.bus ∧ p.drop = x.drop) := by
  unfold losesRobot
  cases hold : l.robotRec q with
  | none => simp
  | some p =>
    by_cases hq : q = r
    · subst hq
      rw [robotRec_withRobot_self hr]
      cases hpresent : x.present with
      | false => simp
      | true =>
        have hshared : (l.withRobot q x).shared q = true ↔
            ∃ j y, j < 32 ∧ j ≠ q ∧ l.robotRec j = some y ∧ x.bus = y.bus ∧ x.drop = y.drop := by
          rw [shared_eq_true_iff]
          constructor
          · rintro ⟨p', j, y, hp', hj, hne, hy, hsame⟩
            rw [robotRec_withRobot_self hr, hpresent, if_pos rfl, Option.some.injEq] at hp'
            rw [robotRec_withRobot_ne hne] at hy
            subst hp'
            exact ⟨j, y, hj, hne, hy, hsame⟩
          · rintro ⟨j, y, hj, hne, hy, hsame⟩
            exact ⟨x, j, y, by rw [robotRec_withRobot_self hr, hpresent, if_pos rfl], hj, hne,
              by rw [robotRec_withRobot_ne hne]; exact hy, hsame⟩
        have haddress : (!p.sameAddress x || p.slots != x.slots) = true ↔ p.bus ≠ x.bus ∨ p.drop ≠ x.drop ∨ p.slots ≠ x.slots := by
          rw [Bool.or_eq_true, Bool.not_eq_true', ← Bool.not_eq_true, sameAddress_eq_true_iff, bne_iff_ne, not_and_or, or_assoc]
        simp only [if_true]
        rw [Bool.or_eq_true, haddress, hshared]
        simp
    · rw [robotRec_withRobot_ne hq, hold]
      have hself : p.sameAddress p = true := (sameAddress_eq_true_iff p p).mpr ⟨rfl, rfl⟩
      simp only [hself, Bool.not_true, bne_self_eq_false, Bool.or_self, Bool.false_or, Option.some.injEq, exists_eq_left', ne_eq, hq,
        false_and, false_or, not_false_eq_true, true_and]
      rw [shared_eq_true_iff]
      constructor
      · rintro ⟨p', j, y, hp', hj, hne, hy, hbus, hdrop⟩
        rw [robotRec_withRobot_ne hq, hold, Option.some.injEq] at hp'
        subst hp'
        by_cases hjr : j = r
        · subst hjr
          rw [robotRec_withRobot_self hr] at hy
          split at hy
          · next hpresent =>
            cases hy
            exact ⟨hpresent, hbus, hdrop⟩
          · cases hy
        · rw [robotRec_withRobot_ne hjr] at hy
          exact ((hl q j p y hold hy (Ne.symm hne)).elim (· hbus) (· hdrop)).elim
      · rintro ⟨hpresent, hsame⟩
        exact ⟨p, r, x, by rw [robotRec_withRobot_ne hq]; exact hold, hr, Ne.symm hq,
          by rw [robotRec_withRobot_self hr, hpresent, if_pos rfl], hsame⟩

end Layout

namespace State

variable {s : State} {new : Layout} {r p : Nat}

/-! ### The robots (R125) -/

theorem changeRobots_eq (hl : s.layout.Distinct) {lost fresh : List Nat}
    (hlost : (List.range 32).filter (fun r => s.layout.losesRobot new r) = lost)
    (hfresh : (List.range 32).filter (fun r => s.layout.placesRobot new r) = fresh) :
    s.changeRobots new =
      fresh.foldl (fun t r => t.placeRobot r) { lost.foldl (fun t r => t.goOffline r false) s with layout := new } := by
  have hparted : (List.range 32).filter (fun r => s.layout.shared r && !new.shared r) = [] :=
    filter_range_eq_nil fun r h => by simp [hl.shared_eq_false] at h
  simp only [changeRobots, hlost, hfresh, hparted, List.foldl_nil]

theorem changeRobots_of_robots (hl : s.layout.Distinct) (hrobots : new.robots = s.layout.robots) :
    s.changeRobots new = { s with layout := new } := by
  have hrec (q : Nat) : new.robotRec q = s.layout.robotRec q := by rw [Layout.robotRec, Layout.robotRec, hrobots]
  rw [changeRobots_eq hl (lost := []) (fresh := [])
    (filter_range_eq_nil fun r h => by rw [hl.losesRobot_eq_false hrobots] at h; cases h)
    (filter_range_eq_nil fun r h => by
      rw [Layout.placesRobot, hrec] at h
      cases hrec' : s.layout.robotRec r <;> simp [hrec'] at h)]
  rfl

/-- An idle robot without a load goes OFFLINE under a change of layout (R110, R125). -/
theorem goOffline_of_idle (hr : r < 32) (hmotion : (s.robot r).motion = .idle) (hload : (s.stage r).load = none) :
    s.goOffline r false = { s with
      pend := tset s.pend r ⟨none, none, none, none⟩
      buses := (s.endOnBuses r).buses
      staging := tset s.staging r { s.stage r with channel := [], blocked := false }
      robots := tset s.robots r (offlineRobot (s.robot r))
      due := s.due ++ [.recompute r, .selection r] } := by
  have hrobot : (s.offlined r).robot r = offlineRobot (s.robot r) := tget_tset_self _ _ _ _ hr
  have hidle : (s.offlined r).loseMotion r = s.offlined r := by
    have hmotion' : ((s.offlined r).robot r).motion = .idle := by
      rw [hrobot]
      exact hmotion
    simp only [loseMotion, hmotion']
  have hstage : offlineStage (s.stage r) = { s.stage r with channel := [], blocked := false } := by
    rw [offlineStage, if_pos hload, ← hload]
  rw [goOffline_eq hr, hidle, offlined, hload, hstage]
  rfl

/-! ### The thresholds (R174) -/

theorem applyThreshold_of_le (h : (s.port p).errors ≤ s.threshold p) : s.applyThreshold p = s := by
  have hport : (s.port p).newThreshold (s.threshold p) = s.port p := if_neg (Nat.not_lt.mpr h)
  have hsame : s.modPort p (Port.newThreshold (s.threshold p)) = s := by
    rw [modPort, hport, port, tset_tget_self]
  unfold applyThreshold
  dsimp only
  rw [hsame]
  exact if_neg fun hlt => Nat.not_lt.mpr h hlt.1

theorem applyThresholds_of_le (h : ∀ p, p < 4 → (s.port p).errors ≤ s.threshold p) :
    (List.range 4).foldl (fun t p => t.applyThreshold p) s = s := by
  have hkeep : ∀ l : List Nat, (∀ p ∈ l, p < 4) → l.foldl (fun t p => t.applyThreshold p) s = s := by
    intro l
    induction l with
    | nil => exact fun _ => rfl
    | cons p l ih =>
      intro hl
      rw [List.foldl_cons, applyThreshold_of_le (h p (hl p List.mem_cons_self))]
      exact ih fun q hq => hl q (List.mem_cons_of_mem _ hq)
  exact hkeep _ fun p hp => List.mem_range.mp hp

end State
end Machine
end Sys2Proof
end

section
/-!
SUPPORT. The LINE record (R11, R20, R27, R65), and the blocks under a layout.
-/
namespace Sys2Proof
namespace Machine
namespace State

variable {s : State} {i k : Nat} {new : Layout}

/-! ### The style entries cleared (R27) -/

/-- The namings of set `k` by style `i` (R33). -/
def styleNamings (s : State) (k i : Nat) : Nat :=
  (if (s.style i).current = .weld k then 1 else 0) + if (s.style i).pending.map (·.part) = some (.weld k) then 1 else 0

theorem clearStyle_eq : s.clearStyle i =
    { s with styles := tset s.styles i ⟨.unknown, none⟩, sets := (s.clearStyle i).sets } := by
  unfold clearStyle
  cases (s.style i).current.setNo <;> cases (s.style i).pendingSet <;> rfl

theorem dispatchSet_clearStyle : (s.clearStyle i).dispatchSet k =
    { s.dispatchSet k with inUse := (s.dispatchSet k).inUse - s.styleNamings k i } := by
  rw [clearStyle, dispatchSet_dropNaming, dispatchSet_dropNaming, styleNamings]
  simp only [setNo_eq_some_iff, pendingSet_eq_some_iff, Nat.sub_sub]
  rfl

theorem styleNamings_clearStyle {j : Nat} (hj : j ≠ i) : (s.clearStyle i).styleNamings k j = s.styleNamings k j := by
  have hstyle : (s.clearStyle i).style j = s.style j := by
    rw [clearStyle_eq]
    exact tget_tset_ne _ _ _ _ _ hj
  rw [styleNamings, styleNamings, hstyle]

/-- The styles of a list cleared, one after another. -/
def clearStyles (l : List Nat) (s : State) : State := l.foldl (fun t i => t.clearStyle i) s

theorem clearStyles_spec {l : List Nat} (hl : l.Nodup) :
    s.clearStyles l = { s with styles := (s.clearStyles l).styles, sets := (s.clearStyles l).sets } ∧
      (∀ i, i < 256 → (s.clearStyles l).style i = if i ∈ l then ⟨.unknown, none⟩ else s.style i) ∧
      ∀ k, (s.clearStyles l).dispatchSet k = { s.dispatchSet k with
        inUse := (s.dispatchSet k).inUse - (l.map (s.styleNamings k)).sum } := by
  induction l generalizing s with
  | nil => exact ⟨rfl, fun i _ => by rw [if_neg List.not_mem_nil]; rfl, fun k => rfl⟩
  | cons a l ih =>
    obtain ⟨hnot, hnodup⟩ := List.nodup_cons.mp hl
    obtain ⟨hframe, hstyle, hset⟩ := ih (s := s.clearStyle a) hnodup
    have hone := clearStyle_eq (s := s) (i := a)
    refine ⟨?_, fun i hi => (hstyle i hi).trans ?_, fun k => (hset k).trans ?_⟩
    · change (s.clearStyle a).clearStyles l =
        { s with styles := ((s.clearStyle a).clearStyles l).styles, sets := ((s.clearStyle a).clearStyles l).sets }
      generalize (s.clearStyle a).clearStyles l = v at hframe
      exact hframe.trans (by rw [hone])
    · rw [hone]
      by_cases hia : i = a
      · subst hia
        rw [if_neg hnot, if_pos List.mem_cons_self]
        exact tget_tset_self _ _ _ _ hi
      · have hmem : i ∈ a :: l ↔ i ∈ l := by simp [hia]
        simp only [hmem]
        split
        · rfl
        · exact tget_tset_ne _ _ _ _ _ hia
    · have hsame : l.map ((s.clearStyle a).styleNamings k) = l.map (s.styleNamings k) :=
        List.map_congr_left fun j hj => styleNamings_clearStyle fun h => hnot (h ▸ hj)
      rw [dispatchSet_clearStyle, hsame, List.map_cons, List.sum_cons, Nat.sub_sub]

theorem resizeStyles_eq : s.resizeStyles =
    s.clearStyles ((List.range 256).filter fun i => activeStyles s.line.m s.line.n ≤ i) := rfl

/-! ### The ring and the stations -/

theorem restartRing_eq (was : Nat) : s.restartRing was =
    { s with
      ring := { s.ring with read := 0, write := 0, loop := none, stalled := false }
      attention := (if s.line.lowMark < was then s.raise .ringLow 0 else s).attention } := by
  unfold restartRing judgeLow
  by_cases hlow : s.line.lowMark < was
  · rw [if_pos hlow]
    exact if_pos ⟨hlow, Nat.zero_le _⟩
  · rw [if_neg hlow]
    exact if_neg fun h => hlow h.1

/-! ### The layout in force (R184) -/

/-- Every port's E lies within its threshold. -/
def ErrorsWithin (s : State) : Prop := ∀ p, p < 4 → (s.port p).errors ≤ s.threshold p

/-- A layout whose LINE record stays does what it does to the robots, then to the thresholds. -/
theorem applyLayout_of_line (hline : new.line = s.line) :
    s.applyLayout new = (List.range 4).foldl (fun t p => t.applyThreshold p) (s.changeRobots new) := by
  simp only [applyLayout, hline, ne_eq, not_true_eq_false, or_self, if_false]

theorem applyLayout_of_robots (hl : s.layout.Distinct) (hline : new.line = s.line) (hrobots : new.robots = s.layout.robots)
    (herrors : ∀ p, p < 4 → (s.port p).errors ≤ tget 31 new.thresholds p) : s.applyLayout new = { s with layout := new } := by
  rw [applyLayout_of_line hline, changeRobots_of_robots hl hrobots]
  exact applyThresholds_of_le herrors

theorem ErrorsWithin.congr {t : State} (hs : s.ErrorsWithin) (hports : t.ports = s.ports)
    (hthresholds : t.layout.thresholds = s.layout.thresholds) : t.ErrorsWithin := by
  intro p hp
  rw [port, threshold, hports, hthresholds]
  exact hs p hp

/-- The state with a LINE record written and the ring judged by it (R11, R20). -/
def relined (x : LineRec) (s : State) : State :=
  { s with
    layout := { s.layout with line := x }
    ring := if x.ringLength = s.line.ringLength then s.ring
      else { s.ring with read := 0, write := 0, loop := none, stalled := false }
    attention := (if x.ringLength ≠ s.line.ringLength ∧ x.lowMark < s.ringCount then s.raise .ringLow 0 else s).attention }

/-- The style entries beyond the active table cleared where a LINE record changes its size (R27). -/
def restyled (x was : LineRec) (s : State) : State := if x.m ≠ was.m ∨ x.n ≠ was.n then s.resizeStyles else s

/-- The stations in their power-on state where a LINE record changes their number (R65). -/
def restationed (x was : LineRec) (s : State) : State := if x.stations ≠ was.stations then s.resetStations else s

theorem restartRing_relined (x : LineRec) :
    (if x.ringLength ≠ s.line.ringLength then
      State.restartRing s.ringCount ({ s with layout := { s.layout with line := x } } : State)
    else ({ s with layout := { s.layout with line := x } } : State)) = s.relined x := by
  unfold relined
  by_cases hlength : x.ringLength = s.line.ringLength
  · rw [if_neg (not_not.mpr hlength), if_pos hlength, if_neg fun h => h.1 hlength]
  · have hlow : (x.ringLength ≠ s.line.ringLength ∧ x.lowMark < s.ringCount) ↔ x.lowMark < s.ringCount := and_iff_right hlength
    rw [if_pos hlength, if_neg hlength, restartRing_eq]
    simp only [hlow]
    refine (eq_iff_fields _ _).mpr ⟨rfl, rfl, rfl, rfl, rfl, rfl, rfl, rfl, rfl, rfl, rfl, rfl, rfl, rfl, rfl, rfl, rfl, rfl, rfl, rfl,
      rfl, ?_⟩
    change (if x.lowMark < s.ringCount then _ else _ : State).attention = _
    split <;> rfl

theorem ErrorsWithin.relined (herrors : s.ErrorsWithin) (x was : LineRec) :
    (((s.relined x).restyled x was).restationed x was).ErrorsWithin := by
  have hrelined : (s.relined x).ErrorsWithin := herrors.congr rfl rfl
  have hrestyled : ((s.relined x).restyled x was).ErrorsWithin :=
    prop_ite (Q := ErrorsWithin) (hrelined.congr (by simp) (by simp)) hrelined
  exact prop_ite (Q := ErrorsWithin) (hrestyled.congr (by simp) (by simp)) hrestyled

/-- A LINE record alone: the ring, the styles and the stations act on their numbers. -/
theorem applyLayout_of_lineRecord (hl : s.layout.Distinct) (herrors : s.ErrorsWithin) (x : LineRec) :
    s.applyLayout { s.layout with line := x } = ((s.relined x).restyled x s.line).restationed x s.line := by
  have hrobots : s.changeRobots { s.layout with line := x } = { s with layout := { s.layout with line := x } } :=
    changeRobots_of_robots hl rfl
  have happly : s.applyLayout { s.layout with line := x } =
      (List.range 4).foldl (fun t p => t.applyThreshold p) (((s.relined x).restyled x s.line).restationed x s.line) := by
    rw [← restartRing_relined]
    unfold applyLayout
    rw [hrobots]
    rfl
  rw [happly]
  exact applyThresholds_of_le (herrors.relined x s.line)

/-- What the style entries hold once a LINE record is written (R27). -/
theorem restyled_spec (x was : LineRec) (hline : s.line = x) :
    s.restyled x was = { s with styles := (s.restyled x was).styles, sets := (s.restyled x was).sets } ∧
      (∀ i, i < 256 → (s.restyled x was).style i =
        if (x.m ≠ was.m ∨ x.n ≠ was.n) ∧ min 256 (2 ^ (x.m + x.n)) ≤ i then ⟨.unknown, none⟩ else s.style i) ∧
      ∀ k, (s.restyled x was).dispatchSet k = { s.dispatchSet k with
        inUse := (s.dispatchSet k).inUse - if x.m = was.m ∧ x.n = was.n then 0 else
          (((List.range 256).filter fun i => min 256 (2 ^ (x.m + x.n)) ≤ i).map (s.styleNamings k)).sum } := by
  unfold restyled
  by_cases hsize : x.m ≠ was.m ∨ x.n ≠ was.n
  · have hchanged : ¬ (x.m = was.m ∧ x.n = was.n) := fun h => hsize.elim (· h.1) (· h.2)
    obtain ⟨hframe, hstyle, hset⟩ := clearStyles_spec (s := s)
      (l := (List.range 256).filter fun i => activeStyles s.line.m s.line.n ≤ i) (List.nodup_range.filter _)
    rw [if_pos hsize, resizeStyles_eq]
    refine ⟨hframe, fun i hi => (hstyle i hi).trans ?_, fun k => (hset k).trans ?_⟩
    · rw [hline, activeStyles]
      simp only [List.mem_filter, List.mem_range, decide_eq_true_eq, hi, true_and, hsize]
    · rw [if_neg hchanged, hline, activeStyles]
  · have hsame : x.m = was.m ∧ x.n = was.n := by
      rw [not_or, not_not, not_not] at hsize
      exact hsize
    rw [if_neg hsize]
    exact ⟨rfl, fun i _ => by rw [if_neg fun h => hsize h.1], fun k => by rw [if_pos hsame]; rfl⟩

theorem station_restationed (x was : LineRec) {i : Nat} (hi : i < 16) :
    (s.restationed x was).station i = if x.stations = was.stations then s.station i
      else Station.powerOn (s.station i).zone (s.station i).source (s.station i).budget := by
  unfold restationed
  by_cases hsame : x.stations = was.stations
  · rw [if_neg (not_not.mpr hsame), if_pos hsame]
  · rw [if_pos hsame, if_neg hsame]
    exact tget_map _ _ _ _ _ hi

theorem restationed_eq (x was : LineRec) : s.restationed x was = { s with stations := (s.restationed x was).stations } := by
  unfold restationed
  split <;> rfl

end State
end Machine
end Sys2Proof
end

section
/-!
LAYOUT WRITE replaces the records it carries, or writes none (R125, R174, R184): O49.
-/
namespace Sys2Proof
namespace Machine

/-- Of the passes over a list, only the one at `a` changes the state, and once. -/
theorem foldl_eq_of_only {σ : Type} {f : σ → Nat → σ} {s : σ} {l : List Nat} {a : Nat} (hl : l.Nodup) (ha : a ∈ l)
    (hbefore : ∀ b ∈ l, b ≠ a → f s b = s) (hafter : ∀ b ∈ l, b ≠ a → f (f s a) b = f s a) : l.foldl f s = f s a := by
  have hkeep : ∀ (l : List Nat) (t : σ), (∀ b ∈ l, f t b = t) → l.foldl f t = t := by
    intro l t
    induction l with
    | nil => exact fun _ => rfl
    | cons b l ih =>
      intro h
      rw [List.foldl_cons, h b List.mem_cons_self]
      exact ih fun c hc => h c (List.mem_cons_of_mem _ hc)
  obtain ⟨pre, post, rfl⟩ := List.append_of_mem ha
  obtain ⟨-, htail, hapart⟩ := List.nodup_append.mp hl
  rw [List.foldl_append, hkeep pre s fun b hb => hbefore b (List.mem_append_left _ hb) (hapart b hb a List.mem_cons_self), List.foldl_cons]
  exact hkeep post _ fun b hb => hafter b (List.mem_append_right _ (List.mem_cons_of_mem _ hb))
    fun h => (List.nodup_cons.mp htail).1 (h ▸ hb)

namespace State

variable {s : State} {p r q : Nat} {x : RobotRec} {new : Layout}

theorem portsInv.errorsWithin (hs : s.portsInv) : s.ErrorsWithin := fun p hp => (hs p hp).2.1

/-! ### One PORT record (R174) -/

theorem applyThreshold_eq : s.applyThreshold p =
    { s with
      ports := tset s.ports p ((s.port p).newThreshold (s.threshold p))
      attention := (if s.threshold p < (s.port p).errors ∧ (s.port p).degraded = false then s.raise .linkDegraded p
        else s).attention } := by
  unfold applyThreshold
  dsimp only
  split <;> rfl

theorem applyThresholds_of_one (hp : p < 4) (h : ∀ q, q < 4 → q ≠ p → (s.port q).errors ≤ s.threshold q) :
    (List.range 4).foldl (fun t p => t.applyThreshold p) s = s.applyThreshold p := by
  refine foldl_eq_of_only List.nodup_range (List.mem_range.mpr hp) (fun q hq hne => ?_) fun q hq hne => ?_
  · exact applyThreshold_of_le (h q (List.mem_range.mp hq) hne)
  · refine applyThreshold_of_le ?_
    have hport : (s.applyThreshold p).port q = s.port q := by
      rw [applyThreshold_eq]
      exact tget_tset_ne _ _ _ _ _ hne
    have hthreshold : (s.applyThreshold p).threshold q = s.threshold q := by
      rw [applyThreshold_eq]
      rfl
    rw [hport, hthreshold]
    exact h q (List.mem_range.mp hq) hne

/-- A PORT record alone: its port's E is held against the new threshold. -/
theorem applyLayout_of_threshold (hl : s.layout.Distinct) (herrors : s.ErrorsWithin) (hp : p < 4) (threshold : Nat) :
    s.applyLayout { s.layout with thresholds := tset s.layout.thresholds p threshold } =
      { s with
        layout := { s.layout with thresholds := tset s.layout.thresholds p threshold }
        ports := tset s.ports p ((s.port p).newThreshold threshold)
        attention := (if threshold < (s.port p).errors ∧ (s.port p).degraded = false then s.raise .linkDegraded p
          else s).attention } := by
  have hthreshold : tget 31 (tset s.layout.thresholds p threshold) p = threshold := tget_tset_self _ _ _ _ hp
  rw [applyLayout_of_line (by rfl), changeRobots_of_robots hl (by rfl)]
  generalize hu : ({ s with layout := { s.layout with thresholds := tset s.layout.thresholds p threshold } } : State) = u
  have hport (q : Nat) : u.port q = s.port q := by rw [← hu]; rfl
  have hown : u.threshold p = threshold := by rw [← hu]; exact hthreshold
  rw [applyThresholds_of_one hp, applyThreshold_eq, hown, hport]
  · rw [← hu]
    refine (eq_iff_fields _ _).mpr ⟨rfl, rfl, rfl, rfl, rfl, rfl, rfl, rfl, rfl, rfl, rfl, rfl, rfl, rfl, rfl, rfl, rfl, rfl, rfl, rfl,
      rfl, ?_⟩
    change (if threshold < (s.port p).errors ∧ (s.port p).degraded = false then _ else _ : State).attention = _
    split <;> rfl
  · intro q hq hne
    have hother : u.threshold q = s.threshold q := by
      rw [← hu]
      exact tget_tset_ne _ _ _ _ _ hne
    rw [hport, hother]
    exact herrors q hq

/-! ### One ROBOT record (R125) -/

theorem applyLayout_withRobot (herrors : s.ErrorsWithin) :
    s.applyLayout (s.layout.withRobot r x) = s.changeRobots (s.layout.withRobot r x) := by
  rw [applyLayout_of_line (by rfl)]
  exact applyThresholds_of_le (herrors.congr (by simp) (by simp [Layout.withRobot]))

section
variable (hl : s.layout.Distinct) (hr : r < 32)
include hl hr

/-- A record that neither removes, moves, resizes, shares nor places a robot (R125). -/
theorem changeRobots_of_kept
    (h : s.place r = none ∧ x.present = false ∨ ∃ p, s.place r = some p ∧ x = { p with station := x.station }) :
    s.changeRobots (s.layout.withRobot r x) = { s with layout := s.layout.withRobot r x } := by
  have hpresent : ∀ p, s.place r = some p → x = { p with station := x.station } → x.present = true := by
    intro p hp hx
    rw [place, Layout.robotRec] at hp
    split at hp
    · next hread =>
      cases hp
      rw [hx]
      exact hread
    · cases hp
  rw [changeRobots_eq hl (lost := []) (fresh := []) (filter_range_eq_nil fun q hlost => ?_) (filter_range_eq_nil fun q hfresh => ?_)]
  · rfl
  · obtain ⟨p', hp', ⟨rfl, hgone | hmoved | ⟨j, y, -, hne, hy, hbus, hdrop⟩⟩ | ⟨hne, hthere, hbus, hdrop⟩⟩ :=
      (Layout.losesRobot_withRobot hl hr q).mp hlost
    all_goals obtain ⟨hnone, habsent⟩ | ⟨p, hp, hx⟩ := h
    · cases hnone.symm.trans hp'
    · rw [hpresent p hp hx] at hgone
      cases hgone
    · cases hnone.symm.trans hp'
    · cases hp.symm.trans hp'
      rw [hx] at hmoved
      simp at hmoved
    · cases hnone.symm.trans hp'
    · cases hp.symm.trans hp'
      rw [hx] at hbus hdrop
      exact (hl _ j _ y hp' hy (Ne.symm hne)).elim (· hbus) (· hdrop)
    · rw [habsent] at hthere
      cases hthere
    · rw [hx] at hbus hdrop
      exact (hl q r p' p hp' hp hne).elim (· hbus) (· hdrop)
  · obtain ⟨rfl, hnone, hthere⟩ := (Layout.placesRobot_withRobot hr q).mp hfresh
    obtain ⟨-, habsent⟩ | ⟨p, hp, -⟩ := h
    · rw [habsent] at hthere
      cases hthere
    · cases hnone.symm.trans hp

/-- A robot newly placed at an address of its own (R125). -/
theorem changeRobots_of_placed (hnone : s.place r = none) (hpresent : x.present = true)
    (hfree : ∀ q p, s.place q = some p → p.bus ≠ x.bus ∨ p.drop ≠ x.drop) :
    s.changeRobots (s.layout.withRobot r x) = placeRobot r { s with layout := s.layout.withRobot r x } := by
  rw [changeRobots_eq hl (lost := []) (fresh := [r]) (filter_range_eq_nil fun q hlost => ?_) (filter_range_eq_singleton hr fun q _ => ?_)]
  · rfl
  · obtain ⟨p', hp', ⟨rfl, -⟩ | ⟨-, -, hbus, hdrop⟩⟩ := (Layout.losesRobot_withRobot hl hr q).mp hlost
    · cases hnone.symm.trans hp'
    · exact (hfree q p' hp').elim (· hbus) (· hdrop)
  · exact (Layout.placesRobot_withRobot hr q).trans ⟨And.left, fun h => ⟨h, hnone, hpresent⟩⟩

/-- The one robot lost under a ROBOT record: the record's own, removed, moved or resized, or the one whose address it takes. -/
theorem changeRobots_of_lost {p : RobotRec} (hq : q < 32) (hp : s.place q = some p)
    (h : q = r ∧ (x.present = false ∨ (x.bus ≠ p.bus ∨ x.drop ≠ p.drop ∨ x.slots ≠ p.slots) ∧
        ∀ j y, j ≠ r → s.place j = some y → y.bus ≠ x.bus ∨ y.drop ≠ x.drop) ∨
      s.place r = none ∧ x.present = true ∧ p.bus = x.bus ∧ p.drop = x.drop) :
    ∃ fresh, (fresh = [] ∨ fresh = [r] ∧ q ≠ r) ∧ s.changeRobots (s.layout.withRobot r x) =
      fresh.foldl (fun t r => t.placeRobot r) { s.goOffline q false with layout := s.layout.withRobot r x } := by
  have hlost : (List.range 32).filter (fun j => s.layout.losesRobot (s.layout.withRobot r x) j) = [q] := by
    refine filter_range_eq_singleton hq fun j _ => (Layout.losesRobot_withRobot hl hr j).trans ?_
    constructor
    · rintro ⟨p', hp', ⟨rfl, -⟩ | ⟨hne, hthere, hbus, hdrop⟩⟩
      · obtain ⟨rfl, -⟩ | ⟨hnone, -⟩ := h
        · rfl
        · cases hnone.symm.trans hp'
      · obtain ⟨rfl, hgone | ⟨-, hfree⟩⟩ | ⟨-, -, hbus', hdrop'⟩ := h
        · rw [hgone] at hthere
          cases hthere
        · exact ((hfree j p' hne hp').elim (· hbus) (· hdrop)).elim
        · by_contra hjq
          exact (hl j q p' p hp' hp hjq).elim (· (hbus.trans hbus'.symm)) (· (hdrop.trans hdrop'.symm))
    · rintro rfl
      obtain ⟨rfl, hgone | ⟨hmoved, -⟩⟩ | ⟨hnone, hthere, hsame⟩ := h
      · exact ⟨p, hp, .inl ⟨rfl, .inl hgone⟩⟩
      · exact ⟨p, hp, .inl ⟨rfl, .inr (.inl (hmoved.imp Ne.symm (Or.imp Ne.symm Ne.symm)))⟩⟩
      · refine ⟨p, hp, .inr ⟨?_, hthere, hsame⟩⟩
        rintro rfl
        cases hnone.symm.trans hp
  by_cases hplaced : s.place r = none ∧ x.present = true
  · refine ⟨[r], .inr ⟨rfl, ?_⟩, changeRobots_eq hl hlost (filter_range_eq_singleton hr fun j _ =>
      (Layout.placesRobot_withRobot hr j).trans ⟨And.left, fun h => ⟨h, hplaced⟩⟩)⟩
    rintro rfl
    cases hplaced.1.symm.trans hp
  · exact ⟨[], .inl rfl, changeRobots_eq hl hlost (filter_range_eq_nil fun j hfresh =>
      hplaced ((Layout.placesRobot_withRobot hr j).mp hfresh).2)⟩

end

/-- Robots newly placed change the contexts of those robots alone. -/
theorem placeRobots_eq {fresh : List Nat} (h : fresh = [] ∨ fresh = [r] ∧ q ≠ r) :
    ∃ robots, fresh.foldl (fun t r => t.placeRobot r) s = { s with robots := robots } ∧
      ∀ j, j ≠ r ∨ j = q → tget .reset robots j = s.robot j := by
  obtain rfl | ⟨rfl, hne⟩ := h
  · exact ⟨s.robots, rfl, fun j _ => rfl⟩
  · refine ⟨_, rfl, fun j hj => tget_tset_ne _ _ _ _ _ ?_⟩
    exact hj.elim id fun h => h ▸ hne

end State
end Machine
end Sys2Proof
end

section
/-!
LAYOUT WRITE replaces the records it carries, or writes none: O49.
-/
namespace Sys2Proof
namespace Machine

/-- The layout with a STATION and a BUS record replaced. -/
def Layout.withStationAndBus (l : Layout) (i b : Nat) (x : StationRec) (y : BusRec) : Layout :=
  { l with stations := tset l.stations i x, buses := tset l.buses b y }

section
variable {s : State} {h : Hdr} (htakes : s.takes h .library)
include htakes

theorem exec_layoutWrite_of_run (records : List RawRecord) (hrun : s.mode = .run) :
    ∃ t, exec (.layoutWrite h records) s = .next t ∧ State.answered h 0x3A .mode .nothing s t ∧ t = { s with ports := t.ports } := by
  obtain ⟨hlistens, hgrants, -⟩ := htakes
  exact s.exec_request_of_block_unchanged (i := .layoutWrite h records) rfl hlistens hgrants (layoutWriteBlock_of_run hrun)

theorem exec_layoutWrite_of_fault {pre post : List RawRecord} {bad : RawRecord} (hsetup : s.mode = .setup)
    (hpre : ∀ x ∈ pre, RecordInRange x) {kind index field : Nat} (hbad : recordFault bad = some (kind, index, field)) :
    ∃ t, exec (.layoutWrite h (pre ++ bad :: post)) s = .next t ∧
      State.answered h 0x3A .range (.layoutFault kind index field) s t ∧ t = { s with ports := t.ports } := by
  obtain ⟨hlistens, hgrants, -⟩ := htakes
  exact s.exec_request_of_block_unchanged (i := .layoutWrite h (pre ++ bad :: post)) rfl hlistens hgrants
    (layoutWriteBlock_of_fault (s := s.goodFrameOn h.port.val) hsetup hpre hbad)

/-- A LAYOUT WRITE in range: the block acts, and the reply is sent. -/
theorem exec_layoutWrite {records : List RawRecord} (hsetup : s.mode = .setup) (hrecords : ∀ x ∈ records, RecordInRange x)
    (hne : records ≠ []) {u : State} (hu : (s.goodFrameOn h.port.val).applyLayout (records.foldl Layout.write s.layout) = u) :
    exec (.layoutWrite h records) s = .next (u.sendReply h 0x3A .done (.written records.length)) ∧
      (u.ports = (s.goodFrameOn h.port.val).ports →
        State.answered h 0x3A .done (.written records.length) s (u.sendReply h 0x3A .done (.written records.length))) := by
  obtain ⟨hlistens, hgrants, hlen⟩ := htakes
  have hblock : requestBlock (.layoutWrite h records) (s.goodFrameOn h.port.val) = u.done (.written records.length) := by
    rw [← hu]
    exact layoutWriteBlock_of_inRange (s := s.goodFrameOn h.port.val) hsetup hlen hrecords hne
  exact ⟨exec_request_of_grants (o := u.done (.written records.length)) rfl hlistens (s.portRefusal_of_grants hgrants) hblock,
    fun hports => s.answered_sendReply hports _ _ _⟩

section
variable (hsetup : s.mode = .setup) (hports : s.portsInv) (hl : s.layout.Distinct)
include hsetup hports hl

theorem layoutWrite_station_bus {i b : Nat} (x : StationRec) (y : BusRec)
    (hstation : RecordInRange (.station i ⟨x.zone, some x.source, x.budget, x.filter, some x.sense, x.confirm⟩))
    (hbus : RecordInRange (.bus b ⟨some y.pacing, y.interval⟩)) :
    ∃ t, exec (.layoutWrite h [.station i ⟨x.zone, some x.source, x.budget, x.filter, some x.sense, x.confirm⟩,
          .bus b ⟨some y.pacing, y.interval⟩]) s = .next t ∧
      State.answered h 0x3A .done (.written 2) s t ∧
      t.stationRec i = x ∧ (∀ j, j ≠ i → t.stationRec j = s.stationRec j) ∧
      t.busRec b = y ∧ (∀ c, c ≠ b → t.busRec c = s.busRec c) ∧
      t = { s with ports := t.ports,
                   layout := { s.layout with stations := t.layout.stations, buses := t.layout.buses } } := by
  have hi : i < 16 := hstation.1
  have hb : b < 4 := hbus.1
  have hu := State.applyLayout_of_robots (s := s.goodFrameOn h.port.val) (new := s.layout.withStationAndBus i b x y) hl rfl rfl
    (hports.goodFrameOn h.port).errorsWithin
  obtain ⟨hexec, hanswered⟩ := exec_layoutWrite htakes (records :=
    [.station i ⟨x.zone, some x.source, x.budget, x.filter, some x.sense, x.confirm⟩, .bus b ⟨some y.pacing, y.interval⟩]) hsetup
    (fun z hz => by
      obtain rfl | rfl := List.mem_pair.mp hz
      · exact hstation
      · exact hbus) (List.cons_ne_nil _ _) hu
  exact ⟨_, hexec, hanswered rfl, tget_tset_self _ _ _ _ hi, fun j hj => tget_tset_ne _ _ _ _ _ hj, tget_tset_self _ _ _ _ hb,
    fun c hc => tget_tset_ne _ _ _ _ _ hc, rfl⟩

theorem layoutWrite_port {p threshold : Nat} (hp : p < 4) (hne : p ≠ h.port.val) (hmin : 1 ≤ threshold) (hmax : threshold ≤ 254) :
    ∃ t, exec (.layoutWrite h [.port p threshold]) s = .next t ∧ t.threshold p = threshold ∧
      (∀ q, q ≠ p → t.threshold q = s.threshold q) ∧
      t.port p = (if threshold < (s.port p).errors then { s.port p with errors := threshold, degraded := true } else s.port p) ∧
      t.attention = (if threshold < (s.port p).errors ∧ (s.port p).degraded = false then s.raise .linkDegraded p
        else s).attention ∧
      t = { s with ports := t.ports, layout := { s.layout with thresholds := t.layout.thresholds },
                   attention := t.attention } := by
  have hport : (s.goodFrameOn h.port.val).port p = s.port p := s.port_goodFrameOn_ne h.port.val p hne
  have hu := State.applyLayout_of_threshold (s := s.goodFrameOn h.port.val) hl (hports.goodFrameOn h.port).errorsWithin hp threshold
  rw [hport] at hu
  obtain ⟨hexec, -⟩ := exec_layoutWrite htakes (records := [.port p threshold]) hsetup
    (fun z hz => by
      rw [List.mem_singleton.mp hz]
      exact ⟨hp, hmin, hmax⟩) (List.cons_ne_nil _ _) hu
  refine ⟨_, hexec, tget_tset_self _ _ _ _ hp, fun q hq => tget_tset_ne _ _ _ _ _ hq, ?_, ?_, rfl⟩
  · exact (State.port_modPort_ne _ _ _ _ hne).trans (tget_tset_self _ _ _ _ hp)
  · change (if threshold < (s.port p).errors ∧ (s.port p).degraded = false then _ else _ : State).attention = _
    split <;> rfl

theorem layoutWrite_line (x : LineRec) {raw : RawLine} (hraw : raw = ⟨x.stations, x.m, x.n, x.ringLength, x.lowMark, x.lead,
      some x.policy, x.depth, x.checkAttempts, some x.rounding, x.replyTimeout, x.retryLimit, x.pollInterval, x.probeInterval⟩)
    (hrange : RecordInRange (.line raw)) :
    ∃ t, exec (.layoutWrite h [.line raw]) s = .next t ∧ State.answered h 0x3A .done (.written 1) s t ∧
      t.ring = (if x.ringLength = s.line.ringLength then s.ring
        else { s.ring with read := 0, write := 0, loop := none, stalled := false }) ∧
      t.attention = (if x.ringLength ≠ s.line.ringLength ∧ x.lowMark < s.ringCount then s.raise .ringLow 0 else s).attention ∧
      (∀ i, i < 256 → t.style i =
        if (x.m ≠ s.line.m ∨ x.n ≠ s.line.n) ∧ min 256 (2 ^ (x.m + x.n)) ≤ i then ⟨.unknown, none⟩ else s.style i) ∧
      (∀ k, k < 128 → t.dispatchSet k = { s.dispatchSet k with
        inUse := (s.dispatchSet k).inUse - if x.m = s.line.m ∧ x.n = s.line.n then 0 else
          (((List.range 256).filter fun i => min 256 (2 ^ (x.m + x.n)) ≤ i).map (s.styleNamings k)).sum }) ∧
      (∀ i, i < 16 → t.station i = if x.stations = s.line.stations then s.station i
        else Station.powerOn (s.station i).zone (s.station i).source (s.station i).budget) ∧
      t = { s with ports := t.ports, layout := { s.layout with line := x }, ring := t.ring, styles := t.styles,
                   sets := t.sets, stations := t.stations, attention := t.attention } := by
  subst hraw
  set v := s.goodFrameOn h.port.val with hv
  have hu : v.applyLayout { s.layout with line := x } = ((v.relined x).restyled x s.line).restationed x s.line :=
    State.applyLayout_of_lineRecord (s := v) hl (hports.goodFrameOn h.port).errorsWithin x
  obtain ⟨hframe, hstyle, hset⟩ := State.restyled_spec (s := v.relined x) x s.line rfl
  have hstation (i : Nat) (hi : i < 16) := State.station_restationed (s := (v.relined x).restyled x s.line) x s.line hi
  have hstations := State.restationed_eq (s := (v.relined x).restyled x s.line) x s.line
  generalize hw : (v.relined x).restyled x s.line = w at *
  generalize hz : w.restationed x s.line = z at *
  obtain ⟨hexec, hanswered⟩ := exec_layoutWrite htakes (records := [.line ⟨x.stations, x.m, x.n, x.ringLength, x.lowMark, x.lead,
      some x.policy, x.depth, x.checkAttempts, some x.rounding, x.replyTimeout, x.retryLimit, x.pollInterval, x.probeInterval⟩])
    hsetup (fun y hy => by
      rw [List.mem_singleton.mp hy]
      exact hrange) (List.cons_ne_nil _ _) hu
  have hall : z = { v.relined x with styles := w.styles, sets := w.sets, stations := z.stations } := by
    rw [hstations, hframe]
  rw [hall] at hexec hanswered
  refine ⟨_, hexec, hanswered rfl, rfl, ?_, hstyle, fun k _ => hset k, fun i hi => (hstation i hi).trans ?_, rfl⟩
  · change (if x.ringLength ≠ s.line.ringLength ∧ x.lowMark < s.ringCount then _ else _ : State).attention = _
    split <;> rfl
  · rw [hframe]
    rfl

end
end
end Machine
end Sys2Proof
end

section
/-!
LAYOUT WRITE replaces the records it carries, or writes none: O49.
-/
namespace Sys2Proof
namespace Machine

/-- A ROBOT record written, and the record the layout then holds. -/
theorem write_robot {l : Layout} {r : Nat} {x : RobotRec} {raw : RawRecord}
    (h : x = { tget .default l.robots r with present := false } ∧ raw = .robot r .absent ∨
      x.present = true ∧ raw = .robot r (.present ⟨x.bus.val, x.drop, x.station, x.slots⟩)) :
    l.write raw = l.withRobot r x := by
  obtain ⟨rfl, rfl⟩ | ⟨hpresent, rfl⟩ := h
  · rfl
  · have hstored : storedRobot (tget .default l.robots r) (.present ⟨x.bus.val, x.drop, x.station, x.slots⟩) = x := by
      have hbus : Fin.ofNat 4 x.bus.val = x.bus := Fin.ofNat_val_eq_self x.bus
      simp only [storedRobot, hbus, ← hpresent]
    exact congrArg (fun y => ({ l with robots := tset l.robots r y } : Layout)) hstored

theorem lt_of_robotRecord {r : Nat} {x : RobotRec} {y : RobotRec} {raw : RawRecord}
    (h : x = y ∧ raw = .robot r .absent ∨ x.present = true ∧ raw = .robot r (.present ⟨x.bus.val, x.drop, x.station, x.slots⟩))
    (hraw : RecordInRange raw) : r < 32 := by
  obtain ⟨-, rfl⟩ | ⟨-, rfl⟩ := h
  · exact hraw
  · exact hraw.1

section
variable {s : State} {h : Hdr} (htakes : s.takes h .library) (hsetup : s.mode = .setup) (hports : s.portsInv)
  (hl : s.layout.Distinct)
include htakes hsetup hports hl

theorem layoutWrite_robot {r : Nat} {x : RobotRec} {raw : RawRecord}
    (hraw : x = { s.robotPlace r with present := false } ∧ raw = .robot r .absent ∨
      x.present = true ∧ raw = .robot r (.present ⟨x.bus.val, x.drop, x.station, x.slots⟩)) (hrange : RecordInRange raw) :
    ∃ t, exec (.layoutWrite h [raw]) s = .next t ∧ State.answered h 0x3A .done (.written 1) s t ∧
      t.robotPlace r = x ∧ (∀ q, q ≠ r → t.robotPlace q = s.robotPlace q) ∧
      t.layout = { s.layout with robots := t.layout.robots } ∧
      ((s.place r = none ∧ x.present = false ∨
          (∃ p, s.place r = some p ∧ x = { p with station := x.station }) →
        t = { s with ports := t.ports, layout := t.layout }) ∧
      (s.place r = none → x.present = true →
        (∀ q p, s.place q = some p → p.bus ≠ x.bus ∨ p.drop ≠ x.drop) →
        t.robot r = { s.robot r with
          enabled := true, online := false, motion := .idle, busy := none, fault := none
          slots := .replicate 8 ⟨.unknown, 0⟩, pollTimer := 0 } ∧
        (∀ q, q ≠ r → t.robot q = s.robot q) ∧ t = { s with ports := t.ports, layout := t.layout, robots := t.robots }) ∧
      ∀ q p, q < 32 → s.place q = some p → (s.robot q).motion = .idle → (s.stage q).load = none →
        (q = r ∧ (x.present = false ∨
            (x.bus ≠ p.bus ∨ x.drop ≠ p.drop ∨ x.slots ≠ p.slots) ∧
              ∀ j y, j ≠ r → s.place j = some y → y.bus ≠ x.bus ∨ y.drop ≠ x.drop) ∨
          s.place r = none ∧ x.present = true ∧ p.bus = x.bus ∧ p.drop = x.drop) →
        t.robot q = State.offlineRobot (s.robot q) ∧
        (∀ j, j ≠ q → j ≠ r → t.robot j = s.robot j) ∧
        t.pendOf q = ⟨none, none, none, none⟩ ∧ (∀ j, j ≠ q → t.pendOf j = s.pendOf j) ∧
        t.stage q = { s.stage q with channel := [], blocked := false } ∧ (∀ j, j ≠ q → t.stage j = s.stage j) ∧
        (∀ b, t.bus b = (s.endOnBuses q).bus b) ∧
        t = { s with ports := t.ports, layout := t.layout, robots := t.robots, pend := t.pend, staging := t.staging,
                     buses := t.buses, due := s.due ++ [.recompute q, .selection q] }) := by
  have hr := lt_of_robotRecord hraw hrange
  have hu : (s.goodFrameOn h.port.val).applyLayout ([raw].foldl Layout.write s.layout) =
      (s.goodFrameOn h.port.val).changeRobots (s.layout.withRobot r x) := by
    have hwrite : [raw].foldl Layout.write s.layout = s.layout.withRobot r x := write_robot hraw
    rw [hwrite]
    exact State.applyLayout_withRobot (s := s.goodFrameOn h.port.val) (hports.goodFrameOn h.port).errorsWithin
  obtain ⟨hexec, hanswered⟩ := exec_layoutWrite htakes (records := [raw]) hsetup
    (fun y hy => by
      rw [List.mem_singleton.mp hy]
      exact hrange) (List.cons_ne_nil _ _) hu
  have hlayout : ((s.goodFrameOn h.port.val).changeRobots (s.layout.withRobot r x)).layout = s.layout.withRobot r x := by simp
  refine ⟨_, hexec, hanswered (by simp), ?_, fun q hq => ?_, ?_, fun hkept => ?_, fun hnone hpresent hfree => ?_,
    fun q p hq hp hmotion hload hlost => ?_⟩
  · change tget .default ((s.goodFrameOn h.port.val).changeRobots (s.layout.withRobot r x)).layout.robots r = x
    rw [hlayout]
    exact tget_tset_self _ _ _ _ hr
  · change tget .default ((s.goodFrameOn h.port.val).changeRobots (s.layout.withRobot r x)).layout.robots q = _
    rw [hlayout]
    exact tget_tset_ne _ _ _ _ _ hq
  · change ((s.goodFrameOn h.port.val).changeRobots (s.layout.withRobot r x)).layout =
      { s.layout with robots := ((s.goodFrameOn h.port.val).changeRobots (s.layout.withRobot r x)).layout.robots }
    rw [hlayout]
    rfl
  · have heq := State.changeRobots_of_kept (s := s.goodFrameOn h.port.val) hl hr hkept
    change (s.goodFrameOn h.port.val).changeRobots (s.layout.withRobot r x) = _ at heq
    rw [heq]
    rfl
  · have heq := State.changeRobots_of_placed (s := s.goodFrameOn h.port.val) hl hr hnone hpresent hfree
    change (s.goodFrameOn h.port.val).changeRobots (s.layout.withRobot r x) = _ at heq
    rw [heq]
    exact ⟨tget_tset_self _ _ _ _ hr, fun q hq => tget_tset_ne _ _ _ _ _ hq, rfl⟩
  · obtain ⟨fresh, hfresh, heq⟩ := State.changeRobots_of_lost (s := s.goodFrameOn h.port.val) hl hr hq hp hlost
    rw [State.goOffline_of_idle (s := s.goodFrameOn h.port.val) hq hmotion hload] at heq
    obtain ⟨robots, hplaced, hrobots⟩ := State.placeRobots_eq (s := { s.goodFrameOn h.port.val with
      pend := tset s.pend q ⟨none, none, none, none⟩
      buses := (s.endOnBuses q).buses
      staging := tset s.staging q { s.stage q with channel := [], blocked := false }
      robots := tset s.robots q (State.offlineRobot (s.robot q))
      due := s.due ++ [.recompute q, .selection q]
      layout := s.layout.withRobot r x }) hfresh
    have hchanged := heq.trans hplaced
    change (s.goodFrameOn h.port.val).changeRobots (s.layout.withRobot r x) = _ at hchanged
    rw [hchanged]
    exact ⟨(hrobots q (.inr rfl)).trans (tget_tset_self _ _ _ _ hq),
      fun j hjq hjr => (hrobots j (.inl hjr)).trans (tget_tset_ne _ _ _ _ _ hjq), tget_tset_self _ _ _ _ hq,
      fun j hj => tget_tset_ne _ _ _ _ _ hj, tget_tset_self _ _ _ _ hq, fun j hj => tget_tset_ne _ _ _ _ _ hj, fun b => rfl, rfl⟩

end

theorem bus_endOnBuses (s : State) (q : Nat) {b : Nat} (hb : b < 4) : (s.endOnBuses q).bus b = match (s.bus b).cur with
    | some o => if o.robot = q then { s.bus b with cur := none } else s.bus b
    | none => s.bus b := tget_map _ _ _ _ _ hb

/-- Settles O49: the records are checked before any is written, and the blocks act on the one layout that results. -/
theorem layoutWriteReplacesItsRecords : Obligations.LayoutWriteReplacesItsRecords := by
  intro s h ok htakes hok
  have hrange (x : RawRecord) : ok x ↔ RecordInRange x := by
    refine (hok x).trans ?_
    cases x with
    | robot i r => cases r <;> rfl
    | _ => rfl
  refine ⟨fun records hrun => exec_layoutWrite_of_run htakes records hrun, fun pre post bad hsetup hpre hbad => ?_,
    fun hsetup hports hl => ⟨fun i b x y hx hy => ?_, fun p threshold hp hne hmin hmax => ?_, fun x raw hraw hx => ?_,
      fun r x raw hraw hx => ?_⟩⟩
  · cases hfault : recordFault bad with
    | none => exact absurd ((hrange bad).mpr ((recordFault_eq_none_iff bad).mp hfault)) hbad
    | some f =>
      obtain ⟨kind, index, field⟩ := f
      obtain ⟨t, hexec, hanswered, ht⟩ := exec_layoutWrite_of_fault (post := post) htakes hsetup
        (fun x hx => (hrange x).mp (hpre x hx)) hfault
      exact ⟨t, hexec, ⟨kind, index, field, hanswered, recordFault_names hfault⟩, ht⟩
  · exact layoutWrite_station_bus htakes hsetup hports hl x y ((hrange _).mp hx) ((hrange _).mp hy)
  · exact layoutWrite_port htakes hsetup hports hl hp hne hmin hmax
  · exact layoutWrite_line htakes hsetup hports hl x hraw ((hrange _).mp hx)
  · obtain ⟨t, hexec, hanswered, hplace, hothers, hlayout, hkept, hplaced, hlost⟩ :=
      layoutWrite_robot htakes hsetup hports hl hraw ((hrange _).mp hx)
    refine ⟨t, hexec, hanswered, hplace, hothers, hlayout, hkept, hplaced, fun q p hq hp hmotion hload hcase => ?_⟩
    obtain ⟨hrobot, hrobots, hpend, hpends, hstage, hstages, hbus, ht⟩ := hlost q p hq hp hmotion hload hcase
    exact ⟨hrobot, hrobots, hpend, hpends, hstage, hstages, fun b hb => (hbus b).trans (bus_endOnBuses s q hb), ht⟩

end Machine
end Sys2Proof
end

section
/-!
SUPPORT. Fields and records in bytes, and the drop bus frames (R161, R189, R191, R192): O53.
-/
namespace Sys2Proof
namespace Machine

/-! ### Fields (R189) -/

theorem wordOf_bytes (w : Word) : wordOf ((w >>> 8).setWidth 8) (w.setWidth 8) = w := by
  refine BitVec.eq_of_getLsbD_eq fun i hi => ?_
  simp only [wordOf, BitVec.getLsbD_or, BitVec.getLsbD_shiftLeft, BitVec.getLsbD_setWidth, BitVec.getLsbD_ushiftRight]
  by_cases h8 : i < 8
  · simp [h8, hi]
  · have hback : 8 + (i - 8) = i := by omega
    have hbyte : i - 8 < 8 := by omega
    have hword : i - 8 < 16 := by omega
    simp [h8, hi, hback, hbyte, hword]

/-- The high and the low byte of a number below 65536. -/
def highByte (n : Nat) : Byte := (BitVec.ofNat 16 n >>> 8).setWidth 8
def lowByte (n : Nat) : Byte := (BitVec.ofNat 16 n).setWidth 8

theorem bytesOfNat_eq (n : Nat) : bytesOfNat n = [highByte n, lowByte n] := rfl

theorem wordOf_high_low {n : Nat} (hn : n < 65536) : (wordOf (highByte n) (lowByte n)).toNat = n := by
  rw [highByte, lowByte, wordOf_bytes]
  exact Nat.mod_eq_of_lt hn

theorem toNat_byteOf {n : Nat} (hn : n < 256) : (byteOf n).toNat = n := Nat.mod_eq_of_lt hn

/-! ### Records (R191, R192) -/

theorem seqEntriesOf_bytes (es : List SeqEntry) : seqEntriesOf es.length (es.flatMap seqEntryBytes) = (es, true) := by
  induction es with
  | nil => rfl
  | cons e es ih =>
    have hstep : seqEntriesOf (e :: es).length ((e :: es).flatMap seqEntryBytes) =
        (⟨wordOf ((e.tag >>> 8).setWidth 8) (e.tag.setWidth 8), e.model, e.trim,
            wordOf ((e.option >>> 8).setWidth 8) (e.option.setWidth 8)⟩ :: (seqEntriesOf es.length (es.flatMap seqEntryBytes)).1,
          (seqEntriesOf es.length (es.flatMap seqEntryBytes)).2) := rfl
    rw [hstep, ih, wordOf_bytes, wordOf_bytes]

/-- The six bytes of a point record as received. -/
def rawPointBytes (x : RawPoint) : List Byte := bytesOf x.pointId ++ bytesOf x.pose ++ [x.schedule, x.flags]

theorem pointsOf_bytes (points : List RawPoint) : pointsOf points.length (points.flatMap rawPointBytes) = (points, true) := by
  induction points with
  | nil => rfl
  | cons x points ih =>
    have hstep : pointsOf (x :: points).length ((x :: points).flatMap rawPointBytes) =
        (⟨wordOf ((x.pointId >>> 8).setWidth 8) (x.pointId.setWidth 8), wordOf ((x.pose >>> 8).setWidth 8) (x.pose.setWidth 8),
            x.schedule, x.flags⟩ :: (pointsOf points.length (points.flatMap rawPointBytes)).1,
          (pointsOf points.length (points.flatMap rawPointBytes)).2) := rfl
    rw [hstep, ih, wordOf_bytes, wordOf_bytes]

/-- The two flags of a dispatch entry in its flag byte. -/
theorem flags_of_byte (enabled last : Bool) :
    (byteOf ((if enabled then 1 else 0) + (if last then 128 else 0))).getLsbD 0 = enabled ∧
      (byteOf ((if enabled then 1 else 0) + (if last then 128 else 0))).getLsbD 7 = last := by
  revert enabled last
  decide

theorem toInt_ofInt_of_trim {t : Int} (hmin : -32768 ≤ t) (hmax : t < 32768) : (BitVec.ofInt 16 t).toInt = t := by
  rw [BitVec.toInt_ofInt]
  exact Int.bmod_eq_of_le (by omega) (by omega)

theorem length_rawEntryBytes (es : List RawEntry) : (es.flatMap rawEntryBytes).length = 10 * es.length := by
  induction es with
  | nil => rfl
  | cons e es ih =>
    rw [List.flatMap_cons, List.length_append, ih, List.length_cons]
    have hten : (rawEntryBytes e).length = 10 := rfl
    omega

theorem entriesOf_bytes {es : List RawEntry} (hes : ∀ e ∈ es, e.wellFormed = true) :
    entriesOf es.length (es.flatMap rawEntryBytes) = (es, true) := by
  induction es with
  | nil => rfl
  | cons e es ih =>
    have hwell := hes e List.mem_cons_self
    simp only [RawEntry.wellFormed, fitsByte, fitsWord, Bool.and_eq_true, decide_eq_true_eq] at hwell
    obtain ⟨⟨⟨hrobot, hprogram⟩, hmin⟩, hmax⟩ := hwell
    obtain ⟨henabled, hlast⟩ := flags_of_byte e.enabled e.last
    have hstep : entriesOf (e :: es).length ((e :: es).flatMap rawEntryBytes) =
        (⟨(byteOf e.robot).toNat, (byteOf ((if e.enabled then 1 else 0) + (if e.last then 128 else 0))).getLsbD 0,
            (byteOf ((if e.enabled then 1 else 0) + (if e.last then 128 else 0))).getLsbD 7,
            (wordOf (highByte e.program) (lowByte e.program)).toNat,
            wordOf ((e.value >>> 8).setWidth 8) (e.value.setWidth 8), wordOf ((e.mask >>> 8).setWidth 8) (e.mask.setWidth 8),
            (wordOf ((BitVec.ofInt 16 e.trim >>> 8).setWidth 8) ((BitVec.ofInt 16 e.trim).setWidth 8)).toInt⟩ ::
            (entriesOf es.length (es.flatMap rawEntryBytes)).1,
          (entriesOf es.length (es.flatMap rawEntryBytes)).2) := rfl
    rw [hstep, ih fun x hx => hes x (List.mem_cons_of_mem _ hx), toNat_byteOf hrobot, henabled, hlast, wordOf_high_low hprogram,
      wordOf_bytes, wordOf_bytes, wordOf_bytes, toInt_ofInt_of_trim hmin hmax]

theorem slotRecordsOf_bytes (records : List SlotRecord) :
    slotRecordsOf (records.flatMap fun x => bytesOf x.program ++ bytesOf x.stamp) = some records := by
  induction records with
  | nil => rfl
  | cons x records ih =>
    have hstep : slotRecordsOf ((x :: records).flatMap fun x => bytesOf x.program ++ bytesOf x.stamp) =
        (slotRecordsOf (records.flatMap fun x => bytesOf x.program ++ bytesOf x.stamp)).map fun v =>
          ⟨wordOf ((x.program >>> 8).setWidth 8) (x.program.setWidth 8),
            wordOf ((x.stamp >>> 8).setWidth 8) (x.stamp.setWidth 8)⟩ :: v := rfl
    rw [hstep, ih, wordOf_bytes, wordOf_bytes]
    rfl

/-! ### Drop bus frames (R192) -/

/-- Bytes without a start byte are discarded. -/
theorem dropWhile_junk {c : Byte} {junk rest : List Byte} (h : c ∉ junk) :
    (junk ++ c :: rest).dropWhile (· != c) = c :: rest := by
  rw [List.dropWhile_append_of_pos fun x hx => by
    rw [bne_iff_ne]
    exact fun hxc => h (hxc ▸ hx)]
  exact List.dropWhile_cons_of_neg (by simp)

theorem replyAddress_spec : ∀ drop < 8, (replyAddress drop).getLsbD 7 = true ∧ (replyAddress drop).toNat % 8 = drop := by decide

section
variable {b : Fin 4} {addr kind : Byte} {payload junk : List Byte} (hlen : payload.length ≤ 512) (hjunk : 0xC3#8 ∉ junk)
include hlen hjunk

/-- The frame that opens with its start byte, whole, is judged. -/
theorem busCommand_of_frame (c1 c0 : Byte) :
    busCommand b (junk ++ 0xC3#8 :: ([addr, kind] ++ bytesOfNat payload.length ++ payload ++ [c1, c0])) =
      some (judgeReply b addr kind (highByte payload.length) (lowByte payload.length) payload [c1, c0]) := by
  have hcount := wordOf_high_low (n := payload.length) (by omega)
  have hshort : ¬ (payload ++ [c1, c0]).length < (wordOf (highByte payload.length) (lowByte payload.length)).toNat + 2 := by
    simp [hcount]
  have hopen : [addr, kind] ++ bytesOfNat payload.length ++ payload ++ [c1, c0] =
      addr :: kind :: highByte payload.length :: lowByte payload.length :: (payload ++ [c1, c0]) := rfl
  rw [busCommand, dropWhile_junk hjunk, hopen]
  dsimp only
  rw [if_neg hshort, hcount, List.take_left' rfl, List.drop_left' rfl]
  rfl

/-- A frame cut short is no command. -/
theorem busCommand_of_short {n : Nat} (hn : n < (dropFrame addr kind payload).length) :
    busCommand b (junk ++ (dropFrame addr kind payload).take n) = none := by
  obtain ⟨check, hcheck, hframe⟩ : ∃ check : List Byte, check.length = 2 ∧ dropFrame addr kind payload =
      0xC3#8 :: addr :: kind :: highByte payload.length :: lowByte payload.length :: (payload ++ check) := ⟨_, rfl, rfl⟩
  rw [hframe] at hn ⊢
  cases n with
  | zero =>
    rw [List.take_zero, List.append_nil, busCommand, List.dropWhile_eq_nil_iff.mpr fun x hx => by
      rw [bne_iff_ne]
      exact fun hxc => hjunk (hxc ▸ hx)]
  | succ n =>
    rw [List.take_succ_cons, busCommand, dropWhile_junk hjunk]
    obtain hn4 | ⟨m, rfl⟩ : n < 4 ∨ ∃ m, n = m + 4 := by
      by_cases h : n < 4
      · exact .inl h
      · exact .inr ⟨n - 4, by omega⟩
    · interval_cases n <;> rfl
    · have hcount := wordOf_high_low (n := payload.length) (by omega)
      have hshort : ((payload ++ check).take m).length < (wordOf (highByte payload.length) (lowByte payload.length)).toNat + 2 := by
        rw [hcount]
        simp only [List.length_cons, List.length_append, List.length_take, hcheck] at hn ⊢
        omega
      exact if_pos hshort

end

/-- A whole reply frame whose form is one of R192's is that reply. -/
theorem busCommand_of_reply {b : Fin 4} {drop : Nat} {kind : Byte} {payload junk : List Byte} {i : Instr} (hdrop : drop < 8)
    (hlen : payload.length ≤ 512) (hjunk : 0xC3#8 ∉ junk) (hreply : replyOf b drop kind payload = some i) :
    busCommand b (junk ++ dropFrame (replyAddress drop) kind payload) = some i := by
  obtain ⟨hdirection, haddress⟩ := replyAddress_spec drop hdrop
  refine (busCommand_of_frame hlen hjunk _ _).trans (congrArg some ?_)
  rw [judgeReply, if_pos ⟨hlen, rfl, hdirection⟩, haddress, hreply]

/-- A whole frame whose check is not the CRC of its bytes is an INVALID REPLY. -/
theorem judgeReply_of_badCheck {b : Fin 4} {addr kind c1 c0 : Byte} {payload : List Byte}
    (hcheck : [c1, c0] ≠ bytesOf (crc16 ([addr, kind] ++ bytesOfNat payload.length ++ payload))) :
    judgeReply b addr kind (highByte payload.length) (lowByte payload.length) payload [c1, c0] = .invalidReply b :=
  if_neg fun h => hcheck h.2.1

end Machine
end Sys2Proof
end

section
/-!
The bytes of a frame read as the command they spell, and a reply goes out as a frame (R171, R178, R190): O53.
-/
namespace Sys2Proof
namespace Machine

/-! ### What a run of bytes makes at a receiver (R171) -/

theorem hear_append (x : Receiver) (l m : List Byte) :
    hear x (l ++ m) = ((hear (hear x l).1 m).1, (hear x l).2 ++ (hear (hear x l).1 m).2) := by
  induction l generalizing x with
  | nil => rfl
  | cons b l ih =>
    rw [List.cons_append, hear, ih, hear, List.append_assoc]

theorem hear_skipping (l : List Byte) : hear .skipping l = (.skipping, []) := by
  induction l with
  | nil => rfl
  | cons b l ih =>
    rw [hear, hearByte, ih]
    rfl

/-- Bytes that are no sync byte leave the receiver HUNTING. -/
theorem hear_junk {junk : List Byte} (h : 0xA5#8 ∉ junk) : hear .hunting junk = (.hunting, []) := by
  induction junk with
  | nil => rfl
  | cons b junk ih =>
    have hb : b ≠ 0xA5#8 := fun hb => h (hb ▸ List.mem_cons_self)
    rw [hear, hearByte, if_neg hb, ih fun hmem => h (List.mem_cons_of_mem _ hmem)]
    rfl

theorem hear_sync : hear .hunting [0xA5#8, 0x5A#8] = (.receiving [], [.opening]) := rfl

/-- A frame being received is judged with its last byte, where none of its beginnings ends it. -/
theorem hear_receiving {taken rest : List Byte} {last : Byte}
    (h : ∀ p, p ≠ [] → p <+: rest → judgeFrame (taken ++ p) = (.receiving (taken ++ p), none)) :
    hear (.receiving taken) (rest ++ [last]) =
      ((judgeFrame (taken ++ rest ++ [last])).1, (judgeFrame (taken ++ rest ++ [last])).2.toList) := by
  induction rest generalizing taken with
  | nil =>
    rw [List.append_nil, List.nil_append, hear, hearByte, hear, List.append_nil]
  | cons b rest ih =>
    have hfirst : judgeFrame (taken ++ [b]) = (.receiving (taken ++ [b]), none) :=
      h [b] (List.cons_ne_nil _ _) ⟨rest, rfl⟩
    have hnext := ih (taken := taken ++ [b]) fun p hp hpre => by
      rw [List.append_assoc]
      exact h (b :: p) (List.cons_ne_nil _ _) (List.cons_prefix_cons.mpr ⟨rfl, hpre⟩)
    rw [List.cons_append, hear, hearByte, hfirst, hnext]
    simp only [List.append_assoc, List.singleton_append, Option.toList_none, List.nil_append]

/-! ### A line frame (R190) -/

section
variable {kind id : Byte} {payload : List Byte} (hlen : payload.length ≤ 512)
include hlen

/-- A beginning of a frame ends it nowhere. -/
theorem judgeFrame_of_short {p : List Byte} {c1 : Byte}
    (hp : p <+: kind :: id :: highByte payload.length :: lowByte payload.length :: (payload ++ [c1])) :
    judgeFrame p = (.receiving p, none) := by
  match p, hp with
  | [], _ => rfl
  | [_], _ => rfl
  | [_, _], _ => rfl
  | [_, _, _], _ => rfl
  | a :: a' :: l1 :: l0 :: rest, hp =>
    simp only [List.cons_prefix_cons] at hp
    obtain ⟨rfl, rfl, rfl, rfl, hrest⟩ := hp
    have hcount := wordOf_high_low (n := payload.length) (by omega)
    have hshort : rest.length < payload.length + 2 := by
      have := hrest.length_le
      simp only [List.length_append, List.length_singleton] at this
      omega
    simp only [judgeFrame, hcount]
    rw [if_neg (by omega), if_pos hshort]

/-- A frame's bytes after its sync bytes are judged by its check. -/
theorem hear_frame (c1 c0 : Byte) :
    hear (.receiving []) ([kind, id] ++ bytesOfNat payload.length ++ payload ++ [c1, c0]) =
      if [c1, c0] = bytesOf (crc16 ([kind, id] ++ bytesOfNat payload.length ++ payload)) then
        (.hunting, [.good kind id payload])
      else (.skipping, [.error .badCheck]) := by
  have hopen : [kind, id] ++ bytesOfNat payload.length ++ payload ++ [c1, c0] =
      (kind :: id :: highByte payload.length :: lowByte payload.length :: (payload ++ [c1])) ++ [c0] := by
    simp [bytesOfNat_eq]
  have hcount := wordOf_high_low (n := payload.length) (by omega)
  have hwhole : ¬ (payload ++ [c1] ++ [c0]).length < payload.length + 2 := by simp
  have hjudge : judgeFrame (kind :: id :: highByte payload.length :: lowByte payload.length :: (payload ++ [c1] ++ [c0])) =
      if [c1, c0] = bytesOf (crc16 ([kind, id] ++ bytesOfNat payload.length ++ payload)) then
        (.hunting, some (.good kind id payload))
      else (.skipping, some (.error .badCheck)) := by
    simp only [judgeFrame, hcount]
    rw [if_neg (by omega), if_neg hwhole, List.append_assoc, List.drop_left' rfl, List.take_left' rfl]
    rfl
  rw [hopen, hear_receiving (taken := []) fun p _ hp => by
    rw [List.nil_append]
    exact judgeFrame_of_short hlen hp]
  refine (congrArg (fun x : Receiver × Option Heard => (x.1, x.2.toList)) hjudge).trans ?_
  split <;> rfl

end

/-- A length above 512 ends the frame at once. -/
theorem hear_oversize {kind id l1 l0 : Byte} (h : 512 < (wordOf l1 l0).toNat) :
    hear (.receiving []) [kind, id, l1, l0] = (.skipping, [.error .oversize]) := by
  have hjudge : judgeFrame [kind, id, l1, l0] = (.skipping, some (.error .oversize)) := if_pos h
  have hheard := hear_receiving (taken := []) (rest := [kind, id, l1]) (last := l0) fun p hp hpre => by
    match p, hpre with
    | [_], _ => rfl
    | [_, _], _ => rfl
    | [_, _, _], _ => rfl
    | _ :: _ :: _ :: _ :: _, hpre => exact absurd hpre.length_le (by simp)
  refine hheard.trans ?_
  change ((judgeFrame [kind, id, l1, l0]).1, (judgeFrame [kind, id, l1, l0]).2.toList) = _
  rw [hjudge]
  rfl

theorem hear_synced (bytes : List Byte) :
    hear .hunting ([0xA5#8, 0x5A#8] ++ bytes) = ((hear (.receiving []) bytes).1, .opening :: (hear (.receiving []) bytes).2) := by
  rw [hear_append, hear_sync]
  rfl

/-! ### Replies (R178, R181) -/

theorem maskByte (m : BitVec 7) : m.setWidth 8 = 0#1 ++ m := by
  have happend : (0#1 ++ m).toNat = m.toNat := by
    rw [BitVec.toNat_append]
    simp
  refine BitVec.eq_of_toNat_eq (Eq.trans ?_ happend.symm)
  rw [BitVec.toNat_setWidth]
  exact Nat.mod_eq_of_lt (m.isLt.trans (by decide))

theorem frame_of_bytes {r : Reply} {k : List Byte} (h : r.contents.bytes = some k) :
    r.frame = some (lineFrame r.kind r.id (r.opening ++ k)) := by
  rw [Reply.frame, h]
  rfl

/-- Settles O53: the fields, the records and the frames each read back what they spell. -/
theorem framesSpellTheirCommands : Obligations.FramesSpellTheirCommands := by
  refine ⟨fun p id es hes => ?_, fun p id n first points hn hfirst hmin hmax => ?_, fun p id n es hn hes => ?_, fun p id mask => rfl,
    fun p id payload hlen => ?_, fun b drop slot dispatch welds junk hdrop hslot hdispatch hwelds hjunk => ?_,
    fun b drop records junk hdrop hlen hjunk => ?_, fun b addr kind c1 c0 payload junk hlen hjunk hcheck => ?_,
    fun b addr kind payload junk n hlen hjunk hn => busCommand_of_short hlen hjunk hn,
    fun kind id payload junk hlen hjunk => ?_, fun kind id c1 c0 payload hlen hcheck => ?_, fun kind id l1 l0 rest hover => ?_,
    fun r => ⟨fun h => ?_, fun taken psn h => ?_, fun m h => ?_⟩, rfl⟩
  · have hread : lineCommand p 0x10#8 id (byteOf es.length :: es.flatMap seqEntryBytes) =
        some (.seqAppend ⟨p, id, (seqEntriesOf (byteOf es.length).toNat (es.flatMap seqEntryBytes)).2⟩
          (seqEntriesOf (byteOf es.length).toNat (es.flatMap seqEntryBytes)).1) := rfl
    rw [hread, toNat_byteOf hes, seqEntriesOf_bytes]
  · have hcount : (byteOf (points.length - 1)).toNat + 1 = points.length := by
      rw [toNat_byteOf (by omega)]
      omega
    have hread : lineCommand p 0x31#8 id (bytesOfNat n ++ bytesOfNat first ++ [byteOf (points.length - 1)] ++
        points.flatMap rawPointBytes) =
        some (.progData ⟨p, id, (pointsOf ((byteOf (points.length - 1)).toNat + 1) (points.flatMap rawPointBytes)).2⟩
          (wordOf (highByte n) (lowByte n)).toNat (wordOf (highByte first) (lowByte first)).toNat
          (pointsOf ((byteOf (points.length - 1)).toNat + 1) (points.flatMap rawPointBytes)).1) := rfl
    refine hread.trans ?_
    rw [hcount, pointsOf_bytes, wordOf_high_low (by omega), wordOf_high_low hfirst]
  · have hread : lineCommand p 0x36#8 id (byteOf n :: es.flatMap rawEntryBytes) =
        some (.setWrite ⟨p, id, (entriesOf ((es.flatMap rawEntryBytes).length / 10) (es.flatMap rawEntryBytes)).2⟩ (byteOf n).toNat
          (entriesOf ((es.flatMap rawEntryBytes).length / 10) (es.flatMap rawEntryBytes)).1) := rfl
    have hcount : (es.flatMap rawEntryBytes).length / 10 = es.length := by
      rw [length_rawEntryBytes]
      omega
    rw [hread, hcount, entriesOf_bytes hes, toNat_byteOf (by omega)]
  · match payload, hlen with
    | [], _ => exact ⟨_, rfl⟩
    | _ :: _ :: _, _ => exact ⟨_, rfl⟩
  · refine busCommand_of_reply hdrop (Nat.le_of_ble_eq_true rfl) hjunk ?_
    have hread : replyOf b drop 0x84#8 ([byteOf slot, byteOf dispatch] ++ bytesOfNat welds) =
        some (.aborted b drop (byteOf slot).toNat (byteOf dispatch).toNat (wordOf (highByte welds) (lowByte welds)).toNat) := rfl
    rw [hread, toNat_byteOf hslot, toNat_byteOf hdispatch, wordOf_high_low hwelds]
  · refine busCommand_of_reply hdrop ?_ hjunk ?_
    · rw [List.length_flatMap]
      simp [bytesOf]
      omega
    · exact congrArg (Option.map fun v => Instr.slotReport b drop v) (slotRecordsOf_bytes records)
  · have hbytes : junk ++ [0xC3#8, addr, kind] ++ bytesOfNat payload.length ++ payload ++ [c1, c0] =
        junk ++ 0xC3#8 :: ([addr, kind] ++ bytesOfNat payload.length ++ payload ++ [c1, c0]) := by simp
    rw [hbytes, busCommand_of_frame hlen hjunk, judgeReply_of_badCheck hcheck]
  · have hframe : lineFrame kind id payload = [0xA5#8, 0x5A#8] ++ ([kind, id] ++ bytesOfNat payload.length ++ payload ++
        bytesOf (crc16 ([kind, id] ++ bytesOfNat payload.length ++ payload))) := by simp [lineFrame]
    have hgood : hear (.receiving []) ([kind, id] ++ bytesOfNat payload.length ++ payload ++
        bytesOf (crc16 ([kind, id] ++ bytesOfNat payload.length ++ payload))) = (.hunting, [.good kind id payload]) :=
      (hear_frame hlen _ _).trans (if_pos rfl)
    rw [hear_append, hear_junk hjunk, hframe, hear_synced, hgood]
    rfl
  · have hbytes : [0xA5#8, 0x5A#8, kind, id] ++ bytesOfNat payload.length ++ payload ++ [c1, c0] =
        [0xA5#8, 0x5A#8] ++ ([kind, id] ++ bytesOfNat payload.length ++ payload ++ [c1, c0]) := by simp
    rw [hbytes, hear_synced, hear_frame hlen, if_neg hcheck]
  · have hbytes : [0xA5#8, 0x5A#8, kind, id, l1, l0] ++ rest = [0xA5#8, 0x5A#8] ++ ([kind, id, l1, l0] ++ rest) := rfl
    rw [hbytes, hear_synced, hear_append, hear_oversize hover, hear_skipping]
    rfl
  · refine (frame_of_bytes (k := []) (by rw [h]; rfl)).trans ?_
    rw [List.append_nil]
    rfl
  · exact frame_of_bytes (k := [byteOf taken] ++ bytesOf psn) (by rw [h]; rfl)
  · exact frame_of_bytes (k := [0#1 ++ m]) (by rw [h, ← maskByte]; rfl)

end Machine
end Sys2Proof
end
